-- ==== Sys2Proof/Word.lean ====
section
/-! DEFINITION. The plain number types of the model: bytes, channel indexes, bands. -/

namespace Sys2Proof

/-- One byte of the configuration memory or of a notice's payload. -/
abbrev Byte := BitVec 8

/-- A channel: index `i` stands for the manual's channel `i + 1` (00_scope.md, Names and numbering). -/
abbrev Ch := Fin 4

/-- An urgency band, 0 (most urgent) to 5 (00_scope.md, Terms; R90). -/
abbrev Band := Fin 6

end Sys2Proof
end

