-- ==== Sys2Proof/Syntax.lean ====
section
/-! DEFINITION. The commands of the station: one constructor of `Instr` for each row of spec/opcode_table.json.
The table gives no operands; what the outside decides at each event is an operand here (log entry 5). -/

namespace Sys2Proof

/-- The sampled levels of one channel's encoder lines (pins ENAn, ENBn, ENIn); `true` is high. -/
structure EncLevels where
  a : Bool
  b : Bool
  i : Bool
  deriving DecidableEq, Repr

/-- A sampled level of a filtered line, with the time for which every sample has shown it (R3, R67, R168). -/
structure LineRun where
  level : Bool
  heldUs : Nat
  deriving DecidableEq, Repr

/-- The four panel input levels (pins PNOPN, PNCLS, PNMNT, PNLRN); `true` is high. -/
structure PanelLevels where
  opn : Bool
  cls : Bool
  maint : Bool
  learn : Bool
  deriving DecidableEq, Repr

/-- The panel inputs (R168). -/
inductive PanelInput where
  | opn | cls | maint | learn
  deriving DecidableEq, Repr

/-- What is sampled first when a configuration read or reread ends: the encoder levels of channels that become
fitted (R3), the first rain reading (R56), the first level of ANEM (R67) and the first vane sample (R71). -/
structure PinSample where
  enc : Vector EncLevels 4
  rain : Fin 1024
  anem : Bool
  van2 : Bool
  van1 : Bool
  van0 : Bool
  deriving DecidableEq, Repr

/-- The four expiring parts of a peer entry (R145). -/
inductive PartKind where
  | claim | waiting | wetness | wind
  deriving DecidableEq, Repr

/-- The commands. Each constructor's docstring names its row and the rule that carries it. -/
inductive Instr where
  /-- FULL_RESET (R207): RSTN is asserted; the straps and the first levels of the encoder and panel inputs are sampled. `anem`
  is the level ANEM stands at then. -/
  | fullReset (straps : BitVec 7) (enc : Vector EncLevels 4) (panel : PanelLevels) (anem : Bool)
  /-- STATION_TIME_STEP (R1): one ds step of the station's clock. -/
  | stationTimeStep
  /-- READ_TRY_FAILED (R208): the memory did not acknowledge; the third failure ends the read with no image. -/
  | readTryFailed
  /-- READ_RETRY_EXPIRY (R208): the 25 ms wait ends and the next try begins. -/
  | readRetryExpiry
  /-- CONFIG_READ_END (R212): the start-up read has taken these bytes, in address order. -/
  | configReadEnd (bytes : List Byte) (pins : PinSample)
  /-- COMMAND_RESTART (R163): the frame in hand is a console RESTART and is filed. -/
  | commandRestart
  /-- WARM_RESTART (R213): the pending restart takes effect. -/
  | warmRestart
  /-- REREAD_END (R214): the reread has taken these bytes, in address order. -/
  | rereadEnd (bytes : List Byte) (pins : PinSample)
  /-- ENCODER_LEVEL_ACCEPTED (R3): at one sample, the runs of levels the three filters of channel `n` see. -/
  | encoderLevelAccepted (n : Ch) (a b i : LineRun)
  /-- PINCH (R18): PINCHn is sampled low; `overcur` and `stall` say which other stop falls at the same moment (R20). -/
  | pinch (n : Ch) (overcur stall : Bool)
  /-- OVERCURRENT (R19): the over-limit interval reaches 200 ms; the flags as for PINCH. -/
  | overcurrent (n : Ch) (pinch stall : Bool)
  /-- STALL (R20): the stall moment is reached; the flags as for PINCH. -/
  | stall (n : Ch) (pinch overcur : Bool)
  /-- DEAD_TIME_END (R17). -/
  | deadTimeEnd (n : Ch)
  /-- RAMP_END (R16). -/
  | rampEnd (n : Ch)
  /-- COAST_WINDOW_CLOSE (R7). -/
  | coastWindowClose (n : Ch)
  /-- PAUSE_EXPIRY (R34). -/
  | pauseExpiry (n : Ch)
  /-- MSGOOD_LOW (R28): a low MSGOOD sample. -/
  | msgoodLow
  /-- MSGOOD_HIGH (R107): a high MSGOOD sample. -/
  | msgoodHigh
  /-- SUPPLY_RECOVERY_EXPIRY (R107). -/
  | supplyRecoveryExpiry
  /-- TIMED_REVIEW (R95). -/
  | timedReview
  /-- REOPEN_HOLD_EXPIRY (R86). -/
  | reopenHoldExpiry
  /-- HOLD_ON_EXPIRY (R113). -/
  | holdOnExpiry (n : Ch)
  /-- LISTENING_INTERVAL_END (R109). -/
  | listeningIntervalEnd
  /-- DRAW_PERIOD_EXPIRY (R117). -/
  | drawPeriodExpiry
  /-- RAIN_READING (R56): the conversion of RAIN at this station time. -/
  | rainReading (reading : Fin 1024)
  /-- CAPTURE_RETRY_EXPIRY (R57). -/
  | captureRetryExpiry
  /-- WETNESS_REFRESH_EXPIRY (R154). -/
  | wetnessRefreshExpiry
  /-- ANEM_PULSE (R67): ANEM has been sampled high and unchanged for `heldUs`. -/
  | anemPulse (heldUs : Nat)
  /-- WINDOW_END (R68). -/
  | windowEnd
  /-- VANE_SAMPLE (R71): the three vane lines at this station time. -/
  | vaneSample (van2 van1 van0 : Bool)
  /-- SECTOR_ACCEPTED (R71). -/
  | sectorAccepted
  /-- ANEM_SILENCE_EXPIRY (R73). -/
  | anemSilenceExpiry
  /-- GUST_PERIOD_EXPIRY (R155). -/
  | gustPeriodExpiry
  /-- TRANSMISSION_START (R124). -/
  | transmissionStart
  /-- FRAME_SUCCESS (R132): the last end bit is read back without error. -/
  | frameSuccess
  /-- ARBITRATION_LOSS (R130): the bit being sent, a recessive one, was read dominant. `pos` is its place in the frame, the
  start bit 0. -/
  | arbitrationLoss (pos : Nat)
  /-- BIT_ERROR (R131): the bit being sent was read back at the other level; `pos` is its place in the frame. -/
  | bitError (pos : Nat)
  /-- BIT_ERROR_HOLD_END (R131): the hold ends; `dominantRead` says whether a dominant bit was read during it, since its last
  LINE_IDLE where there was one (R124). -/
  | bitErrorHoldEnd (dominantRead : Bool)
  /-- LISTEN_ONLY_EXPIRY (R132). -/
  | listenOnlyExpiry
  /-- FRAME_ARRIVAL (R133): the bits read on the line from the start bit to the last end bit; `true` is recessive. -/
  | frameArrival (bits : List Bool)
  /-- ISOLATION_EXPIRY (R158). -/
  | isolationExpiry
  /-- FILE_WETNESS (R150): the frame in hand is a WETNESS notice and is filed. -/
  | fileWetness
  /-- FILE_GUST (R151). -/
  | fileGust
  /-- FILE_DRAW (R152). -/
  | fileDraw
  /-- OVERFLOW_CONDITION_END (R149). -/
  | overflowConditionEnd
  /-- PART_EXPIRY (R153): the part of the peer with this origin reaches its expiry. -/
  | partExpiry (origin : Nat) (part : PartKind)
  /-- COMMAND_OPEN (R162): the frame in hand is a console OPEN and is obeyed. -/
  | commandOpen
  /-- COMMAND_CLOSE (R162). -/
  | commandClose
  /-- COMMAND_STOP (R49). -/
  | commandStop
  /-- COMMAND_HOLD (R50). -/
  | commandHold
  /-- COMMAND_RELEASE (R50). -/
  | commandRelease
  /-- COMMAND_ACKNOWLEDGE (R163). -/
  | commandAcknowledge
  /-- COMMAND_REPORT (R163). -/
  | commandReport
  /-- STATE_PERIOD_EXPIRY (R156). -/
  | statePeriodExpiry (n : Ch)
  /-- PANEL_INPUT_CHANGE (R168): the input's level, and how long every sample has shown it. -/
  | panelInputChange (input : PanelInput) (level : Bool) (heldMs : Nat)
  /-- LEARN_HOLD_EXPIRY (R175). -/
  | learnHoldExpiry
  /-- ACK_HOLD_EXPIRY (R173). -/
  | ackHoldExpiry
  /-- REFUSAL_PATTERN_END (R179). -/
  | refusalPatternEnd
  /-- CONFIRM_DEADLINE (R201). -/
  | confirmDeadline
  /-- PAGE_WRITE_END (R203): the write transaction ends; `acked` says whether the memory acknowledged every byte. -/
  | pageWriteEnd (acked : Bool)
  /-- POLL_EXPIRY (R204): the memory is addressed; `acked` says whether it acknowledged. -/
  | pollExpiry (acked : Bool)
  /-- LINE_IDLE (R124): the seventh consecutive recessive bit is read. -/
  | lineIdle
  /-- START_BIT_FROM_ANOTHER_STATION (R124). -/
  | startBitFromAnotherStation
  /-- FRAME_ABANDONED (R133): the bits read from the start bit to the bit at which the receiver meets a fault. -/
  | frameAbandoned (bits : List Bool)
  /-- NOTICE_NOT_FILED (R146): the frame in hand is a STATE, an ALARM or a COMMAND that R161 ignores. -/
  | noticeNotFiled
  /-- CURRENT_CONVERSION (R19): the conversion of ISENn, in 0.1 A. -/
  | currentConversion (n : Ch) (reading : Fin 1024)
  /-- ANEM_LEVEL_FALL (R67): ANEM has been sampled low and unchanged for `heldUs`. -/
  | anemLevelFall (heldUs : Nat)
  deriving DecidableEq, Repr

end Sys2Proof
end

