-- ==== Sys2Proof/Decode.lean ====
section
/-! DEFINITION. Reading a command from the bits of the opcode table. No row of spec/opcode_table.json gives its command any
bits: the commands are events at the part's pins, not words. So no word spells a command (log entry 7). -/

namespace Sys2Proof

/-- The command a word of the table's bits spells: none, since no row gives bits. -/
def decodeTableWord (_nbits _w : Nat) : Option Instr := none

end Sys2Proof
end

