-- ==== Sys2Proof/Config.lean ====
section
/-! DEFINITION. The sizes and bounds the part fixes. The running configuration that the memory gives is state
(Machine/State.lean, `RunCfg`), because a read and a learn confirm change it. The manual leaves no value of an
executed command open, so this file holds no free value. -/

namespace Sys2Proof.Config

/-- The greatest station time, at which station time holds (R1). -/
def maxStationTime : Nat := 4294967295

/-- The greatest position count (R2). -/
def maxCount : Nat := 65535

/-- The transmit pool holds up to 8 notices (R136). -/
def poolCapacity : Nat := 8

/-- The receive queue holds up to 6 frames (R135). -/
def queueCapacity : Nat := 6

/-- The peer table holds up to 48 entries (R145). -/
def tableCapacity : Nat := 48

/-- The image of the configuration memory is 2048 bytes (R208). -/
def imageBytes : Nat := 2048

/-- How many reviews and evaluations one command runs at most before the rest is left to the next command.
The manual gives no bound: a review and an evaluation have no duration (log entry 8). -/
def settleBound : Nat := 64

end Sys2Proof.Config
end

