-- ==== Sys2Proof/Machine/State.lean ====
section
/-! DEFINITION. The state of the station, as plain data: every register, timer, queue, buffer and mark the manual
gives each block, the running configuration, and the queue of waiting commands. A timer is held as the ds that remain
to it (R1); `none` is a stopped timer. Levels are `true` for high; bits on the line are `true` for recessive. -/

namespace Sys2Proof.Machine

/-- Why the machine stops with a fault. The manual gives the part no fault that stops it: trouble is a flag, a FAULTED
channel, a line mode or an INVALID configuration, all of them state. -/
inductive Fault where
  /-- Raised by no meaning and by no step: the type needs a name only because the host's outcome has a place for it. Safe. -/
  | noFault
  deriving DecidableEq, Repr

/-- Why an instruction has no meaning. -/
inductive Refusal where
  /-- Raised only by an arm of `exec` whose row has no meaning yet; safe. No arm raises it. -/
  | notModelled (mnemonic : String)
  deriving DecidableEq, Repr

/-- A ds timer: `none` is stopped, `some r` runs and has `r` ds left; it is due at `some 0` (R1). -/
abbrev Timer := Option Nat

/-- The 2048 byte image as canonical cells: addresses strictly rising, no cell holding 0 (an unlisted address reads as
0, a convention of storage; log entry 24). -/
abbrev Memory := List Host.Cell

/-! ### Running configuration (chapter 11) -/

/-- A profile's drive parameters (R210 layout): duty in %, draw and current limit in 0.1 A, speed in counts per second. -/
structure ProfileCfg where
  duty : Nat
  draw : Nat
  limit : Nat
  speed : Nat
  deriving DecidableEq, Repr

inductive DecodeMode where
  | x1 | x2 | x4 | single
  deriving DecidableEq, Repr

inductive IndexMode where
  | off | reload | check
  deriving DecidableEq, Repr

/-- A fitted channel's record (11.3.1). `c` is the closed count C, `span` is S; times are in seconds. -/
structure ChanCfg where
  mode : DecodeMode
  swap : Bool
  debounceUs : Nat
  indexMode : IndexMode
  phaseA : Bool
  phaseB : Bool
  indexTol : Nat
  closeTol : Nat
  c : Nat
  span : Nat
  reversal : Nat
  retries : Nat
  guardS : Nat
  wr : Nat
  wc : Nat
  normal : ProfileCfg
  storm : ProfileCfg
  deriving DecidableEq, Repr

/-- What a read made of a channel (R210). -/
inductive ChanFit where
  | fitted (c : ChanCfg)
  | unfitted
  | inError
  deriving DecidableEq, Repr

/-- One upwind map entry (R77): a lead of `none` is NONE. -/
structure MapEntry where
  peer : Nat
  leads : Vector (Option Nat) 8
  deriving DecidableEq, Repr

/-- A VALID running configuration (11.3.1). Polarities are `true` for ACTIVE-HIGH. -/
structure RunCfg where
  circuit : Nat
  budget : Nat
  reserve : Nat
  unmappedLagS : Nat
  reopenHoldS : Nat
  isolationS : Nat
  policyClose : Bool
  closeLevel : Bool
  polOpn : Bool
  polCls : Bool
  polMaint : Bool
  polLearn : Bool
  maintSet : Vector Bool 4
  mask : Vector Bool 11
  console1 : Nat
  console2 : Nat
  rainFitted : Bool
  onsetConfirmS : Nat
  onsetDelta : Nat
  ceaseDelta : Nat
  dryHoldS : Nat
  wetFloor : Nat
  anemFitted : Bool
  k : Nat
  vaneFitted : Bool
  vaneOffset : Nat
  map : List MapEntry
  chans : Vector ChanFit 4
  deriving DecidableEq, Repr

/-! ### Travels and channel records (chapter 2) -/

inductive Direction where
  | opening | closing
  deriving DecidableEq, Repr

inductive Profile where
  | normal | storm
  deriving DecidableEq, Repr

inductive TravelKind where
  | close | reduce | opn | reference | learnClose | learnOpen | learnTimed
  deriving DecidableEq, Repr

inductive Origin where
  | threat | wind | isolation | closeInput | console | panel | start | learn
  deriving DecidableEq, Repr

/-- A travel record (R23). `admission` is the station time of the last admission. The backing end count and the pause
expiry stand with the channel states in which they are present (`ChState`). -/
structure Travel where
  kind : TravelKind
  target : Option Nat
  direction : Direction
  origin : Origin
  band : Band
  profile : Profile
  retries : Nat
  admission : Option Nat
  deriving DecidableEq, Repr

/-- The channel states (R25), each with what the record holds in it (R22, R23). -/
inductive ChState where
  | still
  | waiting (t : Travel)
  | running (t : Travel)
  | backing (t : Travel) (endCount : Nat)
  | paused (t : Travel) (left : Nat)
  | yielded (t : Travel)
  | held
  | faulted (obstruction encoder : Bool)
  deriving DecidableEq, Repr

/-- The refusal reasons of R46, in the order of its table. -/
inductive Reason where
  | accepted | config | maint | faulted | unreferenced | consoleHold | closeInput | isolated | threat | reopen | wind
  deriving DecidableEq, Repr

/-- A channel record (R22). -/
structure ChanRec where
  state : ChState
  referenced : Bool
  consoleHold : Bool
  refusal : Reason
  deriving DecidableEq, Repr

/-! ### Channel units (chapter 1) -/

/-- The drive states (R15); `ramp` holds the ds steps run since drive start. -/
inductive DriveState where
  | off
  | dead (d : Direction)
  | ramp (d : Direction) (run : Nat)
  | full (d : Direction)
  deriving DecidableEq, Repr

/-- The stall watch (R20): ds steps since drive start and since the last step. -/
structure StallWatch where
  sinceStart : Nat
  sinceStep : Nat
  deriving DecidableEq, Repr

/-- What R13 records at the first drive start of a closing travel. -/
structure IndexRecord where
  wasReferenced : Bool
  wasAbove : Bool
  deriving DecidableEq, Repr

/-- A channel unit (R2 to R21). `coast`, `deadTime` and `overLimit` hold the ds steps run since they opened. -/
structure ChanUnit where
  count : Nat
  accA : Bool
  accB : Bool
  accI : Bool
  heldA : Bool
  heldB : Bool
  illegal : Nat
  indexSeen : Bool
  indexRecord : Option IndexRecord
  drive : DriveState
  lastDir : Option Direction
  coast : Option Nat
  deadTime : Option Nat
  overLimit : Option Nat
  watch : Option StallWatch
  lastStepTime : Nat
  lastStepCount : Nat
  deriving DecidableEq, Repr

/-! ### Weather front end (chapter 3) -/

inductive RainState where
  | capturing | dry | wet | fault
  deriving DecidableEq, Repr

/-- The capture record (R57). `since` is the ds since the last capture reading; `retry` the time left of RETRY-WAIT. -/
inductive Capture where
  | idle
  | collecting (count least greatest sum since : Nat)
  | retryWait (left : Nat)
  deriving DecidableEq, Repr

/-- The rain sensor (R56 to R66). A run is held as the ds since it opened. -/
structure RainFront where
  state : Option RainState
  reference : Option Nat
  owed : Bool
  capture : Capture
  onsetRun : Option Nat
  ceaseRun : Option Nat
  faultRun : Option Nat
  inRangeRun : Option Nat
  wetTime : Option Nat
  intensity : Nat
  latest : Option Nat
  latestNow : Bool
  deriving DecidableEq, Repr

/-- The anemometer (R67 to R70, R73). `window` is the time left of the window; `silence` the time left of the 6000 ds
since the silence start, `none` once they have expired or where no silence is timed. -/
structure WindFront where
  level : Bool
  count : Nat
  window : Timer
  done : Nat
  peak : Nat
  gusts : List Nat
  lastSpeed : Nat
  silence : Timer
  silencePassed : Bool
  excluded : Bool
  deriving DecidableEq, Repr

/-- The vane (R71): sector 8 is unknown; the candidate holds its sector and its age in ds. -/
structure VaneFront where
  sector : Nat
  candidate : Option (Nat × Nat)
  deriving DecidableEq, Repr

/-! ### Closure evaluator (chapter 4) -/

inductive Need where
  | none
  | close (band : Band) (origin : Origin)
  | reduce (target : Nat)
  | reference
  deriving DecidableEq, Repr

/-- What the evaluator holds of a channel (R76); `none` where the channel has no such figure. -/
structure ChanEval where
  distance : Option Nat
  tau : Option Nat
  slack : Option Int
  slackOrigin : Option Origin
  ceiling : Nat
  need : Need
  deriving DecidableEq, Repr

structure Evaluator where
  v : Nat
  d : Nat
  arrival : Option Nat
  threat : Bool
  reopen : Timer
  timer : Timer
  chans : Vector ChanEval 4
  deriving DecidableEq, Repr

/-! ### Draw arbiter (chapter 5) -/

/-- The supply status (R107); `unset` before the first MSGOOD sample after full reset. -/
inductive Supply where
  | unset
  | good
  | recovering (left : Nat)
  | low
  deriving DecidableEq, Repr

/-- The six reported fields of R115; 15 is no band. -/
structure DrawContent where
  circuit : Nat
  draw : Nat
  runMost : Nat
  runLeast : Nat
  waitMost : Nat
  waitCount : Nat
  deriving DecidableEq, Repr

structure Arbiter where
  supply : Supply
  listening : Timer
  holdOn : Vector Timer 4
  deferred : Option Ch
  drawTimer : Timer
  lastDraw : DrawContent
  travelAtRestart : Bool
  deriving DecidableEq, Repr

/-! ### Line controller (chapter 6) -/

/-- A channel's reportable view (R55), in the codes STATE notices carry. -/
structure View where
  state : Nat
  position : Nat
  target : Nat
  band : Nat
  referenced : Bool
  consoleHold : Bool
  refusal : Nat
  deriving DecidableEq, Repr

/-- The notices this station sends, with the fields of R128. -/
inductive Notice where
  | wetness (phase age intensity : Nat)
  | gust (assessment speed sector : Nat)
  | draw (content : DrawContent) (hold : Nat)
  | state (n : Ch) (view : View)
  | alarm (kind channel : Nat) (raised : Bool)
  deriving DecidableEq, Repr

/-- A notice of the transmit pool (R136): `seq` is its queued time. -/
structure PoolEntry where
  notice : Notice
  rank : Nat
  seq : Nat
  deriving DecidableEq, Repr

inductive LineMode where
  | normal
  | listenOnly (left : Nat)
  | clashed
  deriving DecidableEq, Repr

/-- The transmitter (chapter 6): while it sends or holds dominant, it has the LOCKED notice of the pool. `sent` is its
position in the frame, the bit times of the frame begun: 0 until the start bit is on the line, then the bit at `sent - 1`
is. `held` is the bit times of the dominant hold begun, 0 to 8. -/
inductive Transmitter where
  | notSending
  | sending (locked : PoolEntry) (frame : List Bool) (sent : Nat)
  | holding (locked : PoolEntry) (held : Nat)
  deriving DecidableEq, Repr

/-- A valid frame of the receive queue (R135): `receipt` is its time of receipt, `age` the ds steps since. -/
structure RxFrame where
  origin : Nat
  kind : Nat
  payload : List Byte
  receipt : Nat
  age : Nat
  deriving DecidableEq, Repr

/-- The line controller. `waiting` holds the WAITING notices of the pool, head first (R136). `faultAck` is the station time of
the earliest acknowledge that has left LINE FAULT raised in the present LISTEN-ONLY, if there has been one (R132). -/
structure LineCtl where
  mode : LineMode
  failures : Nat
  faultAck : Option Nat
  idle : Bool
  receiving : Bool
  tx : Transmitter
  waiting : List PoolEntry
  nextSeq : Nat
  queue : List RxFrame
  deriving DecidableEq, Repr

/-! ### Notice handler (chapter 7) -/

structure ClaimPart where
  draw : Nat
  least : Option Band
  left : Nat
  deriving DecidableEq, Repr

structure WaitingPart where
  band : Band
  left : Nat
  deriving DecidableEq, Repr

structure WetnessPart where
  onset : Nat
  left : Nat
  deriving DecidableEq, Repr

structure WindPart where
  assessment : Nat
  sector : Nat
  left : Nat
  deriving DecidableEq, Repr

/-- A peer entry (R145). -/
structure PeerEntry where
  origin : Nat
  lastHeard : Nat
  circuit : Option Nat
  claim : Option ClaimPart
  waiting : Option WaitingPart
  wetness : Option WetnessPart
  wind : Option WindPart
  deriving DecidableEq, Repr

/-- The notice handler (R144). `inHand` is the frame it has taken from the queue and is filing; `peers` is kept in
rising order of origin, so that equal tables are equal data. -/
structure Handler where
  inHand : Option RxFrame
  peers : List PeerEntry
  isolated : Bool
  isolation : Timer
  lastOverflow : Option Nat
  overflow : Timer
  refresh : Timer
  gustTimer : Timer
  lastGust : Option (Nat × Nat)
  stateTimers : Vector Timer 4
  lastState : Vector View 4
  deriving DecidableEq, Repr

/-! ### Panel interface (chapter 8) -/

/-- The standing patterns (R177). -/
inductive Pattern where
  | off | steady | slow | fast
  | learn (n : Ch)
  deriving DecidableEq, Repr

/-- The panel interface (R167). `patternAge` and `refusal` hold the ds steps since the pattern began. -/
structure Panel where
  levels : PanelLevels
  active : PanelLevels
  armedOpn : Bool
  armedCls : Bool
  chord : Bool
  ackTimer : Timer
  ackGiven : Bool
  learnArmed : Bool
  learnTimer : Timer
  standing : Pattern
  patternAge : Nat
  refusal : Option Nat
  judging : Bool
  deriving DecidableEq, Repr

/-! ### Alarm flags (chapter 9) -/

/-- A flag's two marks (R183). -/
structure Flag where
  raised : Bool
  condition : Bool
  deriving DecidableEq, Repr

/-- Which flag (R183). -/
inductive FlagId where
  | obstruction (n : Ch)
  | encoder (n : Ch)
  | configStation
  | configChannel (n : Ch)
  | rainSensor | windSensor | lineFault | isolation | addressClash | peerOverflow | supplyLow | store
  deriving DecidableEq, Repr

/-! ### Configuration port (chapters 10 and 11) -/

inductive LearnPhase where
  | selecting | closing | opening | timedClosing | awaitingConfirm | storing
  deriving DecidableEq, Repr

/-- The learn session record (R193). `confirm` is the time left to the confirm deadline. -/
structure Session where
  channel : Ch
  phase : LearnPhase
  measureStart : Option Nat
  openingStart : Option Nat
  openingTime : Option Nat
  measuredSpan : Option Nat
  normalSpeed : Option Nat
  timedStart : Option Nat
  stormSpeed : Option Nat
  confirm : Timer
  deriving DecidableEq, Repr

/-- The store operation (R203): the page being written, the pages after it, the poll count, and whether the poll timer
runs (else the page's write transaction is in progress). Pages are named by their start address. -/
structure Store where
  page : Nat
  rest : List Nat
  polls : Nat
  polling : Bool
  deriving DecidableEq, Repr

/-- The read state (R208); `waiting` is the 25 ms wait before try `tryNo`. -/
inductive ReadState where
  | notStarted
  | reading (tryNo : Nat) (waiting : Bool)
  | ended
  deriving DecidableEq, Repr

structure Port where
  ownAddress : Option Nat
  read : ReadState
  image : Option Memory
  config : Option RunCfg
  restart : Bool
  session : Option Session
  store : Option Store
  deriving DecidableEq, Repr

/-- The station. `pending` is the queue of waiting commands; `reviewDue` and `evalDue` are the model's own marks of
work left inside the present moment (log entry 8). -/
structure State where
  pending : List Instr
  now : Nat
  port : Port
  units : Vector ChanUnit 4
  recs : Vector ChanRec 4
  rain : RainFront
  wind : WindFront
  vane : VaneFront
  eval : Evaluator
  arb : Arbiter
  line : LineCtl
  handler : Handler
  panel : Panel
  flags : Vector Flag 21
  reviewDue : Bool
  evalDue : Bool
  deriving DecidableEq, Repr

/-! ### Values after reset -/

/-- A channel unit after full reset (R21), with the levels its filters sample first (R3). -/
def ChanUnit.reset (l : EncLevels) : ChanUnit :=
  { count := 0, accA := l.a, accB := l.b, accI := l.i, heldA := l.a, heldB := l.b, illegal := 0,
    indexSeen := false, indexRecord := none, drive := .off, lastDir := none, coast := none, deadTime := none,
    overLimit := none, watch := none, lastStepTime := 0, lastStepCount := 0 }

/-- A channel record after full reset (R22). -/
def ChanRec.reset : ChanRec :=
  { state := .still, referenced := false, consoleHold := false, refusal := .accepted }

/-- The rain sensor before the configuration read ends (R74). -/
def RainFront.reset : RainFront :=
  { state := none, reference := none, owed := false, capture := .idle, onsetRun := none, ceaseRun := none,
    faultRun := none, inRangeRun := none, wetTime := none, intensity := 0, latest := none, latestNow := false }

/-- The anemometer before the configuration read ends (R74). ANEM is not sampled until then (R67), and the level held until
full reset brings one is low (log entry 6). -/
def WindFront.reset : WindFront :=
  { level := false, count := 0, window := none, done := 0, peak := 0, gusts := [], lastSpeed := 0,
    silence := none, silencePassed := false, excluded := false }

/-- What the evaluator holds of a channel after full reset, and of an unfitted channel (R76, R98). -/
def ChanEval.reset : ChanEval :=
  { distance := none, tau := none, slack := none, slackOrigin := none, ceiling := 0, need := .none }

/-- The closure evaluator after full reset (R98). -/
def Evaluator.reset : Evaluator :=
  { v := 0, d := 8, arrival := none, threat := false, reopen := none, timer := none,
    chans := Vector.replicate 4 ChanEval.reset }

/-- The DRAW content of a station with no travel (R117, R119). -/
def DrawContent.final (circuit : Nat) : DrawContent :=
  { circuit := circuit, draw := 0, runMost := 15, runLeast := 15, waitMost := 15, waitCount := 0 }

/-- The draw arbiter after full reset (R119). -/
def Arbiter.reset : Arbiter :=
  { supply := .unset, listening := none, holdOn := Vector.replicate 4 none, deferred := none, drawTimer := none,
    lastDraw := DrawContent.final 0, travelAtRestart := false }

/-- The line controller after full reset (R141). -/
def LineCtl.reset : LineCtl :=
  { mode := .normal, failures := 0, faultAck := none, idle := false, receiving := false, tx := .notSending, waiting := [], nextSeq := 0,
    queue := [] }

/-- The view of a STILL channel with no travel (R55, R164). -/
def View.reset : View :=
  { state := 0, position := 255, target := 255, band := 15, referenced := false, consoleHold := false, refusal := 0 }

/-- The notice handler after full reset (R164). -/
def Handler.reset : Handler :=
  { inHand := none, peers := [], isolated := false, isolation := none, lastOverflow := none, overflow := none,
    refresh := none, gustTimer := none, lastGust := none, stateTimers := Vector.replicate 4 none,
    lastState := Vector.replicate 4 View.reset }

/-- No panel input active. -/
def PanelLevels.allLow : PanelLevels := { opn := false, cls := false, maint := false, learn := false }

/-- The panel interface after full reset (R167), with the levels sampled first. -/
def Panel.reset (l : PanelLevels) : Panel :=
  { levels := l, active := PanelLevels.allLow, armedOpn := false, armedCls := false, chord := false,
    ackTimer := none, ackGiven := false, learnArmed := false, learnTimer := none, standing := .off, patternAge := 0,
    refusal := none, judging := false }

/-- The configuration port before the straps are sampled (R207, chapter 11). -/
def Port.reset : Port :=
  { ownAddress := none, read := .notStarted, image := none, config := none, restart := false, session := none,
    store := none }

/-- The station right after reset, before the straps and the input levels are sampled: the FULL_RESET command brings
those samples (log entry 6). -/
def State.reset : State :=
  { pending := [], now := 0, port := Port.reset,
    units := Vector.replicate 4 (ChanUnit.reset { a := false, b := false, i := false }),
    recs := Vector.replicate 4 ChanRec.reset, rain := RainFront.reset, wind := WindFront.reset,
    vane := { sector := 8, candidate := none }, eval := Evaluator.reset, arb := Arbiter.reset, line := LineCtl.reset,
    handler := Handler.reset, panel := Panel.reset PanelLevels.allLow,
    flags := Vector.replicate 21 { raised := false, condition := false }, reviewDue := false, evalDue := false }

end Sys2Proof.Machine
end

