-- ==== Sys2Proof/Machine/Frames.lean ====
section
/-! DEFINITION. Frames and payloads of the station line (06 R123, R125 to R128, R130, R133): the bits a notice is sent as,
and what a receiver makes of the bits it reads. A bit is `true` for recessive (1) and `false` for dominant (0) (06 6.1). -/

namespace Sys2Proof.Machine

/-- The low `n` bits of `v`, most significant first (06 6.2). -/
def natBits : Nat → Nat → List Bool
  | 0, _ => []
  | n + 1, v => v.testBit n :: natBits n v

/-- The number a list of bits spells, most significant first. -/
def bitsNat (bs : List Bool) : Nat := bs.foldl (fun a b => 2 * a + b.toNat) 0

/-- One bit into the CRC x^16 + x^12 + x^5 + 1 (R126, R209). -/
def crcStep (c : BitVec 16) (b : Bool) : BitVec 16 :=
  if c.msb = b then c <<< 1 else (c <<< 1) ^^^ 0x1021#16

/-- The CRC over bits, its register starting with all bits one, the result not inverted (R126, R209). -/
def crcBits (bs : List Bool) : BitVec 16 := bs.foldl crcStep 0xFFFF#16

/-- The bits of bytes, each most significant bit first. -/
def byteBits (bs : List Byte) : List Bool := bs.flatMap (fun b => natBits 8 b.toNat)

def byteOf (n : Nat) : Byte := BitVec.ofNat 8 n

/-- A two-byte field, high byte first (R128). -/
def be16 (n : Nat) : List Byte := [byteOf (n / 256), byteOf n]

def fromBe16 (hi lo : Byte) : Nat := 256 * hi.toNat + lo.toNat

/-- The payload length of a kind code; codes 0 and 7..15 are unknown (R127). -/
def kindLength (kind : Nat) : Option Nat :=
  match kind with
  | 1 => some 4
  | 2 => some 5
  | 3 => some 9
  | 4 => some 6
  | 5 => some 3
  | 6 => some 4
  | _ => none

/-- The kind code of a notice this station sends (R127). -/
def Notice.kind : Notice → Nat
  | .wetness .. => 1
  | .gust .. => 2
  | .draw .. => 3
  | .state .. => 4
  | .alarm .. => 5

/-- The flags byte of a STATE payload (R128). -/
def View.flags (v : View) : Nat := 128 * v.referenced.toNat + 64 * v.consoleHold.toNat + v.refusal

/-- The payload of a notice (R128). -/
def Notice.payload : Notice → List Byte
  | .wetness phase age intensity => byteOf phase :: be16 age ++ [byteOf intensity]
  | .gust assessment speed sector => be16 assessment ++ be16 speed ++ [byteOf sector]
  | .draw c hold =>
    byteOf c.circuit :: be16 c.draw ++ be16 hold ++
      [byteOf c.runMost, byteOf c.runLeast, byteOf c.waitMost, byteOf c.waitCount]
  | .state n v =>
    [byteOf (n.val + 1), byteOf v.state, byteOf v.position, byteOf v.target, byteOf v.band, byteOf v.flags]
  | .alarm kind channel raised => [byteOf kind, byteOf channel, byteOf raised.toNat]

/-- Bit stuffing (R123): after five bits of one level a bit of the opposite level, which counts in the runs that follow.
`last` and `run` are the level and length of the run so far. -/
def stuff (last : Bool) (run : Nat) : List Bool → List Bool
  | [] => []
  | b :: bs =>
    let r := if b = last then run + 1 else 1
    if r = 5 then b :: (!b) :: stuff (!b) 1 bs else b :: stuff b r bs

/-- Rank, origin, kind, length and payload bits (R125): what the check is computed over (R126). -/
def frameBody (rank origin kind : Nat) (payload : List Byte) : List Bool :=
  natBits 4 rank ++ natBits 7 origin ++ natBits 4 kind ++ natBits 4 payload.length ++ byteBits payload

/-- The bits of a frame as sent: start, body and check, stuffed, then the end field (R123, R125). -/
def frameBits (rank origin kind : Nat) (payload : List Byte) : List Bool :=
  let body := frameBody rank origin kind payload
  stuff true 0 (false :: (body ++ natBits 16 (crcBits body).toNat)) ++ [true, true, true]

/-- The frame of a pool entry, sent by the station of this address (R125, R137). -/
def PoolEntry.frame (e : PoolEntry) (origin : Nat) : List Bool :=
  frameBits e.rank origin e.notice.kind e.notice.payload

/-- How many bits the start bit and the arbitration field take, stuff bits among them and immediately after the last
origin bit counted (R130). -/
def arbitrationEnd (rank origin : Nat) : Nat :=
  (stuff true 0 (false :: (natBits 4 rank ++ natBits 7 origin))).length

/-- What a receiver has when it has asked for a number of bits inside the stuffed part (R123). -/
inductive Taken where
  /-- the bits read so far end before the bits asked for -/
  | short
  /-- a sixth bit of one level -/
  | violation
  | got (bits : List Bool) (last : Bool) (run : Nat) (rest : List Bool)
  deriving DecidableEq, Repr

def Taken.push (b : Bool) : Taken → Taken
  | .got bits last run rest => .got (b :: bits) last run rest
  | t => t

/-- Remove the stuff bit that is owed once a run has reached five (R123). -/
def removeStuff (last : Bool) (run : Nat) (bs : List Bool) : Taken :=
  if run = 5 then
    match bs with
    | [] => .short
    | c :: cs => if c = last then .violation else .got [] c 1 cs
  else .got [] last run bs

/-- Take `n` bits, each after the stuff bit owed before it; one owed after the last is left to what comes next, so that a
field is judged at its last bit (R123, R133). -/
def takeBits : Nat → Bool → Nat → List Bool → Taken
  | 0, last, run, bs => .got [] last run bs
  | n + 1, last, run, bs =>
    match removeStuff last run bs with
    | .got _ _ _ [] => .short
    | .got _ last run (b :: bs) => (takeBits n b (if b = last then run + 1 else 1) bs).push b
    | t => t

/-- The faults at which a receiver abandons a frame (R133). -/
inductive FrameFault where
  | stuffViolation | badOrigin | unknownKind | tooLong | wrongLength | checkMismatch | dominantEnd
  deriving DecidableEq, Repr

/-- What the bits read from a start bit amount to. -/
inductive RxOutcome where
  | incomplete
  | fault (f : FrameFault)
  | frame (origin kind : Nat) (payload : List Byte)
  deriving DecidableEq, Repr

/-- The end field: three recessive bits, and nothing after them (R125, R133). -/
def endField (valid : RxOutcome) : List Bool → RxOutcome
  | false :: _ => .fault .dominantEnd
  | true :: false :: _ => .fault .dominantEnd
  | true :: true :: false :: _ => .fault .dominantEnd
  | [true, true, true] => valid
  | _ => .incomplete

/-- Bytes from bits, eight each, most significant first. -/
def bytesOfBits : Nat → List Bool → List Byte
  | 0, _ => []
  | n + 1, bs => byteOf (bitsNat (bs.take 8)) :: bytesOfBits n (bs.drop 8)

/-- The receiver's last stage: payload, check, the stuff bit owed after it, and end field. `head` is the header's bits after
the start bit. -/
def receiveTail (head : List Bool) (origin kind len : Nat) (last : Bool) (run : Nat) (bs : List Bool) : RxOutcome :=
  match takeBits (8 * len) last run bs with
  | .short => .incomplete
  | .violation => .fault .stuffViolation
  | .got payload last run rest =>
    match takeBits 16 last run rest with
    | .short => .incomplete
    | .violation => .fault .stuffViolation
    | .got check last run rest =>
      if bitsNat check = (crcBits (head ++ payload)).toNat then
        match removeStuff last run rest with
        | .short => .incomplete
        | .violation => .fault .stuffViolation
        | .got _ _ _ rest => endField (.frame origin kind (bytesOfBits len payload)) rest
      else .fault .checkMismatch

/-- The receiver (R133): the first fault met in the bits read from a start bit on, or the frame. -/
def receive (bs : List Bool) : RxOutcome :=
  match takeBits 12 true 0 bs with
  | .short => .incomplete
  | .violation => .fault .stuffViolation
  | .got h1 last run rest =>
    if h1.head? = some true then .incomplete
    else
      let origin := bitsNat (h1.drop 5)
      if origin = 0 ∨ origin = 127 then .fault .badOrigin
      else
        match takeBits 4 last run rest with
        | .short => .incomplete
        | .violation => .fault .stuffViolation
        | .got h2 last run rest =>
          match kindLength (bitsNat h2) with
          | none => .fault .unknownKind
          | some want =>
            match takeBits 4 last run rest with
            | .short => .incomplete
            | .violation => .fault .stuffViolation
            | .got h3 last run rest =>
              if 12 < bitsNat h3 then .fault .tooLong
              else if bitsNat h3 ≠ want then .fault .wrongLength
              else receiveTail (h1.drop 1 ++ h2 ++ h3) origin (bitsNat h2) want last run rest

end Sys2Proof.Machine
end

