-- ==== Sys2Proof/Machine/Ops.lean ====
section
/-! DEFINITION. The named operations the meanings share: timers, the image buffer, readings of the state, single-field
updates, the lamp's standing pattern and the transmit pool. -/

namespace Sys2Proof.Machine

/-! ### Timers (R1) -/

/-- One ds step of a timer; a due timer stays due until its expiry is taken. -/
def tickDown (t : Timer) : Timer := t.map (· - 1)

/-- One ds step of a time that has run. -/
def tickUp (t : Option Nat) : Option Nat := t.map (· + 1)

/-- A timer whose duration has run out. -/
def due (t : Timer) : Bool := t = some 0

/-- A sum of a station time and a duration, as a figure (R1). -/
def satTime (t : Nat) : Nat := min t Config.maxStationTime

/-! ### The image buffer (chapter 11) -/

/-- What an address that no cell lists reads as (a convention of storage; log entry 24). -/
def Memory.unlisted : Byte := 0

/-- The byte at an address. -/
def Memory.read : Memory → Nat → Byte
  | [], _ => Memory.unlisted
  | (a, b) :: m, x => if x = a then b else if x < a then Memory.unlisted else Memory.read m x

/-- Write one byte, keeping the canonical form. -/
def Memory.write : Memory → Nat → Byte → Memory
  | [], x, v => if v = Memory.unlisted then [] else [(x, v)]
  | (a, b) :: m, x, v =>
    if x < a then (if v = Memory.unlisted then (a, b) :: m else (x, v) :: (a, b) :: m)
    else if x = a then (if v = Memory.unlisted then m else (x, v) :: m)
    else (a, b) :: Memory.write m x v

/-- The cells from an address on rise strictly, and none holds what an unlisted address reads as. -/
def Memory.wfFrom : Nat → Memory → Bool
  | _, [] => true
  | lo, (a, b) :: m => decide (lo ≤ a) && decide (b ≠ Memory.unlisted) && Memory.wfFrom (a + 1) m

/-- The canonical form. -/
def Memory.wf (m : Memory) : Bool := Memory.wfFrom 0 m

/-- The image a read of these bytes, taken from address `a` on, gives (R208). -/
def Memory.ofBytes : Nat → List Byte → Memory
  | _, [] => []
  | a, b :: bs => if b = Memory.unlisted then Memory.ofBytes (a + 1) bs else (a, b) :: Memory.ofBytes (a + 1) bs

/-- The `n` bytes from address `a` on that these cells list, none of them below `a`. -/
def Memory.bytesAt : Nat → Nat → Memory → List Byte
  | 0, _, _ => []
  | n + 1, a, [] => Memory.unlisted :: Memory.bytesAt n (a + 1) []
  | n + 1, a, (x, b) :: m =>
    if a = x then b :: Memory.bytesAt n (a + 1) m
    else Memory.unlisted :: Memory.bytesAt n (a + 1) ((x, b) :: m)

/-- The `n` bytes of an image from address `a` on, in address order. -/
def Memory.bytes (n a : Nat) (m : Memory) : List Byte := Memory.bytesAt n a (m.dropWhile (fun c => decide (c.1 < a)))

/-- Write a two-byte field, high byte first (11.3.1). -/
def Memory.write16 (m : Memory) (x v : Nat) : Memory := (m.write x (byteOf (v / 256))).write (x + 1) (byteOf v)

/-! ### Channel states -/

/-- The travel record of a channel state, where one is present (R25). -/
def ChState.travel? : ChState → Option Travel
  | .waiting t | .running t | .backing t _ | .paused t _ | .yielded t => some t
  | _ => none

/-- The direction in which the travel controller energises the drive in a state: only in RUNNING and BACKING (R15, R25). -/
def ChState.driveDir? : ChState → Option Direction
  | .running t => some t.direction
  | .backing _ _ => some .opening
  | _ => none

/-- The state code of R55. -/
def ChState.code : ChState → Nat
  | .still => 0
  | .waiting _ => 1
  | .running _ => 2
  | .backing _ _ => 3
  | .paused _ _ => 4
  | .yielded _ => 5
  | .held => 6
  | .faulted _ _ => 7

def ChState.isRunning : ChState → Bool
  | .running _ => true
  | _ => false

def ChState.isBacking : ChState → Bool
  | .backing _ _ => true
  | _ => false

/-- RUNNING or BACKING: the states whose draw is counted (R25, R100). -/
def ChState.moving (c : ChState) : Bool := c.isRunning || c.isBacking

/-- WAITING or YIELDED: the candidates of an admission pass (R105). -/
def ChState.isCandidate : ChState → Bool
  | .waiting _ | .yielded _ => true
  | _ => false

/-- The state with its travel record replaced. -/
def ChState.withTravel (c : ChState) (t : Travel) : ChState :=
  match c with
  | .waiting _ => .waiting t
  | .running _ => .running t
  | .backing _ e => .backing t e
  | .paused _ l => .paused t l
  | .yielded _ => .yielded t
  | c => c

def Direction.flip : Direction → Direction
  | .opening => .closing
  | .closing => .opening

/-- The refusal code of R46. -/
def Reason.code : Reason → Nat
  | .accepted => 0
  | .config => 1
  | .maint => 2
  | .faulted => 3
  | .unreferenced => 4
  | .consoleHold => 5
  | .closeInput => 6
  | .isolated => 7
  | .threat => 8
  | .reopen => 9
  | .wind => 10

/-- The origins of request-origin travels (R23). -/
def Origin.isRequest : Origin → Bool
  | .console | .panel => true
  | _ => false

def TravelKind.isLearn : TravelKind → Bool
  | .learnClose | .learnOpen | .learnTimed => true
  | _ => false

def ChanCfg.profile (k : ChanCfg) : Profile → ProfileCfg
  | .normal => k.normal
  | .storm => k.storm

/-! ### Readings of the state -/

/-- The record of a channel the running configuration marks fitted. -/
def State.chan? (s : State) (n : Ch) : Option ChanCfg :=
  match s.port.config with
  | none => none
  | some c =>
    match c.chans[n] with
    | .fitted k => some k
    | _ => none

def State.fitted (s : State) (n : Ch) : Bool := (s.chan? n).isSome

def State.stateOf (s : State) (n : Ch) : ChState := s.recs[n].state

def State.travel? (s : State) (n : Ch) : Option Travel := (s.stateOf n).travel?

/-- Between a warm restart taking effect and the end of its reread (R213, R214). -/
def State.rereading (s : State) : Bool := s.port.restart && decide (s.port.read ≠ .ended)

/-- The running configuration is VALID and no reread runs: reviews and evaluations are made (R95, R98, R104). -/
def State.deciding (s : State) : Bool := s.port.config.isSome && !s.rereading

/-- The notice handler takes frames from the end of the start-up read on, also through a reread (R144, R164, R165). -/
def State.filing (s : State) : Bool := s.port.config.isSome || decide (s.port.read = .ended)

/-- In the closed-end zone: referenced, count no more than the close tolerance above C (R31); this is also closed (R48). -/
def State.closed (s : State) (n : Ch) : Bool :=
  match s.chan? n with
  | none => false
  | some k => s.recs[n].referenced && decide (s.units[n].count ≤ k.c + k.closeTol)

def State.learnChannel? (s : State) : Option Ch := s.port.session.map (·.channel)

def State.isLearnChannel (s : State) (n : Ch) : Bool := s.learnChannel? = some n

def State.maintActive (s : State) : Bool := s.panel.active.maint

/-- MAINT is active and the channel is in the maintenance set (R38, R46, R51). -/
def State.maintHolds (s : State) (n : Ch) : Bool :=
  match s.port.config with
  | none => false
  | some c => s.maintActive && c.maintSet[n]

/-- The CLOSE input is active in LEVEL mode (R45, R91, R172). -/
def State.closeLevelActive (s : State) : Bool :=
  match s.port.config with
  | none => false
  | some c => c.closeLevel && s.panel.active.cls

/-- Isolation-close holds (R160). -/
def State.isolationClose (s : State) : Bool :=
  match s.port.config with
  | none => false
  | some c => c.policyClose && s.handler.isolated

/-- One of the four conditions under which no OPEN travel exists (R45). -/
def State.openBarred (s : State) : Bool :=
  s.eval.threat || s.eval.reopen.isSome || s.closeLevelActive || s.isolationClose

/-- The own wind report is offered (R72). -/
def State.reportOffered (s : State) : Bool :=
  match s.port.config with
  | none => false
  | some c => c.anemFitted && !s.wind.excluded

/-- The own assessment (R70): the greatest of the minute peak so far and the gust record. -/
def WindFront.assessment (w : WindFront) : Nat := w.gusts.foldl max w.peak

def LineMode.isNormal : LineMode → Bool
  | .normal => true
  | _ => false

/-- The LOCKED notice (R136). -/
def Transmitter.locked? : Transmitter → Option PoolEntry
  | .notSending => none
  | .sending e _ _ => some e
  | .holding e _ => some e

/-- How many notices the pool holds, the LOCKED one counted (R136). -/
def LineCtl.poolSize (l : LineCtl) : Nat := l.waiting.length + (if l.tx.locked?.isSome then 1 else 0)

/-! ### Single updates -/

def State.setUnit (s : State) (n : Ch) (u : ChanUnit) : State := { s with units := s.units.set n u }

def State.setRec (s : State) (n : Ch) (r : ChanRec) : State := { s with recs := s.recs.set n r }

def State.setFlag (s : State) (i : Fin 21) (f : Flag) : State := { s with flags := s.flags.set i f }

def State.setSession (s : State) (p : Option Session) : State := { s with port := { s.port with session := p } }

/-- An event of R96 asks for a review; none is made while the configuration is INVALID or a reread runs (R95, R99). -/
def State.askReview (s : State) : State := if s.deciding then { s with reviewDue := true } else s

/-- An event of R104 asks for an evaluation; none is made while the configuration is INVALID or a reread runs. -/
def State.askEval (s : State) : State := if s.deciding then { s with evalDue := true } else s

/-- The four channels in order. -/
def channels : List Ch := [0, 1, 2, 3]

/-- Do something for each channel in order from 1 to 4. -/
def State.eachChannel (s : State) (f : Ch → State → State) : State := channels.foldl (fun s n => f n s) s

/-! ### Alarm flags: which is where (R183, R186) -/

/-- The place of a flag in the order of R186: by kind code, within one code station scope before channels 1 to 4. -/
def FlagId.index : FlagId → Fin 21
  | .obstruction n => ⟨n.val, by omega⟩
  | .encoder n => ⟨4 + n.val, by omega⟩
  | .configStation => 8
  | .configChannel n => ⟨9 + n.val, by omega⟩
  | .rainSensor => 13
  | .windSensor => 14
  | .lineFault => 15
  | .isolation => 16
  | .addressClash => 17
  | .peerOverflow => 18
  | .supplyLow => 19
  | .store => 20

/-- The kind code of the flag at a place (R183). -/
def flagCode (i : Fin 21) : Nat :=
  if i.val < 4 then 1 else if i.val < 8 then 2 else if i.val < 13 then 3 else i.val - 9

/-- The channel of the flag at a place, 0 for a station flag (R183). -/
def flagChannel (i : Fin 21) : Nat :=
  if i.val < 4 then i.val + 1 else if i.val < 8 then i.val - 3
  else if 9 ≤ i.val ∧ i.val < 13 then i.val - 8 else 0

def State.flag (s : State) (f : FlagId) : Flag := s.flags[f.index]

/-! ### The lamp's standing pattern (R177) -/

/-- A kind code is masked (R187). -/
def RunCfg.masked (c : RunCfg) (code : Nat) : Bool := c.mask.toList.getD (code - 1) false

/-- An unmasked flag is raised. -/
def State.alarmShows (s : State) (c : RunCfg) : Bool :=
  (List.finRange 21).any (fun i => s.flags[i].raised && !c.masked (flagCode i))

/-- The standing pattern (R177, R180, R182): OFF until the start-up read ends, FAST while the configuration is INVALID. -/
def State.standing (s : State) : Pattern :=
  match s.port.config with
  | none => if (s.flag .configStation).condition then .fast else .off
  | some c =>
    match s.learnChannel? with
    | some n => .learn n
    | none =>
      if s.alarmShows c then .fast
      else if channels.any (fun n => s.fitted n && (s.stateOf n).moving) then .slow
      else if channels.any (fun n => s.fitted n && !s.closed n) then .steady
      else .off

/-- Re-judge the standing pattern; a different pattern starts from its beginning (R178). -/
def State.judgeLamp (s : State) : State :=
  if s.standing = s.panel.standing then s
  else { s with panel := { s.panel with standing := s.standing, patternAge := 0 } }

/-- Show the refusal pattern from its beginning (R179). -/
def State.askRefusal (s : State) : State := { s with panel := { s.panel with refusal := some 0 } }

/-! ### The transmit pool (06 6.7) -/

/-- The coalescing keys agree (R136): the kind for WETNESS, GUST and DRAW, the kind and channel for STATE; ALARM has none. -/
def sameKey : Notice → Notice → Bool
  | .wetness .., .wetness .. => true
  | .gust .., .gust .. => true
  | .draw .., .draw .. => true
  | .state n _, .state m _ => n = m
  | _, _ => false

/-- The order of WAITING notices (R136): rank, then queued time. -/
def PoolEntry.before (e f : PoolEntry) : Bool := e.rank < f.rank || (e.rank = f.rank && e.seq < f.seq)

/-- Place a notice among the WAITING notices. -/
def poolInsert (e : PoolEntry) : List PoolEntry → List PoolEntry
  | [] => [e]
  | f :: w => if e.before f then e :: f :: w else f :: poolInsert e w

/-- The less urgent of two for dropping: the greater rank, among equals the earlier queued time (R140). -/
def lessUrgent (e f : PoolEntry) : PoolEntry :=
  if f.rank > e.rank || (f.rank = e.rank && f.seq < e.seq) then f else e

/-- The least urgent WAITING notice (R140). -/
def leastUrgent : List PoolEntry → Option PoolEntry
  | [] => none
  | e :: w => some (w.foldl lessUrgent e)

/-- A submission (R138, R140): coalesce in place, join, or make room by dropping the least urgent. `locked` counts the
LOCKED notice. -/
def poolSubmit (locked : Nat) (e : PoolEntry) (w : List PoolEntry) : List PoolEntry :=
  match w.find? (fun f => sameKey e.notice f.notice) with
  | some old => poolInsert { e with seq := old.seq } (w.erase old)
  | none =>
    if w.length + locked < Config.poolCapacity then poolInsert e w
    else
      match leastUrgent w with
      | none => w
      | some v => if e.rank < v.rank then poolInsert e (w.erase v) else w

/-- Submit a notice at a rank (R136 to R140); a station without an address discards it (R122). -/
def State.submit (s : State) (n : Notice) (rank : Nat) : State :=
  match s.port.ownAddress with
  | none => s
  | some _ =>
    let locked := if s.line.tx.locked?.isSome then 1 else 0
    { s with line := { s.line with
        nextSeq := s.line.nextSeq + 1
        waiting := poolSubmit locked { notice := n, rank := rank, seq := s.line.nextSeq } s.line.waiting } }

/-- The LOCKED notice returns to WAITING, or is discarded for a newer one of its key (R139). -/
def poolReturn (e : PoolEntry) (w : List PoolEntry) : List PoolEntry :=
  if w.any (fun f => sameKey e.notice f.notice) then w else poolInsert e w

end Sys2Proof.Machine
end

