-- ==== Sys2Proof/Machine/Flags.lean ====
section
/-! DEFINITION. The alarm flags (chapter 9): raising, clearing and condition marks. -/

namespace Sys2Proof.Machine

/-- An ALARM notice for the flag at a place (R186). -/
def State.submitAlarm (s : State) (i : Fin 21) (raised : Bool) : State :=
  s.submit (.alarm (flagCode i) (flagChannel i) raised) 10

/-- Raise a flag: a flag already raised changes nothing (R185). -/
def State.raiseAt (s : State) (i : Fin 21) : State :=
  if s.flags[i].raised then s
  else ((s.setFlag i { s.flags[i] with raised := true }).submitAlarm i true).judgeLamp

/-- Clear a raised flag and report it (R186, R188). -/
def State.clearAt (s : State) (i : Fin 21) : State :=
  if s.flags[i].raised then
    ((s.setFlag i { s.flags[i] with raised := false }).submitAlarm i false).judgeLamp
  else s

def State.raise (s : State) (f : FlagId) : State := s.raiseAt f.index

/-- The owner reports whether the flag's condition holds (R184). -/
def State.setCondition (s : State) (f : FlagId) (holds : Bool) : State :=
  s.setFlag f.index { s.flags[f.index] with condition := holds }

/-- The condition begins, and the flag is raised at the beginning; a report while the mark is set changes nothing (R184, R185). -/
def State.beginCondition (s : State) (f : FlagId) : State :=
  if (s.flag f).condition then s else (s.setCondition f true).raise f

/-- The condition ends; the flag stays as it is (R184). -/
def State.endCondition (s : State) (f : FlagId) : State := s.setCondition f false

/-- The flags' places in the order of R186. -/
def flagOrder : List (Fin 21) := List.finRange 21

/-- Clear every raised flag whose condition mark is clear, in order (R188). -/
def State.clearEnded (s : State) : State :=
  flagOrder.foldl (fun s i => if s.flags[i].condition then s else s.clearAt i) s

/-- The LINE FAULT flag has been acknowledged, by R132: at an earlier station time. At the same one R189 leaves it raised, and so
does an acknowledge made once station time holds at its greatest value, however long before the expiry (log entry 42). -/
def State.faultAcked (s : State) : Bool :=
  match s.line.faultAck with
  | none => false
  | some a => decide (a < s.now)

/-- An acknowledge that leaves LINE FAULT raised is noted, the earliest alone (R132, R188). -/
def State.noteFaultAck (s : State) : State :=
  if (s.flag .lineFault).raised && (s.flag .lineFault).condition && s.line.faultAck.isNone then
    { s with line := { s.line with faultAck := some s.now } }
  else s

/-- The LINE FAULT condition ends at the LISTEN-ONLY expiry, and an acknowledged flag clears at that point (R132, R184). -/
def State.endLineFault (s : State) : State :=
  let s1 := ({ s with line := { s.line with faultAck := none } } : State).endCondition .lineFault
  if s.faultAcked then s1.clearAt FlagId.lineFault.index else s1

/-- Clear every raised flag, in order (R190). -/
def State.clearAll (s : State) : State := flagOrder.foldl State.clearAt s

/-- Raise every flag whose condition mark is set, in order (R191). -/
def State.raiseHolding (s : State) : State :=
  flagOrder.foldl (fun s i => if s.flags[i].condition then s.raiseAt i else s) s

end Sys2Proof.Machine
end

