-- ==== Sys2Proof/Machine/Notices.lean ====
section
/-! DEFINITION. What the station reports: the reportable view and STATE notices (R55, R156), the own draw and DRAW notices
(R100, R115 to R118), WETNESS and GUST notices (R154, R155). -/

namespace Sys2Proof.Machine

/-- ceil(a / b) for whole numbers. -/
def ceilDiv (a b : Nat) : Nat := (a + b - 1) / b

/-- The difference of two whole numbers. -/
def absDiff (a b : Nat) : Nat := (a - b) + (b - a)

/-! ### STATE -/

/-- Position percent (R55). -/
def State.positionPercent (s : State) (n : Ch) : Nat :=
  match s.chan? n with
  | none => 255
  | some k =>
    if s.recs[n].referenced then
      if s.units[n].count < k.c then 0
      else if k.c + k.span < s.units[n].count then 100
      else (s.units[n].count - k.c) * 100 / k.span
    else 255

/-- Target percent (R55). Only a reread's new C or S can leave a target outside the span, of an OPEN travel made during it:
below C it gives 0, and above C + S the formula as it stands, which exceeds the range of R128 (the model's choice, log entry
36). -/
def State.targetPercent (s : State) (n : Ch) : Nat :=
  match s.travel? n with
  | none => 255
  | some t =>
    match t.kind, t.target, s.chan? n with
    | .learnOpen, _, _ => 100
    | .opn, some x, some k => (x - k.c) * 100 / k.span
    | .reduce, some x, some k => (x - k.c) * 100 / k.span
    | .opn, _, _ => 255
    | .reduce, _, _ => 255
    | _, _, _ => 0

/-- The reportable view (R55). -/
def State.view (s : State) (n : Ch) : View :=
  { state := (s.stateOf n).code
    position := s.positionPercent n
    target := s.targetPercent n
    band := match s.travel? n with
      | none => 15
      | some t => t.band.val
    referenced := s.recs[n].referenced
    consoleHold := s.recs[n].consoleHold
    refusal := s.recs[n].refusal.code }

/-- The views differ in a field other than position percent (R156). -/
def View.changed (v w : View) : Bool := { v with position := 0 } ≠ { w with position := 0 }

/-- Submit a STATE, copy the view and start the period timer (R156). -/
def State.submitState (s : State) (n : Ch) : State :=
  let s1 := s.submit (.state n (s.view n)) 12
  { s1 with handler := { s1.handler with
      lastState := s1.handler.lastState.set n (s.view n)
      stateTimers := s1.handler.stateTimers.set n (some 3000) } }

/-- Submit a STATE where the view has changed (R156). -/
def State.checkView (s : State) (n : Ch) : State :=
  if (s.view n).changed s.handler.lastState[n] then s.submitState n else s

/-! ### DRAW -/

/-- The draw counted for a channel (R25, R100). -/
def State.channelDraw (s : State) (n : Ch) : Nat :=
  match s.chan? n, s.stateOf n with
  | some k, .running t => (k.profile t.profile).draw
  | some k, .backing _ _ => k.normal.draw
  | _, _ => 0

/-- The own draw (R100). -/
def State.ownDraw (s : State) : Nat := (channels.map s.channelDraw).sum

/-- The bands of the travels whose channel state passes a test. -/
def State.bandsWhere (s : State) (p : ChState → Bool) : List Nat :=
  channels.filterMap (fun n => if p (s.stateOf n) then (s.travel? n).map (·.band.val) else none)

/-- The most urgent of some bands, 15 if none. -/
def mostUrgent (bs : List Nat) : Nat := bs.foldl min 15

/-- The least urgent of some bands, 15 if none. -/
def leastUrgentBand : List Nat → Nat
  | [] => 15
  | b :: bs => bs.foldl max b

def State.anyTravel (s : State) : Bool := channels.any (fun n => (s.travel? n).isSome)

/-- The own circuit, where the configuration is VALID. -/
def State.circuit? (s : State) : Option Nat := s.port.config.map (·.circuit)

/-- The DRAW content of a circuit (R115). -/
def State.drawContent (s : State) (circuit : Nat) : DrawContent :=
  { circuit := circuit
    draw := s.ownDraw
    runMost := mostUrgent (s.bandsWhere ChState.moving)
    runLeast := leastUrgentBand (s.bandsWhere ChState.moving)
    waitMost := mostUrgent (s.bandsWhere ChState.isCandidate)
    waitCount := (s.bandsWhere ChState.isCandidate).length }

/-- The rank of a DRAW (R118, R129). -/
def State.drawRank (s : State) : Nat :=
  let b := mostUrgent (s.bandsWhere (fun c => c.moving || c.isCandidate))
  if b = 15 then 7 else 1 + b

/-- The time to run of a channel's movement, in ds (R116). -/
def State.remaining (s : State) (n : Ch) : Nat :=
  match s.chan? n with
  | none => 0
  | some k =>
    let far (target speed : Nat) : Nat :=
      if s.recs[n].referenced then ceilDiv (absDiff target s.units[n].count * 10) speed
      else ceilDiv (k.span * 10) speed
    match s.stateOf n with
    | .running t =>
      let target := match t.kind, t.target with
        | .learnOpen, _ => k.c + k.span
        | .opn, some x => x
        | .reduce, some x => x
        | _, _ => k.c
      far target (k.profile t.profile).speed
    | .backing _ e => far e k.normal.speed
    | _ => 0

/-- The hold of a DRAW that is not final (R116). -/
def State.drawHold (s : State) : Nat :=
  if channels.any (fun n => (s.stateOf n).moving) then
    min 6000 (2 * (channels.map s.remaining).foldl max 0 + 50)
  else 50

/-- Submit a DRAW with this content and hold: copy the content and start or stop the period timer (R117). -/
def State.submitDraw (s : State) (content : DrawContent) (hold : Nat) : State :=
  let s1 := s.submit (.draw content hold) s.drawRank
  { s1 with arb := { s1.arb with
      lastDraw := content
      drawTimer := if s.anyTravel then some 100 else none } }

/-- The final DRAW (R117, R120). Where a travel made during a reread is waiting, its rank is 1 plus that travel's band, not the 7
of R118 (the model's choice, log entry 48). -/
def State.submitFinalDraw (s : State) (circuit : Nat) : State := s.submitDraw (.final circuit) 0

/-- The circuit a DRAW may be submitted for (R117): none while the configuration is INVALID or is being reread, and none at a
station with no fitted channel, which R210 leaves the final DRAW of R120 alone. -/
def State.drawCircuit? (s : State) : Option Nat :=
  if !s.rereading && channels.any s.fitted then s.circuit? else none

/-- The third case of R117, at a change of a channel's state from `old`: the last own travel has ended. That no final DRAW
marks the end of one at a reread which leaves no channel fitted is the model's choice (log entry 38). -/
def State.checkLastTravel (s : State) (old : ChState) : State :=
  if old.travel?.isSome && !s.anyTravel then
    match s.drawCircuit? with
    | none => s
    | some c => s.submitFinalDraw c
  else s

/-- The first case of R117: submit a DRAW where the content has changed. -/
def State.checkDraw (s : State) : State :=
  match s.drawCircuit? with
  | none => s
  | some c => if s.drawContent c ≠ s.arb.lastDraw then s.submitDraw (s.drawContent c) s.drawHold else s

/-! ### WETNESS and GUST -/

/-- The age of the own onset, held at 65535 (R128, R154). -/
def State.wetAge (s : State) : Nat := min 65535 (s.now - s.rain.wetTime.getD s.now)

/-- WETNESS phases (R128): 0 onset, 1 refresh, 2 cease; an onset has rank 0, the others 9 (R129). -/
def State.submitWetness (s : State) (phase age intensity : Nat) : State :=
  s.submit (.wetness phase age intensity) (if phase = 0 then 0 else 9)

/-- Set the WETNESS refresh timer (R154). -/
def State.setRefresh (s : State) (t : Timer) : State := { s with handler := { s.handler with refresh := t } }

/-- Submit a GUST: copy the values and start the period timer (R155). -/
def State.submitGust (s : State) : State :=
  let s1 := s.submit (.gust s.wind.assessment s.wind.lastSpeed s.vane.sector) 8
  { s1 with handler := { s1.handler with
      lastGust := some (s.wind.assessment, s.vane.sector)
      gustTimer := some 300 } }

/-- The report is withdrawn: the timer stops and the last GUST values become none (R155). -/
def State.withdrawGust (s : State) : State :=
  { s with handler := { s.handler with lastGust := none, gustTimer := none } }

/-- The report is handed at a window end or a sector acceptance (R72): a review, and a GUST where R155 asks for one. While
the last GUST values are none, as during a reread, it submits none (the model's choice, log entry 39). -/
def State.handReport (s : State) : State :=
  if s.reportOffered then
    let s1 := s.askReview
    match s1.handler.lastGust with
    | none => s1
    | some (a, d) =>
      if 10 ≤ absDiff s1.wind.assessment a || s1.vane.sector ≠ d then s1.submitGust else s1
  else s

end Sys2Proof.Machine
end

