-- ==== Sys2Proof/Machine/Travels.lean ====
section
/-! DEFINITION. The drive of a channel unit (R15 to R17) and the travel controller's record operations (R22 to R30): every
change of a channel's state goes through `State.setState`, which moves the drive and makes the reports of R25. -/

namespace Sys2Proof.Machine

/-! ### The drive -/

/-- A drive stop (R15): the coast window opens, the dead-time interval starts, interval and watch are discarded. -/
def ChanUnit.stopDrive (u : ChanUnit) : ChanUnit :=
  { u with drive := .off, coast := some 0, deadTime := some 0, overLimit := none, watch := none }

/-- The drive is cut off or removed: leaving RAMP or FULL is a drive stop (R15). -/
def ChanUnit.driveOff (u : ChanUnit) : ChanUnit :=
  match u.drive with
  | .off => u
  | .dead _ => { u with drive := .off }
  | .ramp _ _ | .full _ => u.stopDrive

/-- A dead time is owed for a direction (R17): the last drive ran the other way and its 300 ms have not ended. -/
def ChanUnit.owesDeadTime (u : ChanUnit) (d : Direction) : Bool :=
  u.lastDir = some d.flip && u.deadTime.isSome

/-- RAMP or FULL (R15). -/
def DriveState.driven? : DriveState → Option Direction
  | .ramp d _ | .full d => some d
  | _ => none

/-- Drive start (R15, R16, R20): RAMP is entered; the start counts as the last step. -/
def ChanUnit.startDrive (u : ChanUnit) (d : Direction) (now : Nat) : ChanUnit :=
  { u with
    drive := .ramp d 0, lastDir := some d, coast := none, deadTime := none, overLimit := none
    watch := some { sinceStart := 0, sinceStep := 0 }, lastStepTime := now, lastStepCount := u.count }

/-- The kinds whose closing R13 checks for a missing index. -/
def TravelKind.indexChecked : TravelKind → Bool
  | .close | .learnClose | .learnTimed => true
  | _ => false

/-- R13 at a drive start: at the first of the travel, record what stands and clear the index-seen mark. -/
def State.recordIndex (s : State) (n : Ch) : State :=
  match s.chan? n, s.stateOf n with
  | some k, .running t =>
    if k.indexMode = .reload && t.kind.indexChecked && s.units[n].indexRecord.isNone then
      let r : IndexRecord :=
        { wasReferenced := s.recs[n].referenced, wasAbove := decide (k.c + k.closeTol < s.units[n].count) }
      s.setUnit n { s.units[n] with indexSeen := false, indexRecord := some r }
    else s
  | _, _ => s

/-- R197 at a drive start of a LEARN-OPEN or LEARN-TIMED travel: record count and station time. -/
def State.recordMeasure (s : State) (n : Ch) : State :=
  match s.port.session, s.travel? n with
  | some p, some t =>
    if p.channel = n then
      match t.kind with
      | .learnOpen =>
        s.setSession (some { p with measureStart := some s.units[n].count, openingStart := some s.now })
      | .learnTimed =>
        s.setSession (some { p with measureStart := some s.units[n].count, timedStart := some s.now })
      | _ => s
    else s
  | _, _ => s

/-- Drive start on a channel, with what R13 and R197 record at it. -/
def State.driveStart (s : State) (n : Ch) (d : Direction) : State :=
  ((s.setUnit n (s.units[n].startDrive d s.now)).recordIndex n).recordMeasure n

/-- A drive in RAMP or FULL in the other direction is stopped before the drive is energised (R15). -/
def ChanUnit.readied (u : ChanUnit) (d : Direction) : ChanUnit :=
  match u.drive.driven? with
  | some d' => if d' = d then u else u.driveOff
  | none => u

/-- The travel controller energises the drive (R15, R17). -/
def State.energise (s : State) (n : Ch) (d : Direction) : State :=
  let u := s.units[n].readied d
  if u.drive.driven? = some d then s
  else if u.owesDeadTime d then s.setUnit n { u with drive := .dead d }
  else (s.setUnit n u).driveStart n d

/-- The travel controller removes the drive. -/
def State.removeDrive (s : State) (n : Ch) : State := s.setUnit n s.units[n].driveOff

/-- What a change of channel state does to the drive (R15, R25): energised at each entry to RUNNING or BACKING and at a
change of direction within them, removed at each exit. -/
def State.applyDrive (s : State) (n : Ch) (old new : ChState) : State :=
  match old.driveDir?, new.driveDir? with
  | _, none => s.removeDrive n
  | none, some d => s.energise n d
  | some d', some d => if d' = d && old.isRunning = new.isRunning then s else s.energise n d

/-! ### Channel state changes -/

/-- Leaving RUNNING drops the hold-on, and a deferred yield that waits for it (R113). -/
def Arbiter.leaveRunning (a : Arbiter) (n : Ch) : Arbiter :=
  { a with
    holdOn := a.holdOn.set n none
    deferred := if a.deferred = some n then none else a.deferred }

/-- The events of R104 that a change of channel state is: leaving RUNNING or BACKING, entering BACKING. An entry to PAUSED
leaves BACKING, so it is one of them, though R117 names it as a change that starts no evaluation (the model's choice, log
entry 37). -/
def evalAtChange (old new : ChState) : Bool :=
  (old.moving && !(old.isRunning && new.isRunning) && !(old.isBacking && new.isBacking))
    || (new.isBacking && !old.isBacking)

/-- The one operation that changes a channel's state or travel record: drive (R15), arbiter and evaluator told (R25, R96,
R104), view and lamp judged (R156, R177), and the final DRAW where the last own travel ends (R117). -/
def State.setState (s : State) (n : Ch) (new : ChState) : State :=
  let old := s.stateOf n
  let s1 := (s.setRec n { s.recs[n] with state := new }).applyDrive n old new
  let s2 := if old.isRunning && !new.isRunning then { s1 with arb := s1.arb.leaveRunning n } else s1
  let s3 := if evalAtChange old new then s2.askEval else s2
  let s4 := if old.code ≠ new.code then s3.askReview else s3
  ((s4.checkView n).judgeLamp).checkLastTravel old

/-- Replace the travel record in place. -/
def State.setTravel (s : State) (n : Ch) (t : Travel) : State := s.setState n ((s.stateOf n).withTravel t)

/-- Set the referenced flag; a change starts a review (R96). -/
def State.setReferenced (s : State) (n : Ch) (b : Bool) : State :=
  if s.recs[n].referenced = b then s
  else (((s.setRec n { s.recs[n] with referenced := b }).askReview).checkView n).judgeLamp

/-- A setting of the count, not a step (R2). -/
def State.setCount (s : State) (n : Ch) (c : Nat) : State :=
  (s.setUnit n { s.units[n] with count := c }).judgeLamp

/-- Create a travel in WAITING, replacing any the channel holds (R23): the illegal-transition count and R13's record start
afresh, the arbiter evaluates. -/
def State.createTravel (s : State) (n : Ch) (t : Travel) : State :=
  ((s.setUnit n { s.units[n] with illegal := 0, indexRecord := none }).setState n (.waiting t)).askEval

/-- The travel is discarded and the channel goes to STILL (R36, R42, R45, R49). -/
def State.toStill (s : State) (n : Ch) : State := s.setState n .still

/-- The travel completes (R29): the channel goes to STILL, and the evaluator and the arbiter are told, whatever state the
travel stood in. -/
def State.complete (s : State) (n : Ch) : State := ((s.toStill n).askReview).askEval

/-- A new travel record (R23). -/
def newTravel (kind : TravelKind) (target : Option Nat) (direction : Direction) (origin : Origin) (band : Band)
    (profile : Profile) : Travel :=
  { kind := kind, target := target, direction := direction, origin := origin, band := band, profile := profile,
    retries := 0, admission := none }

/-- STORM for the bands 0, 1 and 2 (R24, R90). -/
def bandProfile (b : Band) : Profile := if b.val ≤ 2 then .storm else .normal

/-- The direction from a count to a target; none when they are equal (R30). -/
def towards (target count : Nat) : Option Direction :=
  if count < target then some .opening else if target < count then some .closing else none

/-- An OPEN or REDUCE travel has reached or passed its target in its direction (R26, R30). -/
def Travel.reached (t : Travel) (count : Nat) : Bool :=
  match t.target, t.direction with
  | some x, .opening => decide (x ≤ count)
  | some x, .closing => decide (count ≤ x)
  | none, _ => false

/-- Set the target of an OPEN or REDUCE travel and its direction, completing it when the target equals the count (R30). -/
def State.retarget (s : State) (n : Ch) (t : Travel) (target : Nat) : State :=
  match towards target s.units[n].count with
  | none => s.complete n
  | some d => s.setTravel n { t with target := some target, direction := d }

/-- A band reaches a travel (R24, R43): off RUNNING the profile rises to STORM when the band becomes 0, 1 or 2. -/
def ChState.reband (c : ChState) (t : Travel) (b : Band) : Travel :=
  if t.band = b then t
  else if b.val ≤ 2 && !c.isRunning && !t.kind.isLearn then { t with band := b, profile := .storm }
  else { t with band := b }

/-- Give the channel's travel a band and an origin; a change of band starts an evaluation (R39, R43, R104), that of a PAUSED
travel too, though R117 names it as one that starts none (the model's choice, log entry 37). -/
def State.setBand (s : State) (n : Ch) (t : Travel) (b : Band) (o : Origin) : State :=
  let s1 := s.setTravel n { (s.stateOf n).reband t b with origin := o }
  if t.band = b then s1 else s1.askEval

end Sys2Proof.Machine
end

