-- ==== Sys2Proof/Machine/Needs.lean ====
section
/-! DEFINITION. How needs and requests act on a channel's travel (chapter 2, 2.8 to 2.10). -/

namespace Sys2Proof.Machine

/-! ### Needs (R39 to R45) -/

def State.needOf (s : State) (n : Ch) : Need := s.eval.chans[n].need

/-- A need reaches only a channel that is fitted, not HELD, not FAULTED and not the learn channel (2.8); between a warm
restart and the end of its reread none acts (R53; log entry 22). -/
def State.needReaches (s : State) (n : Ch) : Bool :=
  s.deciding && s.fitted n && !s.isLearnChannel n &&
    match s.stateOf n with
    | .held | .faulted _ _ => false
    | _ => true

/-- The band and origin of a REFERENCE travel (R40). With no need in force, as under a CLOSE request during a reread (R48), band
4 and origin START are the model's choice (log entry 46). -/
def referenceBand : Need → Band × Origin
  | .close b o => (b, o)
  | _ => (4, .start)

/-- Create a CLOSE travel (R24, R39, R48). -/
def State.createClose (s : State) (n : Ch) (b : Band) (o : Origin) : State :=
  s.createTravel n (newTravel .close none .closing o b (bandProfile b))

/-- Create a REFERENCE travel (R24, R40). -/
def State.createReference (s : State) (n : Ch) : State :=
  let bo := referenceBand (s.needOf n)
  s.createTravel n (newTravel .reference none .closing bo.2 bo.1 (bandProfile bo.1))

/-- Create an OPEN or REDUCE travel. At a target equal to the count a REDUCE travel completes at once (R30), and no OPEN
travel is made, the channel's travel being discarded (R47). -/
def State.createTargeted (s : State) (n : Ch) (kind : TravelKind) (target : Nat) (o : Origin) (b : Band) : State :=
  match towards target s.units[n].count with
  | none => if kind = .reduce then s.complete n else s.toStill n
  | some d => s.createTravel n (newTravel kind (some target) d o b .normal)

/-- A travel of need origin (R23). -/
def Origin.isNeed : Origin → Bool
  | .threat | .wind | .isolation | .closeInput | .start => true
  | _ => false

/-- The published need still asks for a travel's kind (R34, R42); `referenced` is the channel's flag. -/
def Need.asks (need : Need) (kind : TravelKind) (referenced : Bool) : Bool :=
  match kind, need with
  | .close, .close _ _ => true
  | .reduce, .reduce _ => true
  | .reference, .none => false
  | .reference, _ => !referenced
  | _, _ => false

/-- A need-origin travel that has lost its need: WAITING and YIELDED are discarded, the others go on (R42). That one which lost
its need while RUNNING or BACKING and has been set aside since is discarded at the next review as well is the model's choice
(log entry 52). -/
def State.loseNeed (s : State) (n : Ch) (t : Travel) : State :=
  if t.origin.isNeed then
    match s.stateOf n with
    | .waiting _ | .yielded _ => s.toStill n
    | _ => s
  else s

/-- The need on an unreferenced channel (R40, R42). -/
def State.needUnreferenced (s : State) (n : Ch) : State :=
  match s.needOf n, s.travel? n with
  | .none, none => s
  | .none, some t => s.loseNeed n t
  | _, none => s.createReference n
  | need, some t =>
    if t.kind = .reference then
      let bo := referenceBand need
      s.setBand n t bo.1 bo.2
    else s

/-- A CLOSE need on a referenced channel (R39). -/
def State.needClose (s : State) (n : Ch) (b : Band) (o : Origin) : State :=
  match s.travel? n with
  | none => s.createClose n b o
  | some t =>
    match t.kind with
    | .opn | .reduce => s.createClose n b o
    | .close => s.setBand n t b o
    | .reference => s.loseNeed n t
    | _ => s

/-- A REDUCE need on a referenced channel (R41, R42). -/
def State.needReduce (s : State) (n : Ch) (target : Nat) : State :=
  match s.travel? n with
  | none => s.createTargeted n .reduce target .wind 3
  | some t =>
    match t.kind with
    | .reduce => if t.target = some target then s else s.retarget n t target
    | .close | .reference => s.loseNeed n t
    | _ => s

/-- The need in force acts on the channel (2.8). -/
def State.applyNeed (s : State) (n : Ch) : State :=
  if s.needReaches n then
    if s.recs[n].referenced then
      match s.needOf n with
      | .close b o => s.needClose n b o
      | .reduce x => s.needReduce n x
      | _ =>
        match s.travel? n with
        | none => s
        | some t => s.loseNeed n t
    else s.needUnreferenced n
  else s

/-- Discard the channel's OPEN travel (R45). -/
def State.endOpen (s : State) (n : Ch) : State :=
  match s.travel? n with
  | none => s
  | some t => if t.kind = .opn then s.toStill n else s

/-- Re-clamp the channel's OPEN travel to C plus the wind ceiling (R44). Where a reread has changed C alone and the ceiling has
not fallen, that it is re-clamped too is the model's choice (log entry 47). -/
def State.clampOpen (s : State) (n : Ch) : State :=
  match s.chan? n, s.travel? n with
  | some k, some t =>
    match t.kind, t.target with
    | .opn, some x =>
      let top := k.c + s.eval.chans[n].ceiling
      if x ≤ top then s
      else if t.direction = .opening && decide (top ≤ s.units[n].count) then s.complete n
      else s.retarget n t top
    | _, _ => s
  | _, _ => s

/-! ### Requests (R46 to R50) -/

/-- The requests of the console and the panel (2.9). -/
inductive Request where
  | opn (percent : Nat)
  | close
  | stop
  | hold
  | release
  deriving DecidableEq, Repr

def ChState.isFaulted : ChState → Bool
  | .faulted _ _ => true
  | _ => false

/-- The first refusal reason that holds (R46). -/
def State.judge (s : State) (n : Ch) (r : Request) : Reason :=
  if !s.fitted n then .config
  else if s.maintHolds n || s.isLearnChannel n then .maint
  else
    match r with
    | .stop | .hold | .release => .accepted
    | .close => if (s.stateOf n).isFaulted then .faulted else .accepted
    | .opn _ =>
      if (s.stateOf n).isFaulted then .faulted
      else if !s.recs[n].referenced then .unreferenced
      else if s.recs[n].consoleHold then .consoleHold
      else if s.closeLevelActive then .closeInput
      else if s.isolationClose then .isolated
      else if s.eval.threat then .threat
      else if s.eval.reopen.isSome then .reopen
      else if s.eval.chans[n].ceiling = 0 then .wind
      else .accepted

/-- The target of an OPEN request (R47). -/
def State.openTarget (s : State) (n : Ch) (k : ChanCfg) (percent : Nat) : Nat :=
  min (k.c + k.span * percent / 100) (k.c + s.eval.chans[n].ceiling)

/-- An accepted OPEN request (R47). -/
def State.openRequest (s : State) (n : Ch) (percent : Nat) (o : Origin) : State :=
  match s.chan? n with
  | none => s
  | some k =>
    let x := s.openTarget n k percent
    match s.stateOf n with
    | .running t =>
      if t.kind = .opn && towards x s.units[n].count = some t.direction then
        s.setTravel n { t with target := some x, origin := o }
      else s.createTargeted n .opn x o 5
    | _ => s.createTargeted n .opn x o 5

/-- An accepted CLOSE request (R48). -/
def State.closeRequest (s : State) (n : Ch) (o : Origin) : State :=
  if s.recs[n].referenced then
    match s.travel? n with
    | none => if s.closed n then s else s.createClose n 4 o
    | some t =>
      match t.kind with
      | .opn | .reduce => s.createClose n 4 o
      | .close =>
        if t.origin.isRequest then s
        else if (s.needOf n).asks .close true then s
        else
          let s1 := s.setTravel n { t with band := 4, origin := o }
          if t.band = 4 then s1 else s1.askEval
      | _ => s
  else
    match s.travel? n with
    | none => s.createReference n
    | some _ => s

/-- A travel STOP ends (R49): an OPEN travel, or a CLOSE travel of origin CONSOLE or PANEL. -/
def Travel.stoppable (t : Travel) : Bool := t.kind = .opn || (t.kind = .close && t.origin.isRequest)

/-- An accepted STOP request (R49): the need in force then acts. -/
def State.stopRequest (s : State) (n : Ch) : State :=
  match s.travel? n with
  | none => s
  | some t => if t.stoppable then (s.toStill n).applyNeed n else s

/-- Set the console-hold flag (R50). -/
def State.setHold (s : State) (n : Ch) (b : Bool) : State :=
  (s.setRec n { s.recs[n] with consoleHold := b }).checkView n

/-- An accepted HOLD request (R50). -/
def State.holdRequest (s : State) (n : Ch) : State :=
  let s1 := s.setHold n true
  match s1.travel? n with
  | none => s1
  | some t => if t.kind = .opn then (s1.toStill n).applyNeed n else s1

/-- Carry out an accepted request (R47 to R50). -/
def State.carryOut (s : State) (n : Ch) (r : Request) (o : Origin) : State :=
  match r with
  | .opn p => s.openRequest n p o
  | .close => s.closeRequest n o
  | .stop => s.stopRequest n
  | .hold => s.holdRequest n
  | .release => s.setHold n false

/-- Judge a request on a channel, set the last refusal, carry out an acceptance and submit the STATE (R46, R156). -/
def State.request (s : State) (n : Ch) (r : Request) (o : Origin) : State :=
  let reason := s.judge n r
  let s1 := s.setRec n { s.recs[n] with refusal := reason }
  (if reason = .accepted then s1.carryOut n r o else s1).submitState n

/-! ### Maintenance hold and the learn channel (R51, R52) -/

/-- MAINT active holds a channel of the maintenance set, but for a FAULTED one and the learn channel (R51). -/
def State.holdForMaint (s : State) (n : Ch) : State :=
  if s.fitted n && s.maintHolds n && !s.isLearnChannel n then
    match s.stateOf n with
    | .held | .faulted _ _ => s
    | _ => s.setState n .held
  else s

/-- MAINT has become inactive: a HELD channel goes to STILL and the need in force acts (R51). -/
def State.releaseFromMaint (s : State) (n : Ch) : State :=
  match s.stateOf n with
  | .held => (s.toStill n).applyNeed n
  | _ => s

/-- The channel becomes the learn channel (R52). -/
def State.becomeLearn (s : State) (n : Ch) : State :=
  match s.stateOf n with
  | .still | .faulted _ _ => s
  | _ => s.toStill n

/-- A learn travel that still exists is discarded (R52, R202). -/
def State.dropLearn (s : State) (n : Ch) : State :=
  match s.travel? n with
  | none => s
  | some t => if t.kind.isLearn then s.toStill n else s

/-- The channel stops being the learn channel (R52): a learn travel is discarded, then MAINT holds it or the need acts. -/
def State.stopLearn (s : State) (n : Ch) : State :=
  let s1 := s.dropLearn n
  match s1.stateOf n with
  | .faulted _ _ => s1
  | _ => if s1.maintHolds n then s1.setState n .held else s1.applyNeed n

/-- The session and its store end and the channel is returned (R202, R205). -/
def State.endSession (s : State) : State :=
  match s.port.session with
  | none => s
  | some p =>
    let s1 := { s with port := { s.port with session := none, store := none } }
    (s1.judgeLamp).stopLearn p.channel

/-- Abort a learn session in any phase but STORING (R202). -/
def State.abortLearn (s : State) : State :=
  match s.port.session with
  | none => s
  | some p => if p.phase = .storing then s else s.endSession

end Sys2Proof.Machine
end

