-- ==== Sys2Proof/Machine/Stops.lean ====
section
/-! DEFINITION. How a travel ends at a stop signal (R29 to R37), and the advance of a learn session at the end of a learn
travel (R198 to R200). -/

namespace Sys2Proof.Machine

/-! ### ENCODER (R14, R37) -/

/-- ENCODER is delivered: the reference is lost, the channel is FAULTED, the flag raised, a learn session on it aborted. -/
def State.encoderFault (s : State) (n : Ch) : State :=
  let s1 := s.setReferenced n false
  let s2 := match s1.stateOf n with
    | .faulted o true => s1.setState n (.faulted o true)
    | .faulted o false => (s1.setState n (.faulted o true)).beginCondition (.encoder n)
    | _ => (s1.setState n (.faulted false true)).beginCondition (.encoder n)
  if s2.isLearnChannel n then s2.abortLearn else s2

/-! ### Learn session advance (R198 to R200) -/

/-- A learn travel (R24, R195, R198, R199). -/
def learnTravel (kind : TravelKind) : Travel :=
  newTravel kind none (if kind = .learnOpen then .opening else .closing) .learn 4
    (if kind = .learnOpen then .normal else .storm)

/-- floor(distance × 10 / time), 0 where the time is 0 or the distance not greater than 0 (R199, R200). -/
def measuredSpeed (distance time : Nat) : Nat := if time = 0 then 0 else distance * 10 / time

/-- LEARN-CLOSE has completed (R198). -/
def State.learnCloseDone (s : State) (n : Ch) (p : Session) : State :=
  (s.setSession (some { p with phase := .opening })).createTravel n (learnTravel .learnOpen)

/-- LEARN-OPEN has ended at the open-end stall (R199): `k` is the channel's record, `u` its unit at the stall. -/
def State.learnOpenDone (s : State) (n : Ch) (p : Session) (k : ChanCfg) (u : ChanUnit) : State :=
  let time := u.lastStepTime - p.openingStart.getD u.lastStepTime
  let q := { p with
    phase := .timedClosing
    measuredSpan := some (u.lastStepCount - k.c)
    openingTime := some time
    normalSpeed := some (measuredSpeed (u.lastStepCount - p.measureStart.getD u.lastStepCount) time) }
  (s.setSession (some q)).createTravel n (learnTravel .learnTimed)

/-- The range check (R200). -/
def rangeCheck (c span normal storm : Nat) : Bool :=
  decide (200 ≤ span ∧ span ≤ 60000 ∧ c + span ≤ 65000 ∧ 1 ≤ normal ∧ normal ≤ 5000 ∧ 1 ≤ storm ∧ storm ≤ 5000)

/-- LEARN-TIMED has completed at a closed-end stop (R200). -/
def State.learnTimedDone (s : State) (p : Session) (k : ChanCfg) (u : ChanUnit) : State :=
  let time := u.lastStepTime - p.timedStart.getD u.lastStepTime
  let storm := measuredSpeed (p.measureStart.getD u.lastStepCount - u.lastStepCount) time
  let q := { p with stormSpeed := some storm }
  if rangeCheck k.c (p.measuredSpan.getD 0) (p.normalSpeed.getD 0) storm then
    s.setSession (some { q with phase := .awaitingConfirm, confirm := some 1200 })
  else (s.setSession (some q)).endSession.askRefusal

/-- The completion of a learn travel is handed to the configuration port (R29, R197). -/
def State.learnAdvance (s : State) (n : Ch) (kind : TravelKind) (u : ChanUnit) : State :=
  match s.port.session, s.chan? n with
  | some p, some k =>
    if p.channel = n then
      match kind with
      | .learnClose => s.learnCloseDone n p
      | .learnOpen => s.learnOpenDone n p k u
      | .learnTimed => s.learnTimedDone p k u
      | _ => s
    else s
  | _, _ => s

/-! ### Stop signals (R18 to R20, R31) -/

inductive StopSignal where
  | stall | overcurrent | pinch
  deriving DecidableEq, Repr

/-- What a stop amounts to (R31). -/
inductive StopClass where
  | obstruction | learnObstruction | referencingStall | openEndStall | closedEnd | endWithoutFault
  deriving DecidableEq, Repr

/-- The table of R31. -/
def classify (kind : TravelKind) (dir : Direction) (inZone : Bool) (sig : StopSignal) : StopClass :=
  match kind, sig with
  | .close, .pinch => .obstruction
  | .close, _ => if inZone then .closedEnd else .obstruction
  | .reference, .stall => .referencingStall
  | .reference, _ => .obstruction
  | .learnClose, .stall => .referencingStall
  | .learnClose, .overcurrent => if inZone then .closedEnd else .learnObstruction
  | .learnClose, .pinch => .learnObstruction
  | .learnTimed, .pinch => .learnObstruction
  | .learnTimed, _ => if inZone then .closedEnd else .learnObstruction
  | .learnOpen, .stall => .openEndStall
  | .learnOpen, _ => .learnObstruction
  | .opn, sig | .reduce, sig =>
    match dir, sig with
    | _, .pinch => .obstruction
    | .closing, .stall => if inZone then .closedEnd else .endWithoutFault
    | .closing, .overcurrent => if inZone then .closedEnd else .obstruction
    | .opening, .stall => .endWithoutFault
    | .opening, .overcurrent => .obstruction

/-- Signals that arrive together (R31): an obstruction if any is one, a learn obstruction if any is one; a referencing
stall before a closed-end stop (log entry 14). -/
def combine (cs : List StopClass) : StopClass :=
  if cs.contains .obstruction then .obstruction
  else if cs.contains .learnObstruction then .learnObstruction
  else if cs.contains .referencingStall then .referencingStall
  else if cs.contains .openEndStall then .openEndStall
  else if cs.contains .closedEnd then .closedEnd
  else .endWithoutFault

/-- The travel completes (R29); a learn travel's completion advances the session. -/
def State.completeTravel (s : State) (n : Ch) (t : Travel) : State :=
  let s1 := s.complete n
  if t.kind.isLearn then s1.learnAdvance n t.kind s.units[n] else s1

/-- A missing index at a closed-end stop (R13). -/
def State.indexMissing (s : State) (n : Ch) (k : ChanCfg) (t : Travel) : Bool :=
  k.indexMode = .reload && t.kind.indexChecked && !s.units[n].indexSeen &&
    match s.units[n].indexRecord with
    | none => false
    | some r => r.wasReferenced && r.wasAbove

/-- A closed-end stop (R12 case 2, R13, R31). -/
def State.closedEndStop (s : State) (n : Ch) (k : ChanCfg) (t : Travel) : State :=
  if s.indexMissing n k t then s.encoderFault n
  else if k.indexMode = .off && t.kind.indexChecked then (s.setCount n k.c).completeTravel n t
  else s.completeTravel n t

/-- A referencing stall (R12 case 1). -/
def State.referencingStall (s : State) (n : Ch) (k : ChanCfg) (t : Travel) : State :=
  ((s.setCount n k.c).setReferenced n true).completeTravel n t

/-- BACKING ends and the pause of 50 ds begins (R33, R34). -/
def State.enterPause (s : State) (n : Ch) : State :=
  match s.stateOf n with
  | .backing t _ => s.setState n (.paused t 50)
  | _ => s

/-- BACKING begins, and ends at its entry where the end count is reached already (R32, R33). -/
def State.enterBacking (s : State) (n : Ch) (k : ChanCfg) (t : Travel) : State :=
  let e := min Config.maxCount (s.units[n].count + k.reversal)
  let s1 := s.setState n (.backing t e)
  if e ≤ s.units[n].count then s1.enterPause n else s1

/-- An obstruction (R32, R35, R36). -/
def State.obstructed (s : State) (n : Ch) (k : ChanCfg) (t : Travel) : State :=
  match t.kind with
  | .close | .reference =>
    if t.retries < k.retries then s.enterBacking n k t
    else (s.setState n (.faulted true false)).beginCondition (.obstruction n)
  | _ => (s.toStill n).raise (.obstruction n)

/-- The stop of a RUNNING travel takes its outcome (R31). -/
def State.takeStop (s : State) (n : Ch) (k : ChanCfg) (t : Travel) (c : StopClass) : State :=
  match c with
  | .obstruction => s.obstructed n k t
  | .learnObstruction => (s.toStill n).abortLearn
  | .referencingStall => s.referencingStall n k t
  | .openEndStall => s.completeTravel n t
  | .closedEnd => s.closedEndStop n k t
  | .endWithoutFault => s.toStill n

/-- The unit has cut the drive and delivers these signals (R20, R31, R33). -/
def State.deliverStops (s : State) (n : Ch) (sigs : List StopSignal) : State :=
  match s.chan? n, s.stateOf n with
  | some k, .running t => s.takeStop n k t (combine (sigs.map (classify t.kind t.direction (s.closed n))))
  | some _, .backing _ _ => if sigs.contains .stall || sigs.contains .overcurrent then s.enterPause n else s
  | _, _ => s

/-- The unit cuts the drive to OFF (R15). -/
def State.cutDrive (s : State) (n : Ch) : State := s.setUnit n s.units[n].driveOff

/-- PINCH can arise: RAMP or FULL in the closing direction (R18). -/
def ChanUnit.pinchArises (u : ChanUnit) : Bool := u.drive.driven? = some .closing

/-- OVERCURRENT can arise: driven, and the over-limit interval has lasted 200 ms (R19; log entry 4). -/
def ChanUnit.overcurrentArises (u : ChanUnit) : Bool :=
  u.drive.driven?.isSome &&
    match u.overLimit with
    | none => false
    | some r => decide (2 ≤ r)

/-- STALL can arise: driven, 700 ms since drive start and 500 ms since the last step (R20; log entry 4). -/
def ChanUnit.stallArises (u : ChanUnit) : Bool :=
  u.drive.driven?.isSome &&
    match u.watch with
    | none => false
    | some w => decide (7 ≤ w.sinceStart) && decide (5 ≤ w.sinceStep)

/-- The signals that arise at one moment among those the command names (R20). -/
def ChanUnit.signals (u : ChanUnit) (pinch overcur stall : Bool) : List StopSignal :=
  (if pinch && u.pinchArises then [.pinch] else []) ++
    (if overcur && u.overcurrentArises then [.overcurrent] else []) ++
    (if stall && u.stallArises then [.stall] else [])

/-- One moment at which the unit may cut the drive: it cuts once and delivers each signal that arose (R20). -/
def State.stopMoment (s : State) (n : Ch) (pinch overcur stall : Bool) : State :=
  match s.units[n].signals pinch overcur stall with
  | [] => s
  | sigs => (s.cutDrive n).deliverStops n sigs

end Sys2Proof.Machine
end

