-- ==== Sys2Proof/Machine/Review.lean ====
section
/-! DEFINITION. The closure evaluator's review (chapter 4): working wind, threat arrival, slack, needs, wind ceilings, and
the handing on of its results (R76 to R97). -/

namespace Sys2Proof.Machine

/-! ### Working wind (R79) -/

/-- The wind sources at a review: the own report first, then the live peer parts in order of address. -/
def State.windSources (s : State) : List (Nat × Nat) :=
  (if s.reportOffered then [(s.wind.assessment, s.vane.sector)] else []) ++
    s.handler.peers.filterMap (fun p =>
      match p.wind with
      | none => none
      | some w => if 0 < w.left then some (w.assessment, w.sector) else none)

/-- V and D: the greatest assessment; the first source that gives it gives the sector (R79). -/
def strongest : List (Nat × Nat) → Nat × Nat
  | [] => (0, 8)
  | x :: xs => xs.foldl (fun a b => if a.1 < b.1 then b else a) x

def State.workingWind (s : State) : Nat × Nat := strongest s.windSources

/-! ### Threat arrival (R77, R78, R82 to R84) -/

/-- The least of some numbers. -/
def leastOf : List Nat → Option Nat
  | [] => none
  | x :: xs => some (xs.foldl min x)

/-- The lead of a mapped peer for the working sector (R78). -/
def MapEntry.lead (e : MapEntry) (d : Nat) : Option Nat :=
  if d < 8 then e.leads.toList.getD d none else leastOf (e.leads.toList.filterMap id)

/-- The lag of a peer in ds (R82, R83); none where its selected lead is NONE. -/
def RunCfg.lag (c : RunCfg) (v d peer : Nat) : Option Nat :=
  match c.map.find? (fun e => e.peer = peer) with
  | none => some (c.unmappedLagS * 10)
  | some e => (e.lead d).map (fun l => l * 100 / max v 10)

/-- The arrivals of the contributing peers (R84). -/
def State.peerArrivals (s : State) (c : RunCfg) (v d : Nat) : List Nat :=
  s.handler.peers.filterMap (fun p =>
    match p.wetness with
    | none => none
    | some w => if 0 < w.left then (c.lag v d p.origin).map (fun l => satTime (w.onset + l)) else none)

/-- The own sensor counts as wet (R60). -/
def RainFront.countsWet (r : RainFront) : Bool := r.state = some .wet || r.state = some .fault

/-- Threat arrival A (R84). -/
def State.threatArrival (s : State) (c : RunCfg) (v d : Nat) : Option Nat :=
  if s.rain.countsWet then some (s.rain.wetTime.getD s.now) else leastOf (s.peerArrivals c v d)

/-! ### Slack, band, ceiling, need (R87 to R94) -/

/-- Distance to close (R87). -/
def closeDistance (k : ChanCfg) (referenced : Bool) (count : Nat) : Nat := if referenced then count - k.c else k.span

/-- Travel time at storm speed with margin (R87). -/
def travelTime (k : ChanCfg) (distance : Nat) : Nat := ceilDiv (distance * 10) k.storm.speed + 10

/-- The rain slack (R88). -/
def rainSlack (k : ChanCfg) (arrival : Option Nat) (now tau : Nat) : Option Int :=
  arrival.map (fun a => ((a - 10 * k.guardS : Nat) : Int) - (now : Int) - (tau : Int))

/-- The wind slack (R89). -/
def windSlack (k : ChanCfg) (v tau : Nat) : Option Int := if k.wc ≤ v then some (-(tau : Int)) else none

/-- The slack before the hold of its range, and its origin (R89). -/
def joinSlack : Option Int → Option Int → Option (Int × Origin)
  | some r, some w => if r ≤ w then some (r, .threat) else some (w, .wind)
  | some r, none => some (r, .threat)
  | none, some w => some (w, .wind)
  | none, none => none

/-- Hold a slack to −32768..32767 (R89). -/
def holdSlack (x : Int) : Int := max (-32768) (min 32767 x)

/-- The slack band (R90). -/
def slackBand (x : Int) : Band :=
  if x ≤ 0 then 0 else if x ≤ 150 then 1 else if x ≤ 600 then 2 else if x ≤ 3000 then 3 else 4

/-- The wind ceiling (R94). -/
def windCeiling (k : ChanCfg) (v : Nat) : Nat :=
  if v ≤ k.wr then k.span else if v < k.wc then k.span * (k.wc - v) / (k.wc - k.wr) else 0

/-- The need of a fitted channel (R91). -/
def State.needFor (s : State) (n : Ch) (k : ChanCfg) (slack : Option (Int × Origin)) (ceiling : Nat) : Need :=
  if s.closed n then .none
  else
    match slack with
    | some (x, o) => .close (slackBand x) o
    | none =>
      if s.closeLevelActive then .close 4 .closeInput
      else if s.isolationClose then .close 4 .isolation
      else if !s.recs[n].referenced then .reference
      else if k.c + ceiling + k.span / 50 < s.units[n].count then .reduce (k.c + ceiling)
      else .none

/-- Everything a review sets for a channel (R76); an unfitted channel has none of it. -/
def State.evalChannel (s : State) (n : Ch) (v : Nat) (arrival : Option Nat) : ChanEval :=
  match s.chan? n with
  | none => ChanEval.reset
  | some k =>
    let d := closeDistance k s.recs[n].referenced s.units[n].count
    let tau := travelTime k d
    let slack := (joinSlack (rainSlack k arrival s.now tau) (windSlack k v tau)).map (fun x => (holdSlack x.1, x.2))
    let ceiling := windCeiling k v
    { distance := some d, tau := some tau, slack := slack.map (·.1), slackOrigin := slack.map (·.2),
      ceiling := ceiling, need := s.needFor n k slack ceiling }

/-! ### The review (R85, R86, R93, R96, R97) -/

/-- The reopen hold after a review finds the mark `known` (R86). -/
def nextReopen (c : RunCfg) (was known : Bool) (hold : Timer) : Timer :=
  if known && !was then none
  else if !known && was then (if c.reopenHoldS = 0 then none else some (10 * c.reopenHoldS))
  else hold

/-- What the evaluator holds after a review (R76). -/
def State.reviewed (s : State) (c : RunCfg) : Evaluator :=
  let w := s.workingWind
  let a := s.threatArrival c w.1 w.2
  { v := w.1, d := w.2, arrival := a, threat := a.isSome, timer := s.eval.timer
    reopen := nextReopen c s.eval.threat a.isSome s.eval.reopen
    chans := #v[s.evalChannel 0 w.1 a, s.evalChannel 1 w.1 a, s.evalChannel 2 w.1 a, s.evalChannel 3 w.1 a] }

/-- The review aborts the learn session (R85, R202): the mark has become set, or V is at or above the learn channel's Wc. -/
def State.reviewAborts (s : State) (wasThreat : Bool) : Bool :=
  (s.eval.threat && !wasThreat) ||
    match s.learnChannel? with
    | none => false
    | some n =>
      match s.chan? n with
      | none => false
      | some k => decide (k.wc ≤ s.eval.v)

def Need.isClose : Need → Bool
  | .close _ _ => true
  | _ => false

/-- A CLOSE need will replace the channel's OPEN travel (R39, R45). -/
def State.closeReplaces (s : State) (n : Ch) : Bool := (s.needOf n).isClose && s.needReaches n && s.recs[n].referenced

/-- A channel is handed the mark and the hold, the ceiling, the need, in that order (R93). A CLOSE need replaces an OPEN
travel rather than discarding it first (R45). -/
def State.handChannel (n : Ch) (s : State) : State :=
  let s1 := if s.openBarred && !s.closeReplaces n then s.endOpen n else s
  (s1.clampOpen n).applyNeed n

/-- A review: recompute everything from the inputs as they stand, then hand it on (R96, R97). -/
def State.review (s : State) : State :=
  match s.port.config with
  | none => s
  | some c =>
    if s.rereading then s
    else
      let s1 := { s with eval := s.reviewed c }
      let s2 := if s1.reviewAborts s.eval.threat then s1.abortLearn else s1
      s2.eachChannel State.handChannel

end Sys2Proof.Machine
end

