-- ==== Sys2Proof/Machine/Arbiter.lean ====
section
/-! DEFINITION. The draw arbiter's evaluation (chapter 5): believed total, yield, profile upgrade, admission; and how the
reviews and evaluations that one command starts are run to rest. -/

namespace Sys2Proof.Machine

/-! ### What peers report (R101 to R103) -/

/-- A peer's live claim on a circuit (R101). -/
def PeerEntry.liveClaim (p : PeerEntry) (circuit : Nat) : Option ClaimPart :=
  match p.claim with
  | none => none
  | some c => if p.circuit = some circuit && decide (0 < c.left) && decide (0 < c.draw) then some c else none

/-- The band of a peer's live waiting part on a circuit (R102). -/
def PeerEntry.liveWaiting (p : PeerEntry) (circuit : Nat) : Option Band :=
  match p.waiting with
  | none => none
  | some w => if p.circuit = some circuit && decide (0 < w.left) then some w.band else none

/-- The believed total (R103). -/
def State.believed (s : State) (c : RunCfg) : Nat :=
  s.ownDraw + (s.handler.peers.filterMap (fun p => (p.liveClaim c.circuit).map (·.draw))).sum

/-- The bands of the live waiting parts of peers. -/
def State.peerWaits (s : State) (c : RunCfg) : List Band := s.handler.peers.filterMap (fun p => p.liveWaiting c.circuit)

/-! ### Orders of channels (R105, R110, R113) -/

/-- The band of a channel's travel, 15 where there is none. -/
def State.bandOf (s : State) (n : Ch) : Nat :=
  match s.travel? n with
  | none => 15
  | some t => t.band.val

def ChState.isYielded : ChState → Bool
  | .yielded _ => true
  | _ => false

/-- σ comes before σ': smaller first, none last (R105). -/
def slackBefore : Option Int → Option Int → Bool
  | some x, some y => x < y
  | some _, none => true
  | none, _ => false

/-- The order of candidates (R105); in RUNNING the second key never decides, which gives the order of R110. -/
def State.candidateBefore (s : State) (n m : Ch) : Bool :=
  if s.bandOf n ≠ s.bandOf m then s.bandOf n < s.bandOf m
  else if (s.stateOf n).isYielded ≠ (s.stateOf m).isYielded then (s.stateOf n).isYielded
  else if s.eval.chans[n].slack ≠ s.eval.chans[m].slack then slackBefore s.eval.chans[n].slack s.eval.chans[m].slack
  else n < m

/-- Place a channel in an ordered list. -/
def orderInsert (before : Ch → Ch → Bool) (n : Ch) : List Ch → List Ch
  | [] => [n]
  | m :: l => if before n m then n :: m :: l else m :: orderInsert before n l

/-- The channels that pass a test, in the candidate order. -/
def State.inOrder (s : State) (p : Ch → Bool) : List Ch :=
  (channels.filter p).foldr (orderInsert s.candidateBefore) []

/-! ### Yield (R111 to R114) -/

/-- The least urgent running band of each station that has one, with its address (R111). -/
def State.runningBands (s : State) (c : RunCfg) : List (Nat × Nat) :=
  (match s.bandsWhere ChState.moving, s.port.ownAddress with
    | b :: bs, some a => [(leastUrgentBand (b :: bs), a)]
    | _, _ => []) ++
    s.handler.peers.filterMap (fun p =>
      match p.liveClaim c.circuit with
      | none => none
      | some k => k.least.map (fun b => (b.val, p.origin)))

/-- X and the yielder's address (R111): the greatest band, then the highest address. -/
def yielder : List (Nat × Nat) → Option (Nat × Nat)
  | [] => none
  | x :: xs => some (xs.foldl (fun a b => if a.1 < b.1 || (a.1 = b.1 && a.2 < b.2) then b else a) x)

/-- This station decides to yield (R112). -/
def State.yieldDecided (s : State) (c : RunCfg) : Bool :=
  match yielder (s.runningBands c) with
  | none => false
  | some (x, a) =>
    s.port.ownAddress = some a && !(s.bandsWhere ChState.moving).isEmpty &&
      (decide (c.budget < s.believed c) || (decide (3 ≤ x) && (s.peerWaits c).any (fun b => b.val ≤ 1)))

/-- The admission time of a channel's travel, 0 where it has none. -/
def State.admissionOf (s : State) (n : Ch) : Nat := ((s.travel? n).bind (·.admission)).getD 0

/-- The order of R113: the greatest band, then the latest admission time, then the highest channel number. -/
def State.yieldsBefore (s : State) (n m : Ch) : Bool :=
  if s.bandOf n ≠ s.bandOf m then s.bandOf m < s.bandOf n
  else if s.admissionOf n ≠ s.admissionOf m then s.admissionOf m < s.admissionOf n
  else m < n

/-- The channel chosen to yield (R113). -/
def State.yieldChoice (s : State) : Option Ch :=
  ((channels.filter (fun n => (s.stateOf n).isRunning)).foldr (orderInsert s.yieldsBefore) []).head?

/-- In hold-on: admitted less than 30 ds before (R113). -/
def inHoldOn (t : Timer) : Bool :=
  match t with
  | none => false
  | some r => decide (0 < r)

def State.setDeferred (s : State) (d : Option Ch) : State := { s with arb := { s.arb with deferred := d } }

/-- The named RUNNING channel moves to YIELDED (R27). -/
def State.yieldChannel (s : State) (n : Ch) : State :=
  match s.stateOf n with
  | .running t => s.setState n (.yielded t)
  | _ => s

/-- The channel this evaluation sets aside: a yield is decided, and the channel chosen is not in hold-on (R112, R113). -/
def State.yields (s : State) (c : RunCfg) : Option Ch :=
  if s.yieldDecided c then s.yieldChoice.filter (fun n => !inHoldOn s.arb.holdOn[n]) else none

/-- The yield step (R112 to R114). -/
def State.yieldStep (s : State) (c : RunCfg) : State :=
  if s.yieldDecided c then
    match s.yieldChoice with
    | none => s.setDeferred none
    | some n => if inHoldOn s.arb.holdOn[n] then s.setDeferred (some n) else (s.setDeferred none).yieldChannel n
  else s.setDeferred none

/-! ### Profile upgrade (R110) -/

/-- A RUNNING travel that R110 checks. -/
def ChState.upgradable : ChState → Bool
  | .running t => t.band.val ≤ 2 && t.profile = .normal && !t.kind.isLearn
  | _ => false

/-- What a band may spend: B at band 0, else B − Rv (R106, R110). -/
def RunCfg.allowance (c : RunCfg) (band : Nat) : Nat := if band = 0 then c.budget else c.budget - c.reserve

/-- The upgrades in order, up to the first that fails (R110). -/
def State.upgrades (c : RunCfg) : List Ch → State → State
  | [], s => s
  | n :: l, s =>
    match s.chan? n, s.stateOf n with
    | some k, .running t =>
      if s.believed c + k.storm.draw ≤ c.allowance t.band.val + k.normal.draw then
        State.upgrades c l (s.setTravel n { t with profile := .storm })
      else s
    | _, _ => s

/-- The upgrade step; not made unless the supply is GOOD (R107, R110). -/
def State.upgradeStep (s : State) (c : RunCfg) : State :=
  if s.arb.supply = .good then State.upgrades c (s.inOrder (fun n => s.fitted n && (s.stateOf n).upgradable)) s else s

/-! ### Admission (R26, R105 to R109) -/

/-- The one-travel limit applies (R108). -/
def State.limited (s : State) : Bool := s.handler.isolated || !s.line.mode.isNormal

/-- A candidate is admitted (R106 to R109). -/
def State.admissible (s : State) (c : RunCfg) (k : ChanCfg) (t : Travel) : Bool :=
  s.arb.supply = .good
    && !(s.limited && channels.any (fun n => (s.stateOf n).moving))
    && (s.arb.listening.isNone || t.band.val = 0)
    && decide (s.believed c + (k.profile t.profile).draw ≤ c.allowance t.band.val)
    && !(s.peerWaits c).any (fun b => b < t.band)

/-- Admission (R26): RUNNING with a new admission time and hold-on, or completion at a target reached already. -/
def State.admitChannel (s : State) (n : Ch) (t : Travel) : State :=
  if t.reached s.units[n].count then s.complete n
  else
    let s1 := s.setState n (.running { t with admission := some s.now })
    { s1 with arb := { s1.arb with holdOn := s1.arb.holdOn.set n (some 30) } }

/-- The admission pass in order, up to the first candidate not admitted (R106); `aside` is the channel that may not be
readmitted (R114). -/
def State.admissions (c : RunCfg) (aside : Option Ch) : List Ch → State → State
  | [], s => s
  | n :: l, s =>
    match s.chan? n, s.travel? n with
    | some k, some t =>
      if aside ≠ some n ∧ s.admissible c k t then State.admissions c aside l (s.admitChannel n t) else s
    | _, _ => s

def State.admissionStep (s : State) (c : RunCfg) (aside : Option Ch) : State :=
  State.admissions c aside (s.inOrder (fun n => s.fitted n && (s.stateOf n).isCandidate)) s

/-! ### The evaluation (R104), and running to rest -/

def State.clearEval (s : State) : State := { s with evalDue := false }

/-- The steps of an evaluation after the yield: upgrades, admission, then a DRAW where its content has changed (R104). -/
def State.afterYield (s : State) (c : RunCfg) (aside : Option Ch) : State :=
  ((s.upgradeStep c).admissionStep c aside).checkDraw

/-- An evaluation (R104): yield, then the steps after it. Where the yield has moved a channel, the evaluation that its
departure starts follows, with no yield step (R114; log entry 8). The travel set aside is not readmitted (R114); that the
departure's evaluation bars it too, and that the pass stops at it, is the model's choice (log entry 44). -/
def State.evaluate (s : State) : State :=
  match s.port.config with
  | none => s.clearEval
  | some c =>
    if s.rereading then s.clearEval
    else
      let s1 := (s.clearEval).yieldStep c
      let aside := s.yields c
      let s2 := (s1.clearEval).afterYield c aside
      if s1.evalDue then s2.afterYield c aside else s2

/-- Run the reviews and evaluations that are due, reviews first, until none is due (log entry 8). -/
def State.settle : Nat → State → State
  | 0, s => s
  | k + 1, s =>
    if s.reviewDue then State.settle k { s with reviewDue := false }.review
    else if s.evalDue then State.settle k s.evaluate
    else s

/-- The end of a command: run to rest, then a DRAW for a change that started no evaluation (R117). -/
def State.finish (s : State) : State := (State.settle Config.settleBound s).checkDraw

end Sys2Proof.Machine
end

