-- ==== Sys2Proof/Machine/Clock.lean ====
section
/-! DEFINITION. STATION_TIME_STEP and the expiries of the evaluator's, arbiter's and supply's timers (R1, R86, R95, R107,
R109, R113, R117). An expiry command has its effect only when its timer is due; otherwise nothing has happened (log entry 1). -/

namespace Sys2Proof.Machine

abbrev Result := Host.Outcome State Fault Refusal

/-! ### One ds step, block by block (R1) -/

/-- A coast window or dead-time interval: over for certain once four steps have run (300 ms; log entry 25). -/
def tickInterval (t : Option Nat) : Option Nat :=
  match t with
  | none => none
  | some r => if r < 3 then some (r + 1) else none

def DriveState.tick : DriveState → DriveState
  | .ramp d r => .ramp d (r + 1)
  | d => d

def ChanUnit.tick (u : ChanUnit) : ChanUnit :=
  { u with
    drive := u.drive.tick, coast := tickInterval u.coast, deadTime := tickInterval u.deadTime
    overLimit := tickUp u.overLimit
    watch := u.watch.map (fun w => { sinceStart := w.sinceStart + 1, sinceStep := w.sinceStep + 1 }) }

def ChState.tick : ChState → ChState
  | .paused t l => .paused t (l - 1)
  | c => c

def ChanRec.tick (r : ChanRec) : ChanRec := { r with state := r.state.tick }

def Capture.tick : Capture → Capture
  | .idle => .idle
  | .collecting count least greatest sum since => .collecting count least greatest sum (since + 1)
  | .retryWait l => .retryWait (l - 1)

def RainFront.tick (r : RainFront) : RainFront :=
  { r with
    capture := r.capture.tick, onsetRun := tickUp r.onsetRun, ceaseRun := tickUp r.ceaseRun
    faultRun := tickUp r.faultRun, inRangeRun := tickUp r.inRangeRun, latestNow := false }

def WindFront.tick (w : WindFront) : WindFront :=
  { w with window := tickDown w.window, silence := tickDown w.silence }

def VaneFront.tick (v : VaneFront) : VaneFront := { v with candidate := v.candidate.map (fun c => (c.1, c.2 + 1)) }

def Evaluator.tick (e : Evaluator) : Evaluator := { e with reopen := tickDown e.reopen, timer := tickDown e.timer }

def Supply.tick : Supply → Supply
  | .recovering l => .recovering (l - 1)
  | x => x

def Arbiter.tick (a : Arbiter) : Arbiter :=
  { a with
    supply := a.supply.tick, listening := tickDown a.listening, holdOn := a.holdOn.map tickDown
    drawTimer := tickDown a.drawTimer }

def LineMode.tick : LineMode → LineMode
  | .listenOnly l => .listenOnly (l - 1)
  | m => m

def RxFrame.tick (f : RxFrame) : RxFrame := { f with age := f.age + 1 }

def LineCtl.tick (l : LineCtl) : LineCtl := { l with mode := l.mode.tick, queue := l.queue.map RxFrame.tick }

def PeerEntry.tick (p : PeerEntry) : PeerEntry :=
  { p with
    claim := p.claim.map (fun c => { c with left := c.left - 1 })
    waiting := p.waiting.map (fun c => { c with left := c.left - 1 })
    wetness := p.wetness.map (fun c => { c with left := c.left - 1 })
    wind := p.wind.map (fun c => { c with left := c.left - 1 }) }

def Handler.tick (h : Handler) : Handler :=
  { h with
    inHand := h.inHand.map RxFrame.tick, peers := h.peers.map PeerEntry.tick, isolation := tickDown h.isolation
    overflow := tickDown h.overflow, refresh := tickDown h.refresh, gustTimer := tickDown h.gustTimer
    stateTimers := h.stateTimers.map tickDown }

def Panel.tick (p : Panel) : Panel :=
  { p with
    ackTimer := tickDown p.ackTimer, learnTimer := tickDown p.learnTimer, patternAge := p.patternAge + 1
    refusal := tickUp p.refusal }

def Port.tick (p : Port) : Port :=
  { p with session := p.session.map (fun q => { q with confirm := tickDown q.confirm }) }

/-- One ds step: station time holds at its greatest value, every timer runs on (R1). -/
def State.tick (s : State) : State :=
  { s with
    now := satTime (s.now + 1), port := s.port.tick, units := s.units.map ChanUnit.tick, recs := s.recs.map ChanRec.tick
    rain := s.rain.tick, wind := s.wind.tick, vane := s.vane.tick, eval := s.eval.tick, arb := s.arb.tick
    line := s.line.tick, handler := s.handler.tick, panel := s.panel.tick }

/-- STATION_TIME_STEP (R1). -/
def execStationTimeStep (s : State) : Result := .next s.tick

/-! ### Expiries -/

/-- TIMED_REVIEW (R95): the timer runs again for 10 ds and a review is made. -/
def execTimedReview (s : State) : Result :=
  if due s.eval.timer then .next ({ s with eval := { s.eval with timer := some 10 } }.askReview).finish else .next s

/-- REOPEN_HOLD_EXPIRY (R86, R99): the hold stops and a review runs, but for an expiry during a reread. -/
def execReopenHoldExpiry (s : State) : Result :=
  if due s.eval.reopen then .next ({ s with eval := { s.eval with reopen := none } }.askReview).finish else .next s

/-- HOLD_ON_EXPIRY (R104, R113): an evaluation decides afresh. -/
def execHoldOnExpiry (n : Ch) (s : State) : Result :=
  if due s.arb.holdOn[n] && (s.stateOf n).isRunning then
    .next ({ s with arb := { s.arb with holdOn := s.arb.holdOn.set n none } }.askEval).finish
  else .next s

/-- LISTENING_INTERVAL_END (R109). -/
def execListeningIntervalEnd (s : State) : Result :=
  if due s.arb.listening then .next ({ s with arb := { s.arb with listening := none } }.askEval).finish else .next s

/-- DRAW_PERIOD_EXPIRY (R117): a DRAW while a travel exists. -/
def execDrawPeriodExpiry (s : State) : Result :=
  if due s.arb.drawTimer then
    match s.circuit? with
    | none => .next s
    | some c => if s.anyTravel && !s.rereading then .next (s.submitDraw (s.drawContent c) s.drawHold) else .next s
  else .next s

/-! ### Supply (R28, R107) -/

def State.setSupply (s : State) (x : Supply) : State := { s with arb := { s.arb with supply := x } }

/-- A low supply sets a RUNNING or BACKING channel aside; a backing ends as at the end of its pause (R28). -/
def State.supplyYield (n : Ch) (s : State) : State :=
  match s.stateOf n with
  | .running t => s.setState n (.yielded t)
  | .backing t _ => s.setState n (.yielded { t with retries := t.retries + 1 })
  | _ => s

/-- MSGOOD_LOW (R28, R107, R184, R185, R202). That it acts at a station without an address too, by R107 and R183 and against
R207, is the model's choice (log entry 51). -/
def execMsgoodLow (s : State) : Result :=
  if s.arb.supply = .low then .next s
  else
    let s1 := ((s.setSupply .low).setCondition .supplyLow true).raise .supplyLow
    .next ((s1.eachChannel State.supplyYield).abortLearn).finish

/-- MSGOOD_HIGH (R107): LOW, or no sample yet, becomes RECOVERING for 20 ds; the first sample begins the condition. That it acts
at a station without an address too is the model's choice (log entry 51). -/
def execMsgoodHigh (s : State) : Result :=
  match s.arb.supply with
  | .low => .next (s.setSupply (.recovering 20))
  | .unset => .next ((s.setSupply (.recovering 20)).setCondition .supplyLow true)
  | _ => .next s

/-- SUPPLY_RECOVERY_EXPIRY (R107). -/
def execSupplyRecoveryExpiry (s : State) : Result :=
  if s.arb.supply = .recovering 0 then .next (((s.setSupply .good).endCondition .supplyLow).askEval).finish else .next s

end Sys2Proof.Machine
end

