-- ==== Sys2Proof/Machine/Operands.lean ====
section
/-! DEFINITION. How the operands of commands are read: filtered levels (R3, R67, R168), the vane's Gray code (R71), the
decode table (R4, R5) and the fields of a received payload (R128, R147, R161). -/

namespace Sys2Proof.Machine

/-- A debounce filter of an encoder line (R3): a level that has differed for longer than the width is accepted; with width
0 at once; a shorter or equal run leaves no trace. -/
def debounce (widthUs : Nat) (accepted : Bool) (r : LineRun) : Bool :=
  if r.level ≠ accepted ∧ (widthUs = 0 ∨ widthUs < r.heldUs) then r.level else accepted

/-- What one decoder transition gives (R4). -/
inductive QuadStep where
  | none | up | down | illegal
  deriving DecidableEq, Repr

/-- The place of a pair (A, B) in the opening sequence 00, 10, 11, 01 (R4). -/
def quadPlace (a b : Bool) : Nat :=
  match a, b with
  | false, false => 0
  | true, false => 1
  | true, true => 2
  | false, true => 3

/-- A transition counts in a mode (R4): every one in X4, the A edges in X2, the A edges with B low in X1. -/
def quadCounts (mode : DecodeMode) (aChanged : Bool) (b : Bool) : Bool :=
  match mode with
  | .x4 => true
  | .x2 => aChanged
  | .x1 => aChanged && !b
  | .single => false

/-- The table of R4 for a held and a new pair. -/
def quadStep (mode : DecodeMode) (ha hb a b : Bool) : QuadStep :=
  if ha = a ∧ hb = b then .none
  else if ha ≠ a ∧ hb ≠ b then .illegal
  else if quadCounts mode (ha ≠ a) b then
    if (quadPlace ha hb + 1) % 4 = quadPlace a b then .up else .down
  else .none

/-- The direction-swap bit reverses the sign of a quadrature step (R5). -/
def QuadStep.swapped (q : QuadStep) (swap : Bool) : QuadStep :=
  match q, swap with
  | .up, true => .down
  | .down, true => .up
  | q, _ => q

/-- The raw sector of the three vane lines (R71). -/
def rawSector (van2 van1 van0 : Bool) : Nat :=
  match van2, van1, van0 with
  | false, false, false => 0
  | false, false, true => 1
  | false, true, true => 2
  | false, true, false => 3
  | true, true, false => 4
  | true, true, true => 5
  | true, false, true => 6
  | true, false, false => 7

/-- The decoded sector (R71). -/
def RunCfg.sector (c : RunCfg) (van2 van1 van0 : Bool) : Nat := (rawSector van2 van1 van0 + c.vaneOffset) % 8

/-! ### Payload fields -/

/-- A band field: 0..5, or 15 for none (R128, R147). -/
def bandField (b : Byte) : Option (Option Band) :=
  if h : b.toNat < 6 then some (some ⟨b.toNat, h⟩) else if b.toNat = 15 then some none else none

/-- A WETNESS payload that passes R147. -/
structure WetnessFields where
  phase : Nat
  age : Nat
  deriving DecidableEq, Repr

def wetnessFields : List Byte → Option WetnessFields
  | [p, ahi, alo, i] =>
    if (p.toNat ≤ 1 ∧ 1 ≤ i.toNat ∧ i.toNat ≤ 7) ∨ (p.toNat = 2 ∧ i.toNat = 0) then
      some { phase := p.toNat, age := fromBe16 ahi alo }
    else none
  | _ => none

/-- A GUST payload that passes R147. -/
structure GustFields where
  assessment : Nat
  sector : Nat
  deriving DecidableEq, Repr

def gustFields : List Byte → Option GustFields
  | [ahi, alo, shi, slo, d] =>
    if fromBe16 ahi alo ≤ 600 ∧ fromBe16 shi slo ≤ 600 ∧ d.toNat ≤ 8 then
      some { assessment := fromBe16 ahi alo, sector := d.toNat }
    else none
  | _ => none

/-- A DRAW payload that passes R147. -/
structure DrawFields where
  circuit : Nat
  draw : Nat
  hold : Nat
  runLeast : Option Band
  waitMost : Option Band
  deriving DecidableEq, Repr

def drawFields : List Byte → Option DrawFields
  | [c, dhi, dlo, hhi, hlo, rm, rl, wm, wc] =>
    if c.toNat ≤ 15 ∧ fromBe16 dhi dlo ≤ 8000 ∧ fromBe16 hhi hlo ≤ 6000 ∧ wc.toNat ≤ 4 then
      match bandField rm, bandField rl, bandField wm with
      | some _, some l, some w =>
        some { circuit := c.toNat, draw := fromBe16 dhi dlo, hold := fromBe16 hhi hlo, runLeast := l, waitMost := w }
      | _, _, _ => none
    else none
  | _ => none

/-- The actions of a COMMAND (R128). -/
inductive Action where
  | opn | close | stop | hold | release | acknowledge | restart | report
  deriving DecidableEq, Repr

def actionOf (code : Nat) : Option Action :=
  match code with
  | 1 => some .opn
  | 2 => some .close
  | 3 => some .stop
  | 4 => some .hold
  | 5 => some .release
  | 6 => some .acknowledge
  | 7 => some .restart
  | 8 => some .report
  | _ => none

/-- A COMMAND that is obeyed: its mask, action and argument. -/
structure Order where
  mask : Nat
  action : Action
  argument : Nat
  deriving DecidableEq, Repr

/-- The argument an action allows (R161). -/
def argumentOk (a : Action) (x : Nat) : Bool :=
  match a with
  | .opn => decide (1 ≤ x ∧ x ≤ 100)
  | _ => x = 0

/-- A frame is a COMMAND the station obeys (R161). -/
def State.obeyed (s : State) (f : RxFrame) : Option Order :=
  match s.port.config, s.port.ownAddress, f.payload with
  | some c, some own, [target, mask, action, arg] =>
    if f.kind = 6 ∧ f.origin ≠ 0 ∧ (f.origin = c.console1 ∨ f.origin = c.console2)
        ∧ (target.toNat = own ∨ target.toNat = 0) ∧ mask.toNat < 16 then
      match actionOf action.toNat with
      | none => none
      | some a => if argumentOk a arg.toNat then some { mask := mask.toNat, action := a, argument := arg.toNat } else none
    else none
  | _, _, _ => none

/-- The channels of a mask, in order from 1 to 4 (R162). -/
def maskChannels (mask : Nat) : List Ch := channels.filter (fun n => mask.testBit n.val)

end Sys2Proof.Machine
end

