-- ==== Sys2Proof/Machine/Channel.lean ====
section
/-! DEFINITION. The commands of the channel units and the pause (chapters 1 and 2). -/

namespace Sys2Proof.Machine

/-! ### Decoder and index (R2 to R11) -/

/-- A step past an end of the range is refused (R8). -/
def stepRefused (count : Nat) (up : Bool) : Bool := if up then decide (Config.maxCount ≤ count) else count = 0

/-- A step that is made: the count, the last step for the stall watch (R2, R20). That the count at the last step (R199, R200) is
the stepped count, also where the index sets C at that sample, is the model's choice (log entry 50). -/
def ChanUnit.step (u : ChanUnit) (up : Bool) (now : Nat) : ChanUnit :=
  let c := if up then u.count + 1 else u.count - 1
  { u with
    count := c, lastStepTime := now, lastStepCount := c
    watch := u.watch.map (fun w => { w with sinceStep := 0 }) }

/-- What a step does to the travel: compare completion of an OPEN or REDUCE travel, end of a backing (R30, R33). -/
def State.compareStep (s : State) (n : Ch) : State :=
  match s.stateOf n with
  | .running t => if t.reached s.units[n].count then s.complete n else s
  | .backing _ e => if e ≤ s.units[n].count then s.enterPause n else s
  | _ => s

/-- One step of the decoder (R2, R8). -/
def State.stepCount (s : State) (n : Ch) (up : Bool) : State :=
  if stepRefused s.units[n].count up then (if s.recs[n].referenced then s.encoderFault n else s)
  else (((s.setUnit n (s.units[n].step up s.now)).judgeLamp).compareStep n)

/-- An illegal transition (R6): counted while a travel exists; the fourth delivers ENCODER. -/
def State.illegalTransition (s : State) (n : Ch) : State :=
  if (s.travel? n).isSome && decide (s.units[n].illegal < 4) then
    let s1 := s.setUnit n { s.units[n] with illegal := s.units[n].illegal + 1 }
    if s.units[n].illegal = 3 then s1.encoderFault n else s1
  else s

/-- A decoder transition in a quadrature mode (R4 to R6). -/
def State.quadTransition (s : State) (n : Ch) (k : ChanCfg) (a b : Bool) : State :=
  let u := s.units[n]
  let s1 := s.setUnit n { u with heldA := a, heldB := b }
  match (quadStep k.mode u.heldA u.heldB a b).swapped k.swap with
  | .none => s1
  | .up => s1.stepCount n true
  | .down => s1.stepCount n false
  | .illegal => s1.illegalTransition n

/-- The sign of a SINGLE mode step (R7): the drive's direction while it conducts, the last one while the coast window is
open, else none. -/
def ChanUnit.singleDir (u : ChanUnit) : Option Direction :=
  match u.drive.driven? with
  | some d => some d
  | none => if u.coast.isSome then u.lastDir else none

/-- A rising A edge in SINGLE mode (R7). -/
def State.singleEdge (s : State) (n : Ch) : State :=
  match s.units[n].singleDir with
  | none => s
  | some d => s.stepCount n (d = .opening)

/-- The index combination (R9): the index level high while the pair is the phase; only the A half in SINGLE mode. -/
def ChanCfg.indexMet (k : ChanCfg) (a b i : Bool) : Bool :=
  i && a = k.phaseA && (k.mode = .single || b = k.phaseB)

/-- INDEX is delivered (R31): it ends a RUNNING REFERENCE travel. -/
def State.deliverIndex (s : State) (n : Ch) : State :=
  match s.stateOf n with
  | .running t => if t.kind = .reference then s.completeTravel n t else s
  | _ => s

/-- The count is set to C and the channel is referenced (R10, R11). -/
def State.reference (s : State) (n : Ch) (c : Nat) : State := (s.setCount n c).setReferenced n true

/-- A referencing travel (R11): REFERENCE or LEARN-CLOSE. -/
def State.referencing (s : State) (n : Ch) : Bool :=
  match s.travel? n with
  | none => false
  | some t => t.kind = .reference || t.kind = .learnClose

/-- An index event (R9 to R11, R13). -/
def State.indexEvent (s : State) (n : Ch) (k : ChanCfg) : State :=
  let s1 := s.setUnit n { s.units[n] with indexSeen := true }
  match k.indexMode with
  | .off => s
  | .reload => (s1.reference n k.c).deliverIndex n
  | .check =>
    if !s.recs[n].referenced || s.referencing n then (s1.reference n k.c).deliverIndex n
    else if absDiff s.units[n].count k.c ≤ k.indexTol then s1.deliverIndex n
    else s1.encoderFault n

/-- The decoder's work at a sample at which accepted levels change. -/
def State.decode (s : State) (n : Ch) (k : ChanCfg) (old : ChanUnit) (a b : Bool) : State :=
  match k.mode with
  | .single => if !old.accA && a then s.singleEdge n else s
  | _ => if old.accA = a ∧ old.accB = b then s else s.quadTransition n k a b

/-- ENCODER_LEVEL_ACCEPTED (R3): filter the three lines, decode, then judge the index at the stepped count (R9). An unfitted
channel does not decode (R2). That an index combination true already when the channel becomes fitted, or made true by a reread's
phase or mode, gives no event until it ends and begins again is the model's choice (log entry 45). -/
def execEncoderLevelAccepted (n : Ch) (a b i : LineRun) (s : State) : Result :=
  match s.chan? n with
  | none => .next s
  | some k =>
    let u := s.units[n]
    let a' := debounce k.debounceUs u.accA a
    let b' := if k.mode = .single then false else debounce k.debounceUs u.accB b
    let i' := debounce k.debounceUs u.accI i
    let s1 := (s.setUnit n { u with accA := a', accB := b', accI := i' }).decode n k u a' b'
    let s2 := if !k.indexMet u.accA u.accB u.accI && k.indexMet a' b' i' then s1.indexEvent n k else s1
    .next s2.finish

/-! ### Stop signals (R18 to R20) -/

/-- PINCH (R18). -/
def execPinch (n : Ch) (overcur stall : Bool) (s : State) : Result :=
  if s.units[n].pinchArises then .next (s.stopMoment n true overcur stall).finish else .next s

/-- OVERCURRENT (R19). -/
def execOvercurrent (n : Ch) (pinch stall : Bool) (s : State) : Result :=
  if s.units[n].overcurrentArises then .next (s.stopMoment n pinch true stall).finish else .next s

/-- STALL (R20). -/
def execStall (n : Ch) (pinch overcur : Bool) (s : State) : Result :=
  if s.units[n].stallArises then .next (s.stopMoment n pinch overcur true).finish else .next s

/-- The active profile (R15, R25): the travel's while it is RUNNING, NORMAL in BACKING. -/
def State.activeProfile? (s : State) (n : Ch) : Option ProfileCfg :=
  match s.chan? n, s.stateOf n with
  | some k, .running t => some (k.profile t.profile)
  | some k, .backing _ _ => some k.normal
  | _, _ => none

/-- The current limit of the active profile (R15, R19). -/
def State.activeLimit? (s : State) (n : Ch) : Option Nat := (s.activeProfile? n).map (·.limit)

/-- CURRENT_CONVERSION (R19): above the limit the interval starts or runs on; at or below, it ends. -/
def execCurrentConversion (n : Ch) (reading : Fin 1024) (s : State) : Result :=
  match s.units[n].drive.driven?, s.activeLimit? n with
  | some _, some limit =>
    .next (s.setUnit n { s.units[n] with
      overLimit := if limit < reading.val then some (s.units[n].overLimit.getD 0) else none })
  | _, _ => .next s

/-! ### Drive timing (R7, R16, R17) -/

/-- The 300 ms of a dead time or coast window may have run out (log entry 25). -/
def intervalOver (t : Option Nat) : Bool :=
  match t with
  | none => true
  | some r => decide (3 ≤ r)

/-- DEAD_TIME_END (R17): a drive that waits in DEAD enters RAMP. -/
def execDeadTimeEnd (n : Ch) (s : State) : Result :=
  if intervalOver s.units[n].deadTime then
    match s.units[n].drive with
    | .dead d => .next (s.driveStart n d)
    | _ => .next (s.setUnit n { s.units[n] with deadTime := none })
  else .next s

/-- RAMP_END (R16). -/
def execRampEnd (n : Ch) (s : State) : Result :=
  match s.units[n].drive with
  | .ramp d r => if 3 ≤ r then .next (s.setUnit n { s.units[n] with drive := .full d }) else .next s
  | _ => .next s

/-- COAST_WINDOW_CLOSE (R7). -/
def execCoastWindowClose (n : Ch) (s : State) : Result :=
  if intervalOver s.units[n].coast then .next (s.setUnit n { s.units[n] with coast := none }) else .next s

/-! ### Pause (R34) -/

/-- PAUSE_EXPIRY (R34). -/
def execPauseExpiry (n : Ch) (s : State) : Result :=
  match s.stateOf n with
  | .paused t 0 =>
    if t.origin.isRequest || (s.needOf n).asks t.kind s.recs[n].referenced then
      .next ((s.setState n (.waiting { t with retries := t.retries + 1 })).askEval).finish
    else .next (s.toStill n).finish
  | _ => .next s

/-! ### Outputs (R15, R16) -/

/-- The duty `runMs` after drive start, in 1/300 of a percent: a straight line to the profile duty in 300 ms (R16). In this
unit the line is exact, so no step of its resolution is chosen. -/
def rampDuty (duty runMs : Nat) : Nat := duty * min runMs 300

/-- The duties of HBPn and HBMn in 1/300 of a percent (R15, R16): PWM on the direction's output at the duty of the active
profile, the other low. A ramp's time is 100 ms for each ds step since drive start and `subMs` more (log entry 4). -/
def DriveState.outputs (d : DriveState) (duty subMs : Nat) : Nat × Nat :=
  match d with
  | .off => (0, 0)
  | .dead _ => (0, 0)
  | .ramp .opening r => (rampDuty duty (100 * r + subMs), 0)
  | .ramp .closing r => (0, rampDuty duty (100 * r + subMs))
  | .full .opening => (300 * duty, 0)
  | .full .closing => (0, 300 * duty)

/-- The duty the drive runs at or toward (R15, R16): that of the active profile as it stands, so a change of profile changes
it in RAMP and FULL alike. -/
def State.activeDuty (s : State) (n : Ch) : Nat := ((s.activeProfile? n).map (·.duty)).getD 0

/-- HBPn and HBMn of a channel, `subMs` after the last ds step (R15, R16). -/
def State.bridge (s : State) (n : Ch) (subMs : Nat) : Nat × Nat := s.units[n].drive.outputs (s.activeDuty n) subMs

end Sys2Proof.Machine
end

