-- ==== Sys2Proof/Machine/Weather.lean ====
section
/-! DEFINITION. The weather front end (chapter 3) and the WETNESS and GUST timers (R154, R155). -/

namespace Sys2Proof.Machine

/-! ### Rain: the runs (R60 to R65) -/

/-- A reading out of range (R63). -/
def outOfRange (r : Nat) : Bool := decide (r ≤ 2 ∨ 1021 ≤ r)

/-- A run: opened or kept while its condition holds, closed else; held as the ds since it opened. -/
def keepRun (holds : Bool) (run : Option Nat) : Option Nat := if holds then some (run.getD 0) else none

/-- A run has lasted a time. -/
def lasted (run : Option Nat) (ds : Nat) : Bool :=
  match run with
  | none => false
  | some a => decide (ds ≤ a)

/-- The onset threshold (R60), which is also the T of the intensity (R65). -/
def RainFront.onsetThreshold (f : RainFront) (c : RunCfg) : Nat :=
  match f.reference with
  | none => c.wetFloor
  | some r => r + c.onsetDelta

/-- The cease threshold (R60). -/
def RainFront.ceaseThreshold (f : RainFront) (c : RunCfg) : Nat :=
  match f.reference with
  | none => c.wetFloor
  | some r => r + c.ceaseDelta

/-- Intensity of a reading while WET (R65): at least 1, at most 7. -/
def intensityOf (t reading : Nat) : Nat := if reading < t then 1 else min 7 (1 + (reading - t) / 64)

/-- What a reading does to the sensor state (R61 to R64). -/
inductive RainEvent where
  | none
  | onset
  | cease
  | faultFromWet
  | faultFromDry
  | faultEnd
  deriving DecidableEq, Repr

/-- The state without a confirmed rain: DRY with a reference, CAPTURING without (R62, R64). -/
def RainFront.dryState (f : RainFront) : RainState := if f.reference.isSome then .dry else .capturing

/-- Entry to FAULT (R63): onset and cease runs are closed, a capture is abandoned (R59). -/
def RainFront.enterFault (f : RainFront) : RainFront :=
  { f with
    state := some .fault, onsetRun := none, ceaseRun := none, faultRun := none, inRangeRun := none, capture := .idle
    intensity := 0 }

/-- A reading in FAULT (R64). -/
def RainFront.senseFault (f : RainFront) (r : Nat) : RainFront × RainEvent :=
  let run := keepRun (!outOfRange r) f.inRangeRun
  if lasted run 50 then
    ({ f with state := some f.dryState, owed := f.owed || f.reference.isSome, inRangeRun := none }, .faultEnd)
  else ({ f with inRangeRun := run }, .none)

/-- A reading in WET (R62, R63, R65). -/
def RainFront.senseWet (f : RainFront) (c : RunCfg) (r : Nat) : RainFront × RainEvent :=
  let fr := keepRun (outOfRange r) f.faultRun
  let cr := keepRun (decide (r < f.ceaseThreshold c)) f.ceaseRun
  if lasted fr 50 then (f.enterFault, .faultFromWet)
  else if lasted cr (10 * c.dryHoldS) then
    ({ f with state := some f.dryState, ceaseRun := none, faultRun := fr, intensity := 0 }, .cease)
  else ({ f with ceaseRun := cr, faultRun := fr, intensity := intensityOf (f.onsetThreshold c) r }, .none)

/-- A reading in CAPTURING or DRY (R61, R63, R65, R66). -/
def RainFront.senseDry (f : RainFront) (c : RunCfg) (r now : Nat) : RainFront × RainEvent :=
  let fr := keepRun (outOfRange r) f.faultRun
  let onr := keepRun (decide (f.onsetThreshold c ≤ r)) f.onsetRun
  if lasted fr 50 then ({ f.enterFault with wetTime := some now }, .faultFromDry)
  else if lasted onr (10 * c.onsetConfirmS) then
    ({ f with
      state := some .wet, onsetRun := none, ceaseRun := none, faultRun := fr, capture := .idle, wetTime := some now
      intensity := intensityOf (f.onsetThreshold c) r }, .onset)
  else ({ f with onsetRun := onr, faultRun := fr }, .none)

/-- The sensor-state judgement of a reading (3.3). -/
def RainFront.sense (f : RainFront) (c : RunCfg) (r now : Nat) : RainFront × RainEvent :=
  match f.state with
  | none => (f, .none)
  | some .fault => f.senseFault r
  | some .wet => f.senseWet c r
  | some .capturing | some .dry => f.senseDry c r now

/-! ### Rain: the dry reference capture (R57 to R59) -/

/-- A capture is wanted (R57). -/
def RainFront.wantsCapture (f : RainFront) : Bool := f.state = some .capturing || (f.state = some .dry && f.owed)

/-- A successful capture (R58). -/
def RainFront.captured (f : RainFront) (sum : Nat) : RainFront :=
  { f with reference := some (sum / 8), owed := false, capture := .idle, state := some .dry, onsetRun := none }

/-- A capture reading (R58), with what the capture holds before it. -/
def RainFront.captureReading (f : RainFront) (c : RunCfg) (r count least greatest sum : Nat) : RainFront :=
  if c.wetFloor ≤ r then { f with capture := .retryWait 600 }
  else if count + 1 < 8 then
    { f with capture := .collecting (count + 1) (min least r) (max greatest r) (sum + r) 0 }
  else if max greatest r - min least r ≤ 16 then f.captured (sum + r)
  else { f with capture := .retryWait 600 }

/-- The capture at a reading (R57): it starts at this reading when it is wanted and idle; readings follow 10 ds apart. -/
def RainFront.captureStep (f : RainFront) (c : RunCfg) (r : Nat) : RainFront :=
  if f.wantsCapture then
    match f.capture with
    | .idle => f.captureReading c r 0 1023 0 0
    | .collecting count least greatest sum since =>
      if 10 ≤ since then f.captureReading c r count least greatest sum else f
    | .retryWait _ => f
  else f

/-- The reports of a change of the sensor state (R61 to R64, R66, R154, R184). -/
def State.rainReport (s : State) (e : RainEvent) : State :=
  match e with
  | .none => s
  | .onset => ((s.submitWetness 0 0 s.rain.intensity).setRefresh (some 600)).askReview
  | .cease => ((s.submitWetness 2 s.wetAge 0).setRefresh none).askReview
  | .faultFromWet => ((s.setRefresh none).beginCondition .rainSensor).askReview
  | .faultFromDry => (s.beginCondition .rainSensor).askReview
  | .faultEnd => (s.endCondition .rainSensor).askReview

/-- One reading: the state judgement, its reports, then the capture (R56; log entry 13). -/
def State.takeRain (s : State) (c : RunCfg) (r : Nat) : State :=
  let x := ({ s.rain with latest := some r, latestNow := true } : RainFront).sense c r s.now
  let s1 := ({ s with rain := x.1 } : State).rainReport x.2
  { s1 with rain := s1.rain.captureStep c r }

/-- The running configuration while the rain sensor is fitted and readings are taken (R56). -/
def State.rainCfg? (s : State) : Option RunCfg :=
  match s.port.config with
  | none => none
  | some c => if c.rainFitted && !s.rereading then some c else none

/-- RAIN_READING (R56). -/
def execRainReading (reading : Fin 1024) (s : State) : Result :=
  match s.rainCfg? with
  | none => .next s
  | some c => .next (s.takeRain c reading.val).finish

/-- CAPTURE_RETRY_EXPIRY (R57): the capture starts at once if wanted, with the reading of this station time where it has
been taken already, else with the next (log entry 13). -/
def execCaptureRetryExpiry (s : State) : Result :=
  match s.rainCfg?, s.rain.capture with
  | some c, .retryWait 0 =>
    let f : RainFront := { s.rain with capture := .idle }
    if f.wantsCapture then
      match f.latest, f.latestNow with
      | some r, true => .next { s with rain := f.captureReading c r 0 1023 0 0 }
      | _, _ => .next { s with rain := { f with capture := .collecting 0 1023 0 0 10 } }
    else .next { s with rain := f }
  | _, _ => .next s

/-- WETNESS_REFRESH_EXPIRY (R154). -/
def execWetnessRefreshExpiry (s : State) : Result :=
  if due s.handler.refresh && s.rain.state = some .wet then
    .next ((s.submitWetness 1 s.wetAge s.rain.intensity).setRefresh (some 600))
  else .next s

/-! ### Anemometer (R67 to R70, R73) -/

/-- The running configuration while the anemometer is fitted (R67). -/
def State.anemCfg? (s : State) : Option RunCfg :=
  match s.port.config with
  | none => none
  | some c => if c.anemFitted then some c else none

/-- A pulse (R67, R73): counted, the silence restarts, an exclusion ends. -/
def WindFront.pulse (w : WindFront) : WindFront :=
  { w with
    level := true, count := min 65535 (w.count + 1), silence := some 6000, silencePassed := false, excluded := false }

/-- ANEM_PULSE (R67, R72, R73, R155): a rising edge accepted after 1 ms. -/
def execAnemPulse (heldUs : Nat) (s : State) : Result :=
  match s.anemCfg? with
  | none => .next s
  | some _ =>
    if !s.wind.level && decide (1000 ≤ heldUs) then
      let s1 : State := { s with wind := s.wind.pulse }
      if s.wind.excluded then .next (((s1.endCondition .windSensor).submitGust).askReview).finish else .next s1
    else .next s

/-- ANEM_LEVEL_FALL (R67): a low level accepted after 1 ms counts nothing. -/
def execAnemLevelFall (heldUs : Nat) (s : State) : Result :=
  match s.anemCfg? with
  | none => .next s
  | some _ =>
    if s.wind.level && decide (1000 ≤ heldUs) then .next { s with wind := { s.wind with level := false } } else .next s

/-- The window speed (R68). -/
def windowSpeed (count k : Nat) : Nat := min 600 (count * k / 3)

/-- A push into the gust record (R69): up to five peaks, oldest first. -/
def pushGust (gusts : List Nat) (peak : Nat) : List Nat :=
  if gusts.length < 5 then gusts ++ [peak] else gusts.drop 1 ++ [peak]

/-- A window end (R68, R69). -/
def WindFront.endWindow (w : WindFront) (k : Nat) : WindFront :=
  let v := windowSpeed w.count k
  let peak := max w.peak v
  let w1 := { w with lastSpeed := v, count := 0, window := some 30 }
  if w.done + 1 = 20 then { w1 with gusts := pushGust w.gusts peak, peak := 0, done := 0 }
  else { w1 with peak := peak, done := w.done + 1 }

/-- WINDOW_END (R68 to R70, R72). -/
def execWindowEnd (s : State) : Result :=
  match s.anemCfg? with
  | none => .next s
  | some c =>
    if due s.wind.window then .next (({ s with wind := s.wind.endWindow c.k } : State).handReport).finish else .next s

/-- A live peer wind part of 50 or more (R73). -/
def State.peerWindy (s : State) : Bool :=
  s.handler.peers.any (fun p =>
    match p.wind with
    | none => false
    | some w => decide (0 < w.left) && decide (50 ≤ w.assessment))

/-- Exclusion is judged (R73): raised, the report withdrawn. -/
def State.judgeExclusion (s : State) : State :=
  match s.anemCfg? with
  | none => s
  | some _ =>
    if !s.wind.excluded && (s.wind.silencePassed || due s.wind.silence) && s.peerWindy then
      ((({ s with wind := { s.wind with excluded := true } } : State).beginCondition .windSensor).withdrawGust).askReview
    else s

/-- ANEM_SILENCE_EXPIRY (R73). -/
def execAnemSilenceExpiry (s : State) : Result :=
  if due s.wind.silence then
    .next (({ s with wind := { s.wind with silence := none, silencePassed := true } } : State).judgeExclusion).finish
  else .next s

/-- GUST_PERIOD_EXPIRY (R155). -/
def execGustPeriodExpiry (s : State) : Result :=
  if due s.handler.gustTimer && s.reportOffered then .next s.submitGust else .next s

/-! ### Vane (R71) -/

/-- The running configuration while vane and anemometer are both fitted (R71). -/
def State.vaneCfg? (s : State) : Option RunCfg :=
  match s.port.config with
  | none => none
  | some c => if c.vaneFitted && c.anemFitted then some c else none

/-- A decoded sector (R71): it keeps, opens or ends a candidate. -/
def VaneFront.sample (v : VaneFront) (d : Nat) : VaneFront :=
  if d = v.sector then { v with candidate := none }
  else
    match v.candidate with
    | none => { v with candidate := some (d, 0) }
    | some (c, age) => if c = d then { v with candidate := some (c, age) } else { v with candidate := some (d, 0) }

/-- VANE_SAMPLE (R71). -/
def execVaneSample (van2 van1 van0 : Bool) (s : State) : Result :=
  match s.vaneCfg? with
  | none => .next s
  | some c => .next { s with vane := s.vane.sample (c.sector van2 van1 van0) }

/-- SECTOR_ACCEPTED (R71, R72): a candidate held for 30 ds. Whether the VANE_SAMPLE of that station time comes before or
after this command is left to their order in the queue (the model's choice, log entry 40). -/
def execSectorAccepted (s : State) : Result :=
  match s.vaneCfg?, s.vane.candidate with
  | some _, some (d, age) =>
    if 30 ≤ age then .next (({ s with vane := { sector := d, candidate := none } } : State).handReport).finish
    else .next s
  | _, _ => .next s

end Sys2Proof.Machine
end

