-- ==== Sys2Proof/Machine/LineControl.lean ====
section
/-! DEFINITION. The line controller's commands (chapter 6) and isolation (R157 to R160). -/

namespace Sys2Proof.Machine

def State.setLine (s : State) (l : LineCtl) : State := { s with line := l }

/-! ### Bit times (R122, R124, R131) -/

/-- How many bit times the dominant hold lasts (R131). -/
def holdBits : Nat := 8

/-- One bit time of the transmitter: the next bit of the frame, or of the dominant hold, is begun. The own start bit, read
back dominant by the end of its bit time, makes the line BUSY (R124). -/
def LineCtl.bitTime (l : LineCtl) : LineCtl :=
  match l.tx with
  | .notSending => l
  | .sending e frame sent =>
    { l with tx := .sending e frame (min frame.length (sent + 1)), idle := if sent = 1 then false else l.idle }
  | .holding e held => { l with tx := .holding e (min holdBits (held + 1)) }

/-- One bit time in which no command falls: what a step does on an empty queue (R122; log entry 2). -/
def State.bitTime (s : State) : State := s.setLine s.line.bitTime

/-- The transmitter drives LNP and LNM apart, a dominant bit (R122, R131): each 0 of its frame, and the hold; else it
releases them. -/
def Transmitter.dominant : Transmitter → Bool
  | .notSending => false
  | .sending _ frame sent => decide (1 ≤ sent) && frame[sent - 1]? = some false
  | .holding _ held => decide (1 ≤ held)

/-! ### Sending (R124, R130 to R132, R137, R139) -/

/-- TRANSMISSION_START (R124, R137): on an idle line in NORMAL mode the head of the pool is locked and its frame built; the
start bit follows in the next bit time. -/
def execTransmissionStart (s : State) : Result :=
  match s.port.ownAddress, s.line.tx, s.line.waiting with
  | some a, .notSending, e :: w =>
    if s.line.idle && s.line.mode.isNormal then
      .next (s.setLine { s.line with tx := .sending e (e.frame a) 0, waiting := w })
    else .next s
  | _, _, _ => .next s

/-- FRAME_SUCCESS (R132, R137): the last end bit has been read back; the locked notice leaves the pool and the failure count
is 0. -/
def execFrameSuccess (s : State) : Result :=
  match s.line.tx with
  | .sending _ frame sent =>
    if sent = frame.length then .next (s.setLine { s.line with tx := .notSending, failures := 0 }) else .next s
  | _ => .next s

/-- A loss can arise at this bit (R130): a recessive bit of the arbitration field. -/
def lossArises (e : PoolEntry) (origin pos : Nat) (frame : List Bool) : Bool :=
  decide (1 ≤ pos ∧ pos < arbitrationEnd e.rank origin) && frame[pos]? = some true

/-- ARBITRATION_LOSS (R130, R139) at the bit being sent: the station becomes a receiver of the frame under way. -/
def execArbitrationLoss (pos : Nat) (s : State) : Result :=
  match s.port.ownAddress, s.line.tx with
  | some a, .sending e frame sent =>
    if sent = pos + 1 && lossArises e a pos frame then
      .next (s.setLine { s.line with
        tx := .notSending, receiving := true, idle := false, waiting := poolReturn e s.line.waiting })
    else .next s
  | _, _ => .next s

/-- A bit error can arise at this bit (R131): outside the arbitration field any, inside it a dominant bit sent. -/
def errorArises (e : PoolEntry) (origin pos : Nat) (frame : List Bool) : Bool :=
  match frame[pos]? with
  | none => false
  | some sent => pos = 0 || decide (arbitrationEnd e.rank origin ≤ pos) || !sent

/-- BIT_ERROR (R131) at the bit being sent: the frame is abandoned, and the dominant hold follows from the next bit time. A recessive bit read back
dominant makes the line BUSY; a dominant one read back recessive leaves its status (R124; log entry 20). -/
def execBitError (pos : Nat) (s : State) : Result :=
  match s.port.ownAddress, s.line.tx with
  | some a, .sending e frame sent =>
    if sent = pos + 1 && errorArises e a pos frame then
      .next (s.setLine { s.line with
        tx := .holding e 0, receiving := false, idle := if frame[pos]? = some true then false else s.line.idle })
    else .next s
  | _, _ => .next s

/-- BIT_ERROR_HOLD_END (R131, R132, R139): at the end of the hold the count rises; at 16 the mode, NORMAL while the
transmitter sends, becomes LISTEN-ONLY for 600 ds. The locked notice returns to the pool before the ALARM of LINE FAULT is
submitted to it (the model's choice, log entry 43). -/
def execBitErrorHoldEnd (dominantRead : Bool) (s : State) : Result :=
  match s.line.tx with
  | .holding e held =>
    if held < holdBits then .next s
    else
      let failures := min 16 (s.line.failures + 1)
      let l := { s.line with
        tx := .notSending, failures := failures, waiting := poolReturn e s.line.waiting
        idle := if dominantRead then false else s.line.idle }
      if failures = 16 && s.line.mode.isNormal then
        .next ((s.setLine { l with mode := .listenOnly 600 }).beginCondition .lineFault).finish
      else .next (s.setLine l)
  | _ => .next s

/-- LISTEN_ONLY_EXPIRY (R108, R132): the mode is NORMAL again, the LINE FAULT condition ends, and a LINE FAULT flag that has
been acknowledged clears. -/
def execListenOnlyExpiry (s : State) : Result :=
  match s.line.mode with
  | .listenOnly 0 =>
    let s1 := (s.setLine { s.line with mode := .normal, failures := 0 }).endLineFault
    .next (if s1.handler.isolated then s1 else s1.askEval).finish
  | _ => .next s

/-- LINE_IDLE (R124): the seventh consecutive recessive bit makes the line IDLE, whatever the transmitter does. A frame whose
last end bit is that bit is still being received. A station without an address keeps its status BUSY for good (the model's
choice, log entry 53). -/
def execLineIdle (s : State) : Result :=
  match s.port.ownAddress with
  | some _ => .next (s.setLine { s.line with idle := true })
  | none => .next s

/-- START_BIT_FROM_ANOTHER_STATION (R124, R139): the receiver begins a frame; a notice locked whose own start bit time has not
come returns. In a dominant hold on a line still IDLE, whose start bit was read recessive, no reception begins (the model's
choice, log entry 54), and at a station without an address nothing happens (log entry 53). -/
def execStartBitFromAnotherStation (s : State) : Result :=
  match s.port.ownAddress with
  | none => .next s
  | some _ =>
    if s.line.idle then
      match s.line.tx with
      | .notSending => .next (s.setLine { s.line with idle := false, receiving := true })
      | .sending e _ 0 =>
        .next (s.setLine { s.line with
          idle := false, receiving := true, tx := .notSending, waiting := poolReturn e s.line.waiting })
      | .sending _ _ (_ + 1) => .next s
      | .holding _ _ => .next s
    else .next s

/-- FRAME_ABANDONED (R133): the bits read meet a fault; the receiver waits for the line to become idle. -/
def execFrameAbandoned (bits : List Bool) (s : State) : Result :=
  match receive bits with
  | .fault _ => .next (s.setLine { s.line with receiving := false })
  | _ => .next s

/-! ### Isolation (R157 to R160) -/

/-- A valid frame from another origin is reported (R157, R159). -/
def State.heard (s : State) : State :=
  match s.port.config with
  | none => s
  | some c =>
    let s1 : State := { s with handler := { s.handler with isolation := some (10 * c.isolationS), isolated := false } }
    if s.handler.isolated then
      let s2 := (s1.endCondition .isolation).askReview
      if s2.line.mode.isNormal then s2.askEval else s2
    else s1

/-- ISOLATION_EXPIRY (R45, R158, R160, R202): under policy CLOSE isolation-close begins and every OPEN travel ends. -/
def execIsolationExpiry (s : State) : Result :=
  match s.port.config with
  | none => .next s
  | some c =>
    if due s.handler.isolation && !s.handler.isolated then
      let s1 : State := { s with handler := { s.handler with isolation := none, isolated := true } }
      let s2 := s1.beginCondition .isolation
      let s3 := if c.policyClose then (s2.eachChannel (fun n s => s.endOpen n)).abortLearn else s2
      .next s3.askReview.finish
    else .next s

/-! ### Frame arrival (R133 to R135) -/

/-- A frame is offered to the receive queue (R135); the handler takes it at once when it has none in hand (R144). -/
def State.offer (s : State) (f : RxFrame) : State :=
  if s.handler.inHand.isNone && s.filing then { s with handler := { s.handler with inHand := some f } }
  else if s.line.queue.length < Config.queueCapacity then s.setLine { s.line with queue := s.line.queue ++ [f] }
  else s

/-- A frame of the own origin that this station was not sending (R134). -/
def State.clash (s : State) : State :=
  let s1 := s.setLine { s.line with mode := .clashed, faultAck := none }
  (if s.line.mode.isNormal then s1 else s1.endCondition .lineFault).beginCondition .addressClash

/-- FRAME_ARRIVAL (R133 to R135, R157, R159): the bits read are a valid frame. -/
def execFrameArrival (bits : List Bool) (s : State) : Result :=
  match s.port.ownAddress, s.line.tx, receive bits with
  | some a, .notSending, .frame origin kind payload =>
    if s.line.receiving then
      let s1 := s.setLine { s.line with receiving := false }
      if origin = a then .next s1.clash.finish
      else
        .next (s1.heard.offer
          { origin := origin, kind := kind, payload := payload, receipt := s.now, age := 0 }).finish
    else .next s
  | _, _, _ => .next s

end Sys2Proof.Machine
end

