-- ==== Sys2Proof/Machine/Filing.lean ====
section
/-! DEFINITION. The notice handler's filing (chapter 7): the peer table, expiry of parts, and COMMAND notices. -/

namespace Sys2Proof.Machine

/-! ### The frame in hand (R144) -/

/-- The handler has filed the frame in hand and takes the next one, at once if the queue holds one (R144). -/
def State.takeNext (s : State) : State :=
  { s with
    handler := { s.handler with inHand := s.line.queue.head? }
    line := { s.line with queue := s.line.queue.tail } }

/-! ### The peer table (R145 to R149) -/

/-- Place an entry, in rising order of origin, in place of one of the same origin. -/
def peerPut (e : PeerEntry) : List PeerEntry → List PeerEntry
  | [] => [e]
  | p :: l => if e.origin < p.origin then e :: p :: l else if e.origin = p.origin then e :: l else p :: peerPut e l

def peerRemove (origin : Nat) (l : List PeerEntry) : List PeerEntry := l.filter (fun p => p.origin ≠ origin)

def peerFind (origin : Nat) (l : List PeerEntry) : Option PeerEntry := l.find? (fun p => p.origin = origin)

/-- A new entry (R146). -/
def PeerEntry.fresh (origin receipt : Nat) : PeerEntry :=
  { origin := origin, lastHeard := receipt, circuit := none, claim := none, waiting := none, wetness := none,
    wind := none }

/-- The entry has a live part for eviction (R148); `own` is the own circuit, none while the configuration is INVALID. -/
def PeerEntry.hasLive (p : PeerEntry) (own : Option Nat) : Bool :=
  p.wetness.isSome || p.wind.isSome || ((p.claim.isSome || p.waiting.isSome) && own.isSome && p.circuit = own)

/-- The earlier to evict of two (R148): the earlier last heard, then the lower origin. -/
def evictFirst (p q : PeerEntry) : PeerEntry :=
  if q.lastHeard < p.lastHeard || (q.lastHeard = p.lastHeard && q.origin < p.origin) then q else p

/-- The entry R148 evicts. -/
def evictee (own : Option Nat) (l : List PeerEntry) : Option PeerEntry :=
  match l.filter (fun p => !p.hasLive own) with
  | [] => none
  | p :: ps => some (ps.foldl evictFirst p)

/-- The table with room for a new entry (R146, R148); none where no entry qualifies for eviction. -/
def makeRoom (own : Option Nat) (l : List PeerEntry) : Option (List PeerEntry) :=
  if l.length < Config.tableCapacity then some l else (evictee own l).map (fun p => peerRemove p.origin l)

def State.setPeers (s : State) (l : List PeerEntry) : State := { s with handler := { s.handler with peers := l } }

/-- An overflow of the table (R149). -/
def State.overflowed (s : State) : State :=
  let s1 : State := { s with handler := { s.handler with lastOverflow := some s.now, overflow := some 600 } }
  (s1.setCondition .peerOverflow true).raise .peerOverflow

/-- File a notice into the entry of its origin (R146, R148, R149): `gives` says whether it would give a new entry a part,
`update` is what it changes, `told` what the filing starts. -/
def State.fileInto (s : State) (f : RxFrame) (gives : Bool) (update : PeerEntry → PeerEntry) (told : State → State) :
    State :=
  match peerFind f.origin s.handler.peers with
  | some p => told (s.setPeers (peerPut { update p with origin := f.origin, lastHeard := f.receipt } s.handler.peers))
  | none =>
    if gives then
      match makeRoom s.circuit? s.handler.peers with
      | none => s.overflowed
      | some l =>
        told (s.setPeers (peerPut { update (.fresh f.origin f.receipt) with origin := f.origin, lastHeard := f.receipt } l))
    else s

/-! ### Filing by kind (R147, R150 to R152) -/

/-- A WETNESS that passes R147 (R81, R150). -/
def State.fileWetness (s : State) (f : RxFrame) (w : WetnessFields) : State :=
  if w.phase = 2 then
    let had := match peerFind f.origin s.handler.peers with
      | none => false
      | some p => p.wetness.isSome
    s.fileInto f false (fun p => { p with wetness := none }) (fun s => if had then s.askReview else s)
  else
    let part : WetnessPart := { onset := f.receipt - w.age, left := 2000 - f.age }
    s.fileInto f true (fun p => { p with wetness := some part }) State.askReview

/-- A GUST that passes R147 (R73, R151). -/
def State.fileGust (s : State) (f : RxFrame) (g : GustFields) : State :=
  let part : WindPart := { assessment := g.assessment, sector := g.sector, left := 1800 - f.age }
  s.fileInto f true (fun p => { p with wind := some part }) (fun s => s.judgeExclusion.askReview)

/-- The claim part a DRAW gives (R101, R152): none for a draw of 0 and for a hold that does not reach beyond the filing. -/
def DrawFields.claim (d : DrawFields) (age : Nat) : Option ClaimPart :=
  if 0 < d.draw ∧ age < d.hold then some { draw := d.draw, least := d.runLeast, left := d.hold - age } else none

/-- The waiting part a DRAW gives (R102, R152). -/
def DrawFields.waiting (d : DrawFields) (age : Nat) : Option WaitingPart :=
  d.waitMost.map (fun b => { band := b, left := 250 - age })

/-- A DRAW that passes R147 (R152). -/
def State.fileDraw (s : State) (f : RxFrame) (d : DrawFields) : State :=
  s.fileInto f ((d.claim f.age).isSome || (d.waiting f.age).isSome)
    (fun p => { p with circuit := some d.circuit, claim := d.claim f.age, waiting := d.waiting f.age }) State.askEval

/-- The frame in hand, where it is of a kind. -/
def State.inHandOf (s : State) (kind : Nat) : Option RxFrame :=
  match s.handler.inHand with
  | none => none
  | some f => if f.kind = kind then some f else none

/-- FILE_WETNESS (R146 to R150). -/
def execFileWetness (s : State) : Result :=
  match s.inHandOf 1 with
  | none => .next s
  | some f =>
    match wetnessFields f.payload with
    | none => .next s.takeNext
    | some w => .next ((s.fileWetness f w).finish).takeNext

/-- FILE_GUST (R146 to R149, R151). -/
def execFileGust (s : State) : Result :=
  match s.inHandOf 2 with
  | none => .next s
  | some f =>
    match gustFields f.payload with
    | none => .next s.takeNext
    | some g => .next ((s.fileGust f g).finish).takeNext

/-- FILE_DRAW (R146 to R149, R152). -/
def execFileDraw (s : State) : Result :=
  match s.inHandOf 3 with
  | none => .next s
  | some f =>
    match drawFields f.payload with
    | none => .next s.takeNext
    | some d => .next ((s.fileDraw f d).finish).takeNext

/-- NOTICE_NOT_FILED (R146, R161): STATE, ALARM, and a COMMAND that is not obeyed, leave no trace. -/
def execNoticeNotFiled (s : State) : Result :=
  match s.handler.inHand with
  | none => .next s
  | some f =>
    if f.kind = 4 ∨ f.kind = 5 ∨ (f.kind = 6 ∧ s.obeyed f = none) then .next s.takeNext else .next s

/-! ### Expiries (R149, R153, R156) -/

/-- OVERFLOW_CONDITION_END (R149, R184). -/
def execOverflowConditionEnd (s : State) : Result :=
  if due s.handler.overflow then
    .next (({ s with handler := { s.handler with overflow := none } } : State).endCondition .peerOverflow)
  else .next s

/-- The time left of a part of an entry. -/
def PeerEntry.partLeft (p : PeerEntry) : PartKind → Option Nat
  | .claim => p.claim.map (·.left)
  | .waiting => p.waiting.map (·.left)
  | .wetness => p.wetness.map (·.left)
  | .wind => p.wind.map (·.left)

def PeerEntry.dropPart (p : PeerEntry) : PartKind → PeerEntry
  | .claim => { p with claim := none }
  | .waiting => { p with waiting := none }
  | .wetness => { p with wetness := none }
  | .wind => { p with wind := none }

/-- What the removal of a part starts (R153). -/
def State.partRemoved (s : State) : PartKind → State
  | .claim | .waiting => s.askEval
  | .wetness | .wind => s.askReview

/-- PART_EXPIRY (R153): the entry itself stays. -/
def execPartExpiry (origin : Nat) (part : PartKind) (s : State) : Result :=
  match peerFind origin s.handler.peers with
  | none => .next s
  | some p =>
    if p.partLeft part = some 0 then
      .next (((s.setPeers (peerPut (p.dropPart part) s.handler.peers)).partRemoved part)).finish
    else .next s

/-- STATE_PERIOD_EXPIRY (R156). -/
def execStatePeriodExpiry (n : Ch) (s : State) : Result :=
  if due s.handler.stateTimers[n] then .next (s.submitState n) else .next s

/-! ### COMMAND notices (R161 to R163) -/

/-- The frame in hand is a COMMAND with this action, and is obeyed (R161). -/
def State.orderInHand (s : State) (a : Action) : Option Order :=
  match s.handler.inHand with
  | none => none
  | some f =>
    match s.obeyed f with
    | none => none
    | some o => if o.action = a then some o else none

/-- A channel action: one request on each channel of the mask, in order (R162). -/
def State.channelOrder (s : State) (o : Order) (r : Request) : State :=
  (maskChannels o.mask).foldl (fun s n => s.request n r .console) s

/-- The end of a filing that obeyed a COMMAND. -/
def State.obeyedEnd (s : State) : Result := .next (s.finish).takeNext

/-- COMMAND_OPEN (R47, R162). -/
def execCommandOpen (s : State) : Result :=
  match s.orderInHand .opn with
  | none => .next s
  | some o => (s.channelOrder o (.opn o.argument)).obeyedEnd

/-- COMMAND_CLOSE (R48, R162). -/
def execCommandClose (s : State) : Result :=
  match s.orderInHand .close with
  | none => .next s
  | some o => (s.channelOrder o .close).obeyedEnd

/-- COMMAND_STOP (R49, R162). -/
def execCommandStop (s : State) : Result :=
  match s.orderInHand .stop with
  | none => .next s
  | some o => (s.channelOrder o .stop).obeyedEnd

/-- COMMAND_HOLD (R50, R162). -/
def execCommandHold (s : State) : Result :=
  match s.orderInHand .hold with
  | none => .next s
  | some o => (s.channelOrder o .hold).obeyedEnd

/-- COMMAND_RELEASE (R50, R162). -/
def execCommandRelease (s : State) : Result :=
  match s.orderInHand .release with
  | none => .next s
  | some o => (s.channelOrder o .release).obeyedEnd

/-- A FAULTED channel is returned at an acknowledge (R38, R184). -/
def State.returnFaulted (n : Ch) (s : State) : State :=
  match s.stateOf n with
  | .faulted o e =>
    let s1 := if e then s.setReferenced n false else s
    let s2 := s1.setState n (if s.maintHolds n && !s.isLearnChannel n then .held else .still)
    let s3 := if o then s2.endCondition (.obstruction n) else s2
    if e then s3.endCondition (.encoder n) else s3
  | _ => s

/-- An acknowledge (R188): FAULTED channels are returned, then every raised flag whose condition has ended is cleared; R132
asks whether one has left LINE FAULT raised. -/
def State.acknowledge (s : State) : State := ((s.eachChannel State.returnFaulted).clearEnded).noteFaultAck

/-- COMMAND_ACKNOWLEDGE (R163, R188). -/
def execCommandAcknowledge (s : State) : Result :=
  match s.orderInHand .acknowledge with
  | none => .next s
  | some _ => s.acknowledge.obeyedEnd

/-- COMMAND_REPORT (R156, R163): a STATE for each channel of the mask. -/
def execCommandReport (s : State) : Result :=
  match s.orderInHand .report with
  | none => .next s
  | some o => ((maskChannels o.mask).foldl State.submitState s).obeyedEnd

/-- COMMAND_RESTART (R163, R213): the restart becomes PENDING; one already PENDING is left as it is. -/
def execCommandRestart (s : State) : Result :=
  match s.orderInHand .restart with
  | none => .next s
  | some _ => ({ s with port := { s.port with restart := true } } : State).obeyedEnd

end Sys2Proof.Machine
end

