-- ==== Sys2Proof/Machine/PanelInterface.lean ====
section
/-! DEFINITION. The panel interface (chapter 8) and the learn session's presses, holds, confirm and store (chapter 10). -/

namespace Sys2Proof.Machine

/-! ### Levels (R168) -/

/-- The level of an input. -/
def levelOf (l : PanelLevels) : PanelInput → Bool
  | .opn => l.opn
  | .cls => l.cls
  | .maint => l.maint
  | .learn => l.learn

/-- The levels with one input's replaced. -/
def putLevel (l : PanelLevels) (i : PanelInput) (b : Bool) : PanelLevels :=
  match i with
  | .opn => { l with opn := b }
  | .cls => { l with cls := b }
  | .maint => { l with maint := b }
  | .learn => { l with learn := b }

/-- The polarities of the four inputs; `true` is ACTIVE-HIGH (R168). -/
def RunCfg.polarity (c : RunCfg) : PanelLevels :=
  { opn := c.polOpn, cls := c.polCls, maint := c.polMaint, learn := c.polLearn }

/-- An input is active while its accepted level agrees with its polarity (R168). -/
def RunCfg.activeOf (c : RunCfg) (l : PanelLevels) : PanelLevels :=
  { opn := l.opn = c.polOpn, cls := l.cls = c.polCls, maint := l.maint = c.polMaint, learn := l.learn = c.polLearn }

def State.setPanel (s : State) (p : Panel) : State := { s with panel := p }

/-! ### Learning (R194 to R196, R201) -/

/-- The learn bar for a channel (R194). -/
def State.learnBar (s : State) (n : Ch) : Bool :=
  s.eval.threat || s.arb.supply ≠ .good || s.closeLevelActive || s.isolationClose ||
    match s.chan? n with
    | none => false
    | some k => decide (k.wc ≤ s.eval.v)

/-- A session in SELECTING (R193, R194). -/
def Session.fresh (n : Ch) : Session :=
  { channel := n, phase := .selecting, measureStart := none, openingStart := none, openingTime := none,
    measuredSpan := none, normalSpeed := none, timedStart := none, stormSpeed := none, confirm := none }

/-- The next fitted channel after one, wrapping (R194); itself where no other is fitted. -/
def State.fittedAfter (s : State) (n : Ch) : Ch := (([n + 1, n + 2, n + 3] : List Ch).find? s.fitted).getD n

/-- The pages a store for a channel writes, the check's page last (R203, 11.3.1). -/
def recordBase (n : Ch) : Nat := 0x040 + 64 * n.val

def storePages (n : Ch) : Store :=
  { page := recordBase n, rest := [recordBase n + 16, recordBase n + 32, recordBase n + 48, 0x7F0], polls := 0,
    polling := false }

/-- The check of an image (R209): over bytes 0x000 to 0x7FD. -/
def Memory.check (m : Memory) : Nat := (crcBits (byteBits (m.bytes 0x7FE 0))).toNat

/-- The learned values set in the image, and its check recomputed (R203, 11.3.1). -/
def Memory.applyLearned (m : Memory) (n : Ch) (span normal storm : Nat) : Memory :=
  let m1 := ((m.write16 (recordBase n + 10) span).write16 (recordBase n + 28) normal).write16 (recordBase n + 34) storm
  m1.write16 0x7FE m1.check

/-- The learned values set in a channel's record (R201). -/
def ChanCfg.applyLearned (k : ChanCfg) (span normal storm : Nat) : ChanCfg :=
  { k with span := span, normal := { k.normal with speed := normal }, storm := { k.storm with speed := storm } }

/-- The values a session has measured: span, NORMAL speed, STORM speed. -/
def Session.measured (p : Session) : Nat × Nat × Nat :=
  (p.measuredSpan.getD 0, p.normalSpeed.getD 0, p.stormSpeed.getD 0)

/-- The running configuration with a session's values in its channel's record (R201). -/
def RunCfg.applyLearned (c : RunCfg) (p : Session) : RunCfg :=
  match c.chans[p.channel] with
  | .fitted k =>
    let k' := k.applyLearned p.measured.1 p.measured.2.1 p.measured.2.2
    { c with chans := c.chans.set p.channel (.fitted k') }
  | _ => c

/-- A confirm (R201, R203): the values are applied, a review starts, the store starts. -/
def State.confirmLearn (s : State) (p : Session) : State :=
  let port : Port := { s.port with
    config := s.port.config.map (fun c => c.applyLearned p)
    image := s.port.image.map (fun m => m.applyLearned p.channel p.measured.1 p.measured.2.1 p.measured.2.2)
    session := some { p with phase := .storing, confirm := none }
    store := some (storePages p.channel) }
  (({ s with port := port } : State).judgeLamp).askReview

/-- A session is created, or moves to another channel (R52, R194). -/
def State.selectLearn (s : State) (old : Option Ch) (n : Ch) : State :=
  let s1 := (s.setSession (some (Session.fresh n))).judgeLamp
  let s2 := match old with
    | none => s1
    | some m => s1.stopLearn m
  s2.becomeLearn n

/-- A LEARN press (R194, R196). -/
def State.learnPress (s : State) : State :=
  match s.port.session with
  | none =>
    match channels.find? s.fitted with
    | none => s.askRefusal
    | some n => if s.learnBar n then s.askRefusal else s.selectLearn none n
  | some p =>
    match p.phase with
    | .selecting =>
      let n := s.fittedAfter p.channel
      if n = p.channel then s else if s.learnBar n then s.askRefusal else s.selectLearn (some p.channel) n
    | .awaitingConfirm => s.confirmLearn p
    | .storing => s.askRefusal
    | .closing | .opening | .timedClosing => s

/-- A LEARN hold (R195, R196); without a session it does nothing. -/
def State.learnHold (s : State) : State :=
  match s.port.session with
  | none => s
  | some p =>
    match p.phase with
    | .selecting =>
      if (s.stateOf p.channel).isFaulted || s.learnBar p.channel || (s.travel? p.channel).isSome then s.askRefusal
      else (s.setSession (some { p with phase := .closing })).createTravel p.channel (learnTravel .learnClose)
    | .storing => s.askRefusal
    | _ => s

/-! ### Presses, chord and acknowledge (R169 to R173, R176) -/

/-- The target channels of a press (R170, R171). -/
def State.pressTargets (s : State) : List Ch := channels.filter (fun n => s.fitted n && !s.maintHolds n)

/-- A press (R170, R171, R176): judged on each target; refused on every one, it shows the refusal pattern. That a press with no
fitted channel shows it too while MAINT is inactive is the model's choice (log entry 49). -/
def State.press (s : State) (r : Request) : State :=
  let s1 := s.pressTargets.foldl (fun s n => s.request n r .panel) s
  if s.pressTargets.all (fun n => s1.recs[n].refusal ≠ .accepted) then s1.askRefusal else s1

/-- Both inputs active: the chord is set, the armed marks cleared, the hold timer started unless an acknowledge has been
given (R169, R173). -/
def Panel.judgeChord (p : Panel) : Panel :=
  if p.active.opn && p.active.cls then
    { p with chord := true, armedOpn := false, armedCls := false,
             ackTimer := if p.ackGiven then p.ackTimer else some 30 }
  else p

/-- A release of OPEN or CLOSE (R169, R173): the hold timer stops; with both inactive the chord ends. -/
def Panel.releaseChord (p : Panel) : Panel :=
  if !p.active.opn && !p.active.cls then { p with ackTimer := none, chord := false, ackGiven := false }
  else { p with ackTimer := none }

/-- An activation or release of OPEN (R169, R170). -/
def State.openInput (s : State) (act : Bool) : State :=
  let p := s.panel
  if act then s.setPanel ({ p with armedOpn := p.armedOpn || !p.chord } : Panel).judgeChord
  else
    let s1 := s.setPanel ({ p with armedOpn := false } : Panel).releaseChord
    if p.armedOpn then s1.press (.opn 100) else s1

/-- An activation or release of CLOSE in PRESS mode (R169, R171). -/
def State.closePressInput (s : State) (act : Bool) : State :=
  let p := s.panel
  if act then s.setPanel ({ p with armedCls := p.armedCls || !p.chord } : Panel).judgeChord
  else
    let s1 := s.setPanel ({ p with armedCls := false } : Panel).releaseChord
    if p.armedCls then s1.press .close else s1

/-- An activation or release of CLOSE in LEVEL mode (R45, R172, R202): an activation ends every OPEN travel. -/
def State.closeLevelInput (s : State) (act : Bool) : State :=
  if act then (((s.setPanel s.panel.judgeChord).eachChannel (fun n s => s.endOpen n)).abortLearn).askReview
  else (s.setPanel s.panel.releaseChord).askReview

/-- An activation or release of MAINT (R51, R174, R175, R202). -/
def State.maintInput (s : State) (act : Bool) : State :=
  if act then s.eachChannel (fun n s => s.holdForMaint n)
  else
    let s1 := s.setPanel { s.panel with learnArmed := false, learnTimer := none }
    (s1.eachChannel (fun n s => s.releaseFromMaint n)).abortLearn

/-- An activation or release of LEARN (R175). -/
def State.learnInput (s : State) (act : Bool) : State :=
  if act then
    if s.maintActive then s.setPanel { s.panel with learnArmed := true, learnTimer := some 30 } else s
  else if s.panel.learnArmed then (s.setPanel { s.panel with learnArmed := false, learnTimer := none }).learnPress
  else s

/-- An input's accepted level has changed while judging is on: its activation or its release (R168). -/
def State.inputChange (s : State) (c : RunCfg) (i : PanelInput) (act : Bool) : State :=
  let s1 := s.setPanel { s.panel with active := putLevel s.panel.active i act }
  match i with
  | .opn => s1.openInput act
  | .cls => if c.closeLevel then s1.closeLevelInput act else s1.closePressInput act
  | .maint => s1.maintInput act
  | .learn => s1.learnInput act

/-- PANEL_INPUT_CHANGE (R168): a level that has differed for 50 ms is accepted; judged only while judging is on. -/
def execPanelInputChange (input : PanelInput) (level : Bool) (heldMs : Nat) (s : State) : Result :=
  if levelOf s.panel.levels input ≠ level ∧ 50 ≤ heldMs then
    let s1 := s.setPanel { s.panel with levels := putLevel s.panel.levels input level }
    match s.port.config with
    | none => .next s1
    | some c =>
      if s.panel.judging then .next (s1.inputChange c input (level = levelOf c.polarity input)).finish else .next s1
  else .next s

/-- LEARN_HOLD_EXPIRY (R175, R195). -/
def execLearnHoldExpiry (s : State) : Result :=
  if due s.panel.learnTimer && s.panel.learnArmed then
    .next ((s.setPanel { s.panel with learnArmed := false, learnTimer := none }).learnHold).finish
  else .next s

/-- ACK_HOLD_EXPIRY (R173, R188). -/
def execAckHoldExpiry (s : State) : Result :=
  if due s.panel.ackTimer then
    .next ((s.setPanel { s.panel with ackTimer := none, ackGiven := true }).acknowledge).finish
  else .next s

/-- REFUSAL_PATTERN_END (R179): after 1500 ms the standing pattern shows from its beginning. -/
def execRefusalPatternEnd (s : State) : Result :=
  match s.panel.refusal with
  | none => .next s
  | some r => if 15 ≤ r then .next (s.setPanel { s.panel with refusal := none, patternAge := 0 }) else .next s

/-- CONFIRM_DEADLINE (R201, R202). -/
def execConfirmDeadline (s : State) : Result :=
  match s.port.session with
  | none => .next s
  | some p => if p.phase = .awaitingConfirm ∧ due p.confirm then .next s.abortLearn.finish else .next s

/-! ### The store (R203 to R205) -/

def State.setStore (s : State) (x : Option Store) : State := { s with port := { s.port with store := x } }

/-- The port goes on with the next page, or the store and the session end (R204, R205). -/
def State.nextPage (s : State) (x : Store) : State :=
  match x.rest with
  | [] => s.endSession
  | p :: l => s.setStore (some { x with page := p, rest := l, polling := false })

/-- The current page has failed (R204). -/
def State.pageFailed (s : State) (x : Store) : State := (s.raise .store).nextPage x

/-- PAGE_WRITE_END (R203, R204): polling begins, or a page that was not acknowledged fails at once. -/
def execPageWriteEnd (acked : Bool) (s : State) : Result :=
  match s.port.store with
  | none => .next s
  | some x =>
    if x.polling then .next s
    else if acked then .next (s.setStore (some { x with polls := 0, polling := true }))
    else .next (s.pageFailed { x with polls := 0 }).finish

/-- POLL_EXPIRY (R204): at most five polls. -/
def execPollExpiry (acked : Bool) (s : State) : Result :=
  match s.port.store with
  | none => .next s
  | some x =>
    if x.polling then
      let y : Store := { x with polls := x.polls + 1 }
      if acked then .next (s.nextPage y).finish
      else if y.polls < 5 then .next (s.setStore (some y))
      else .next (s.pageFailed y).finish
    else .next s

/-- The bytes of the page a store is writing (R203). -/
def State.storeBytes (s : State) : List Byte :=
  match s.port.store, s.port.image with
  | some x, some m => m.bytes 16 x.page
  | _, _ => []

/-! ### The lamp (R178, R179) -/

/-- A pattern's lamp a number of ms after its start (R178). -/
def Pattern.lit (p : Pattern) (ms : Nat) : Bool :=
  match p with
  | .off => false
  | .steady => true
  | .slow => decide (ms % 1000 < 500)
  | .fast => decide (ms % 200 < 100)
  | .learn n =>
    let k := n.val + 1
    let t := ms % (k * 500 + 1500)
    decide (t < k * 500 ∧ t % 500 < 200)

/-- The refusal pattern's lamp (R179). -/
def refusalLit (ms : Nat) : Bool := decide (ms < 900 ∧ ms % 300 < 100)

/-- PNIND, `subMs` after the last ds step (R177 to R179). -/
def Panel.lamp (p : Panel) (subMs : Nat) : Bool :=
  match p.refusal with
  | some r => refusalLit (100 * r + subMs)
  | none => p.standing.lit (100 * p.patternAge + subMs)

end Sys2Proof.Machine
end

