-- ==== Sys2Proof/Machine/ImageCheck.lean ====
section
/-! DEFINITION. Judging the image of the configuration memory (R209, R210, 11.3.1) and building the running configuration. -/

namespace Sys2Proof.Machine

/-! ### Fields of the image -/

def Memory.u8 (m : Memory) (a : Nat) : Nat := (m.read a).toNat

/-- A two-byte field, high byte first (11.3.1). -/
def Memory.u16 (m : Memory) (a : Nat) : Nat := fromBe16 (m.read a) (m.read (a + 1))

/-- A number lies in a range, both ends included. -/
def inRange (lo hi x : Nat) : Bool := decide (lo ≤ x ∧ x ≤ hi)

/-- A lead: 0..2000, or NONE (0xFFFF). -/
def leadField (x : Nat) : Option Nat := if x = 0xFFFF then none else some x

def leadOk (x : Nat) : Bool := x = 0xFFFF || decide (x ≤ 2000)

def slotBase (k : Nat) : Nat := 0x140 + 18 * k

/-- The addresses of the 16 map slots. -/
def Memory.slotAddresses (m : Memory) : List Nat := (List.range 16).map (fun k => m.u8 (slotBase k))

/-- The leads of a map slot. -/
def Memory.slotLeads (m : Memory) (k : Nat) : List Nat := (List.range 8).map (fun j => m.u16 (slotBase k + 2 + 2 * j))

/-- Every used slot's address is 1..126, not the own one, and not that of an earlier slot (R209). -/
def addressesOk (own : Nat) : List Nat → List Nat → Bool
  | _, [] => true
  | seen, a :: l =>
    (a = 0 || (decide (a ≤ 126) && a ≠ own && !seen.contains a)) && addressesOk own (a :: seen) l

/-! ### Station fields (R209, stage 3) -/

/-- The fields judged for every station. -/
def Memory.plainFieldsOk (m : Memory) : Bool :=
  inRange 0 15 (m.u8 0x001) && inRange 10 2000 (m.u16 0x002) && inRange 0 (m.u16 0x002 / 2) (m.u16 0x004) &&
    inRange 0 1800 (m.u16 0x006) && inRange 0 3600 (m.u16 0x008) && inRange 60 600 (m.u16 0x00A) &&
    !(m.u8 0x00C).testBit 2 && !(m.u8 0x00C).testBit 3 && inRange 0 15 (m.u8 0x00D) && inRange 0 2047 (m.u16 0x00E) &&
    inRange 0 126 (m.u8 0x010) && inRange 0 126 (m.u8 0x011)

/-- The rain fields, judged only where the rain sensor is fitted. -/
def Memory.rainFieldsOk (m : Memory) : Bool :=
  m.u8 0x012 = 0 ||
    (m.u8 0x012 = 1 && inRange 1 30 (m.u8 0x013) && inRange 8 512 (m.u16 0x014) &&
      inRange 4 (m.u16 0x014 - 1) (m.u16 0x016) && inRange 60 1800 (m.u16 0x018) && inRange 64 1000 (m.u16 0x01A))

/-- K and the vane offset, judged only where their sensors are fitted. -/
def Memory.windFieldsOk (m : Memory) : Bool :=
  (m.u8 0x01C = 0 || (m.u8 0x01C = 1 && inRange 1 255 (m.u8 0x01D))) &&
    (m.u8 0x01E = 0 || (m.u8 0x01E = 1 && inRange 0 7 (m.u8 0x01F)))

/-- The map (R209; log entry 12). -/
def Memory.mapOk (m : Memory) (own : Nat) : Bool :=
  addressesOk own [] m.slotAddresses && (List.range 16).all (fun k => (m.slotLeads k).all leadOk)

/-! ### Channel records (R210) -/

def debounceOf (x : Nat) : Nat :=
  match x with
  | 0 => 0
  | 1 => 5
  | 2 => 20
  | _ => 80

def modeOf (x : Nat) : DecodeMode :=
  match x with
  | 0 => .x1
  | 1 => .x2
  | 2 => .x4
  | _ => .single

def indexModeOf (x : Nat) : IndexMode :=
  match x with
  | 0 => .off
  | 1 => .reload
  | _ => .check

/-- A profile's four fields from the image. -/
def Memory.profileAt (m : Memory) (duty rest : Nat) : ProfileCfg :=
  { duty := m.u8 duty, draw := m.u16 rest, limit := m.u16 (rest + 2), speed := m.u16 (rest + 4) }

/-- A channel record as the image holds it; `a` is the record's first address. The index phases 01, 11, 10, 00 stand as
0 to 3. -/
def Memory.chanAt (m : Memory) (a : Nat) : ChanCfg :=
  { mode := modeOf (m.u8 (a + 1)), swap := m.u8 (a + 2) = 1, debounceUs := debounceOf (m.u8 (a + 3))
    indexMode := indexModeOf (m.u8 (a + 4))
    phaseA := m.u8 (a + 5) = 1 || m.u8 (a + 5) = 2, phaseB := decide (m.u8 (a + 5) ≤ 1)
    indexTol := m.u8 (a + 6), closeTol := m.u8 (a + 7), c := m.u16 (a + 8), span := m.u16 (a + 10)
    reversal := m.u16 (a + 12), retries := m.u8 (a + 14), guardS := m.u16 (a + 16), wr := m.u16 (a + 18)
    wc := m.u16 (a + 20), normal := m.profileAt (a + 22) (a + 24), storm := m.profileAt (a + 23) (a + 30) }

/-- A profile's ranges and cross-checks. -/
def ProfileCfg.ok (p : ProfileCfg) (budget : Nat) : Bool :=
  inRange 1 100 p.duty && inRange 1 2000 p.draw && inRange 1 1023 p.limit && inRange 1 5000 p.speed &&
    decide (p.draw ≤ p.limit) && decide (p.draw ≤ budget)

/-- The record's fields and cross-checks (R210). -/
def Memory.recordOk (m : Memory) (a budget : Nat) : Bool :=
  let k := m.chanAt a
  inRange 0 3 (m.u8 (a + 1)) && inRange 0 1 (m.u8 (a + 2)) && inRange 0 3 (m.u8 (a + 3)) &&
    inRange 0 2 (m.u8 (a + 4)) && inRange 0 3 (m.u8 (a + 5)) && inRange 1 255 k.indexTol &&
    inRange 0 65000 k.c && inRange 200 60000 k.span && decide (k.c + k.span ≤ 65000) &&
    inRange 0 2000 k.reversal && inRange 0 3 k.retries && inRange 0 600 k.guardS && inRange 10 600 k.wr &&
    inRange 10 600 k.wc && decide (k.wr < k.wc) && k.normal.ok budget && k.storm.ok budget

/-- What a read makes of a channel (R210). -/
def Memory.judgeChannel (m : Memory) (budget : Nat) (n : Ch) : ChanFit :=
  let a := recordBase n
  if m.u8 a = 0 then .unfitted
  else if m.u8 a = 1 && m.recordOk a budget then .fitted (m.chanAt a)
  else .inError

/-! ### The running configuration -/

/-- The map of the used slots (R77). -/
def Memory.mapOf (m : Memory) : List MapEntry :=
  (List.range 16).filterMap (fun k =>
    if m.u8 (slotBase k) = 0 then none
    else some { peer := m.u8 (slotBase k), leads := Vector.ofFn (fun j : Fin 8 => leadField (m.u16 (slotBase k + 2 + 2 * j.val))) })

/-- The running configuration an image gives (R211). -/
def Memory.runCfg (m : Memory) : RunCfg :=
  let modes := m.u8 0x00C
  { circuit := m.u8 0x001, budget := m.u16 0x002, reserve := m.u16 0x004, unmappedLagS := m.u16 0x006
    reopenHoldS := m.u16 0x008, isolationS := m.u16 0x00A, policyClose := modes.testBit 0, closeLevel := modes.testBit 1
    polOpn := modes.testBit 4, polCls := modes.testBit 5, polMaint := modes.testBit 6, polLearn := modes.testBit 7
    maintSet := Vector.ofFn (fun j : Fin 4 => (m.u8 0x00D).testBit j.val)
    mask := Vector.ofFn (fun j : Fin 11 => (m.u16 0x00E).testBit j.val)
    console1 := m.u8 0x010, console2 := m.u8 0x011, rainFitted := m.u8 0x012 = 1, onsetConfirmS := m.u8 0x013
    onsetDelta := m.u16 0x014, ceaseDelta := m.u16 0x016, dryHoldS := m.u16 0x018, wetFloor := m.u16 0x01A
    anemFitted := m.u8 0x01C = 1, k := m.u8 0x01D, vaneFitted := m.u8 0x01E = 1, vaneOffset := m.u8 0x01F
    map := m.mapOf, chans := Vector.ofFn (fun n : Fin 4 => m.judgeChannel (m.u16 0x002) n) }

/-- The three stages of R209; none is INVALID. -/
def judgeImage (own : Nat) (m : Memory) : Option RunCfg :=
  if m.u8 0 = 1 && m.u16 0x7FE = m.check && m.plainFieldsOk && m.rainFieldsOk && m.windFieldsOk && m.mapOk own then
    some m.runCfg
  else none

end Sys2Proof.Machine
end

