-- ==== Sys2Proof/Machine/StartUp.lean ====
section
/-! DEFINITION. Full reset, the configuration read, the warm restart and the reread (chapter 11). -/

namespace Sys2Proof.Machine

/-! ### Full reset (R207) -/

/-- FULL_RESET (R207, R21, R74, R98, R119, R141, R164, R167, R183): every block takes its reset values, the first encoder and
panel levels are sampled, and the straps give the address or the station CONFIG condition. The level of ANEM is held unaccepted
until the first sample of R67 is taken (log entry 6). -/
def execFullReset (straps : BitVec 7) (enc : Vector EncLevels 4) (panel : PanelLevels) (anem : Bool) (s : State) : Result :=
  let base : State := { State.reset with
    pending := s.pending, units := enc.map ChanUnit.reset, panel := Panel.reset panel
    wind := { WindFront.reset with level := anem } }
  if 1 ≤ straps.toNat ∧ straps.toNat ≤ 126 then
    .next { base with port := { base.port with ownAddress := some straps.toNat, read := .reading 1 false } }
  else .next (base.beginCondition .configStation)

/-! ### Steps that both ends of a read share -/

/-- A channel that becomes fitted takes the levels sampled first (R3); line B stays 0 in SINGLE mode. Its held pair starts
from them too: R21 gives the first accepted pair at full reset alone, and at a reread this is the model's choice (log entry
35). -/
def ChanUnit.adopt (u : ChanUnit) (k : ChanCfg) (l : EncLevels) : ChanUnit :=
  let b := if k.mode = .single then false else l.b
  { u with accA := l.a, accB := b, accI := l.i, heldA := l.a, heldB := b }

/-- A channel that stays fitted keeps its levels (R21); in SINGLE mode line B is 0 (R3). -/
def ChanUnit.readopt (u : ChanUnit) (k : ChanCfg) : ChanUnit := if k.mode = .single then { u with accB := false } else u

/-- The units adopt a running configuration's settings; `was` says which channels were fitted before. -/
def State.adoptUnits (s : State) (was : Ch → Bool) (pins : PinSample) : State :=
  s.eachChannel (fun n s =>
    match s.chan? n with
    | none => s
    | some k => s.setUnit n (if was n then s.units[n].readopt k else s.units[n].adopt k pins.enc[n]))

/-- A rain sensor that becomes fitted starts in CAPTURING with its first reading (R56, R74). -/
def State.startRain (s : State) (c : RunCfg) (pins : PinSample) : State :=
  ({ s with rain := { RainFront.reset with state := some .capturing } } : State).takeRain c pins.rain.val

/-- An anemometer that becomes fitted begins a window, a minute and the silence, and the level of its first sample is accepted
(R67, R73, R74, R75). After a reread the level, like the peak and the silence, is the model's choice (log entries 15 and 41). -/
def WindFront.start (w : WindFront) (level : Bool) : WindFront :=
  { w with level := level, count := 0, window := some 30, done := 0, peak := 0, silence := some 6000, silencePassed := false,
           excluded := false }

/-- The first sample of the vane is accepted at once (R71). -/
def State.startVane (s : State) (c : RunCfg) (pins : PinSample) : State :=
  { s with vane := { sector := c.sector pins.van2 pins.van1 pins.van0, candidate := none } }

/-- Panel judging becomes on (R180, R181): active inputs are taken as active without an activation, and a chord found
active gives no acknowledge. -/
def Panel.startJudging (p : Panel) (c : RunCfg) : Panel :=
  let a := c.activeOf p.levels
  { p with judging := true, active := a, chord := a.opn && a.cls, ackGiven := a.opn && a.cls }

/-- A STATE for every channel (R156). -/
def State.submitStates (s : State) : State := s.eachChannel (fun n s => s.submitState n)

/-- A GUST where the report is offered (R155). -/
def State.offerGust (s : State) : State := if s.reportOffered then s.submitGust else s

/-- The evaluator's timer starts, and the first review and evaluation are made (R98, R99, R104, R120). -/
def State.startDeciding (s : State) : State :=
  (({ s with eval := { s.eval with timer := some 10 } } : State).askReview).askEval

/-- The arbiter's listening interval starts (R109). -/
def State.startListening (s : State) : State := { s with arb := { s.arb with listening := some 110 } }

/-- The channel CONFIG condition a read finds (R210). -/
def RunCfg.inError (c : RunCfg) (n : Ch) : Bool := c.chans[n] = .inError

/-! ### The end of the start-up read (R212) -/

/-- The port at the end of a read (R208, R211). -/
def Port.readEnded (p : Port) (image : Option Memory) (config : Option RunCfg) : Port :=
  { p with read := .ended, image := image, config := config, restart := false }

/-- The handler begins taking frames when the start-up read ends (R164). -/
def State.beginTaking (s : State) : State := if s.handler.inHand.isNone then s.takeNext else s

/-- The start-up read ends with the configuration INVALID (R209). -/
def State.startUpInvalid (s : State) (image : Option Memory) : State :=
  let s1 : State := { s with port := s.port.readEnded image none }
  ((((s1.beginCondition .configStation).startListening).submitStates).judgeLamp.beginTaking)

/-- The weather front end begins (R74). -/
def State.startWeather (s : State) (c : RunCfg) (pins : PinSample) : State :=
  let s1 := if c.rainFitted then s.startRain c pins else s
  let s2 : State := if c.anemFitted then { s1 with wind := s1.wind.start pins.anem } else s1
  if c.vaneFitted && c.anemFitted then s2.startVane c pins else s2

/-- The arbiter and the isolation timer begin (R109, R119, R157). -/
def State.startTimers (s : State) (c : RunCfg) : State :=
  let s1 := s.startListening
  { s1 with
    arb := { s1.arb with lastDraw := DrawContent.final c.circuit }
    handler := { s1.handler with isolation := some (10 * c.isolationS) } }

/-- The start-up read ends with the configuration VALID (R212). -/
def State.startUpValid (s : State) (image : Memory) (c : RunCfg) (pins : PinSample) : State :=
  let s1 : State := { s with port := s.port.readEnded (some image) (some c) }
  let s2 := s1.eachChannel (fun n s => if c.inError n then s.beginCondition (.configChannel n) else s)
  let s3 := ((s2.adoptUnits (fun _ => false) pins).startWeather c pins).startTimers c
  let s4 := (s3.setPanel (s3.panel.startJudging c)).eachChannel (fun n s => s.holdForMaint n)
  (((s4.submitStates).offerGust).judgeLamp.beginTaking).startDeciding.finish

/-! ### The warm restart (R213) -/

/-- A channel at the restart (R21, R53). -/
def State.restartChannel (n : Ch) (s : State) : State :=
  let s1 := match s.stateOf n with
    | .faulted _ _ => s
    | _ => s.toStill n
  let s2 := s1.setRec n { s1.recs[n] with refusal := .accepted }
  (s2.setUnit n { s2.units[n] with illegal := 0, indexSeen := false, indexRecord := none }).checkView n

/-- The weather front end at the restart (R59, R75). -/
def RainFront.restart (f : RainFront) : RainFront :=
  { f with capture := .idle, onsetRun := none, ceaseRun := none, faultRun := none, inRangeRun := none }

/-- The draw arbiter at the restart (R120). -/
def Arbiter.restart (a : Arbiter) : Arbiter :=
  { a with deferred := none, drawTimer := none, holdOn := Vector.replicate 4 none }

/-- The line controller at the restart (R142). -/
def LineCtl.restart (l : LineCtl) : LineCtl :=
  { l with
    waiting := [], queue := [], failures := 0, faultAck := none
    mode := match l.mode with
      | .listenOnly _ => .normal
      | m => m }

/-- The notice handler at the restart (R165). -/
def Handler.restart (h : Handler) : Handler :=
  { h with inHand := none, peers := [], refresh := none, gustTimer := none, lastGust := none,
           stateTimers := Vector.replicate 4 none }

/-- The panel interface at the restart (R181). -/
def Panel.restart (p : Panel) : Panel :=
  { p with judging := false, active := PanelLevels.allLow, armedOpn := false, armedCls := false, chord := false,
           ackTimer := none, ackGiven := false, learnArmed := false, learnTimer := none }

/-- The restart takes effect (R213): the travels end, the pool is emptied, then the flags clear into it (R190; log entry 10). -/
def State.restartNow (s : State) : State :=
  let s1 : State := { s with
    port := { s.port with read := .reading 1 false, session := none, store := none }
    arb := { s.arb with travelAtRestart := s.anyTravel } }
  let s2 := s1.eachChannel State.restartChannel
  let s3 := s2.endCondition .lineFault
  let s4 : State := { s3 with
    rain := s3.rain.restart, arb := s3.arb.restart, line := s3.line.restart, handler := s3.handler.restart
    panel := s3.panel.restart, eval := { s3.eval with timer := none }, reviewDue := false, evalDue := false }
  s4.clearAll.judgeLamp

/-- WARM_RESTART (R142, R213): at the moment the transmitter is not sending. -/
def execWarmRestart (s : State) : Result :=
  if s.port.restart ∧ s.port.read = .ended ∧ s.line.tx = .notSending then .next s.restartNow else .next s

/-! ### The end of the reread (R214) -/

/-- The CONFIG conditions the reread finds are reported first (R184, R191, R214). -/
def State.rereadConditions (s : State) (config : Option RunCfg) : State :=
  let s1 := s.setCondition .configStation config.isNone
  s1.eachChannel (fun n s =>
    s.setCondition (.configChannel n)
      (match config with
        | none => false
        | some c => c.inError n))

/-- A channel that the reread leaves unfitted is STILL, its causes emptied (R54). -/
def State.rereadChannel (n : Ch) (s : State) : State :=
  if s.fitted n then s
  else ((s.toStill n).endCondition (.obstruction n)).endCondition (.encoder n)

/-- The rain sensor at the end of the reread (R75, R209; log entry 15). -/
def State.rereadRain (s : State) (old new : Option RunCfg) (pins : PinSample) : State :=
  match new with
  | none => ({ s with rain := RainFront.reset } : State).endCondition .rainSensor
  | some c =>
    if !c.rainFitted then ({ s with rain := RainFront.reset } : State).endCondition .rainSensor
    else if old.any (·.rainFitted) then s
    else s.startRain c pins

/-- The anemometer at the end of the reread (R75, R155, R209). One that becomes fitted accepts the level sampled then (the
model's choice, log entry 41). -/
def State.rereadAnem (s : State) (old new : Option RunCfg) (pins : PinSample) : State :=
  if new.any (·.anemFitted) then
    if old.any (·.anemFitted) then s else { s with wind := s.wind.start pins.anem }
  else
    (({ s with wind := { s.wind with window := none, silence := none, silencePassed := false, excluded := false } }
        : State).endCondition .windSensor).withdrawGust

/-- Vane and anemometer are both fitted (R71). -/
def RunCfg.vaneUsed (c : RunCfg) : Bool := c.vaneFitted && c.anemFitted

/-- The vane at the end of the reread (R71, R75). Where the reread brings it into use, the sector sampled then is accepted at
once, as after the start-up read (the model's choice, log entry 41). -/
def State.rereadVane (s : State) (old new : Option RunCfg) (pins : PinSample) : State :=
  match new with
  | none => { s with vane := { sector := 8, candidate := none } }
  | some c =>
    if !c.vaneUsed then { s with vane := { sector := 8, candidate := none } }
    else if old.any RunCfg.vaneUsed then s
    else s.startVane c pins

/-- Isolation at the end of the reread (R157, R165, R209): ended by an INVALID one, else kept; a timer that neither runs nor
has expired is set. -/
def State.rereadIsolation (s : State) (new : Option RunCfg) : State :=
  match new with
  | none =>
    ({ s with handler := { s.handler with isolated := false, isolation := none } } : State).endCondition .isolation
  | some c =>
    if s.handler.isolated || s.handler.isolation.isSome then s
    else { s with handler := { s.handler with isolation := some (10 * c.isolationS) } }

/-- The final DRAW where a travel existed at the restart (R120): an INVALID reread's carries the circuit from before. -/
def State.rereadDraw (s : State) (old new : Option RunCfg) : State :=
  if s.arb.travelAtRestart then
    let circuit := match new, old with
      | some c, _ => c.circuit
      | none, some c => c.circuit
      | none, none => s.arb.lastDraw.circuit
    let s1 := s.submitFinalDraw circuit
    { s1 with arb := { s1.arb with travelAtRestart := false } }
  else s

/-- The panel and MAINT at the end of the reread (R51, R53, R181, R182). -/
def State.rereadPanel (s : State) (new : Option RunCfg) : State :=
  match new with
  | none => s.setPanel s.panel.restart
  | some c => (s.setPanel (s.panel.startJudging c)).eachChannel (fun n s => s.holdForMaint n)

/-- A refresh at once where the sensor is WET (R165). -/
def State.rereadWetness (s : State) : State :=
  if s.rain.state = some .wet then (s.submitWetness 1 s.wetAge s.rain.intensity).setRefresh (some 600) else s

/-- The evaluator at the end of the reread (R98, R99; log entry 17). -/
def State.rereadEval (s : State) (new : Option RunCfg) : State :=
  match new with
  | none => { s with eval := Evaluator.reset, reviewDue := false, evalDue := false }
  | some _ => s.startDeciding

/-- The reread ends with an image, or none, and what it is judged to be (R214). -/
def State.rereadEnd (s : State) (image : Option Memory) (new : Option RunCfg) (pins : PinSample) : State :=
  let old := s.port.config
  let s1 := (({ s with port := s.port.readEnded image new } : State).rereadConditions new).eachChannel State.rereadChannel
  let s2 := s1.adoptUnits (fun n => old.any (fun c => match c.chans[n] with
    | .fitted _ => true
    | _ => false)) pins
  let s3 := (((s2.rereadRain old new pins).rereadAnem old new pins).rereadVane old new pins).rereadIsolation new
  let s4 := ((s3.startListening).rereadDraw old new).rereadPanel new
  let s5 := (((s4.submitStates).offerGust).rereadWetness).raiseHolding
  ((s5.rereadEval new).judgeLamp).finish

/-! ### The read itself (R208) -/

/-- Nothing sampled: what a read with no image has no use for. -/
def PinSample.blank : PinSample :=
  { enc := Vector.replicate 4 { a := false, b := false, i := false }, rain := 0, anem := false, van2 := false, van1 := false,
    van0 := false }

/-- READ_TRY_FAILED (R208): the next try follows, or the read ends with no image (log entry 16). -/
def execReadTryFailed (s : State) : Result :=
  match s.port.read with
  | .reading k false =>
    if k < 3 then .next { s with port := { s.port with read := .reading (k + 1) true } }
    else if s.port.restart then .next (s.rereadEnd none none PinSample.blank)
    else .next (s.startUpInvalid none)
  | _ => .next s

/-- READ_RETRY_EXPIRY (R208). -/
def execReadRetryExpiry (s : State) : Result :=
  match s.port.read with
  | .reading k true => .next { s with port := { s.port with read := .reading k false } }
  | _ => .next s

/-- A try can end with all 2048 bytes (R208). -/
def State.takesBytes (s : State) (bytes : List Byte) : Bool :=
  (match s.port.read with
    | .reading _ false => true
    | _ => false) && bytes.length = Config.imageBytes

/-- CONFIG_READ_END (R208 to R212). -/
def execConfigReadEnd (bytes : List Byte) (pins : PinSample) (s : State) : Result :=
  match s.port.ownAddress with
  | none => .next s
  | some own =>
    if s.takesBytes bytes && !s.port.restart then
      let m := Memory.ofBytes 0 bytes
      match judgeImage own m with
      | none => .next (s.startUpInvalid (some m))
      | some c => .next (s.startUpValid m c pins)
    else .next s

/-- REREAD_END (R208 to R211, R214). -/
def execRereadEnd (bytes : List Byte) (pins : PinSample) (s : State) : Result :=
  match s.port.ownAddress with
  | none => .next s
  | some own =>
    if s.takesBytes bytes && s.port.restart then
      let m := Memory.ofBytes 0 bytes
      .next (s.rereadEnd (some m) (judgeImage own m) pins)
    else .next s

end Sys2Proof.Machine
end

