-- ==== Sys2Proof/Machine/Dispatch.lean ====
section
/-! DEFINITION. What every command does: one arm for each constructor of `Instr`, each one call of its meaning. -/

namespace Sys2Proof.Machine

def exec (i : Instr) (s : State) : Host.Outcome State Fault Refusal :=
  match i with
  | .fullReset straps enc panel anem => Sys2Proof.Machine.execFullReset straps enc panel anem s
  | .stationTimeStep => Sys2Proof.Machine.execStationTimeStep s
  | .readTryFailed => Sys2Proof.Machine.execReadTryFailed s
  | .readRetryExpiry => Sys2Proof.Machine.execReadRetryExpiry s
  | .configReadEnd bytes pins => Sys2Proof.Machine.execConfigReadEnd bytes pins s
  | .commandRestart => Sys2Proof.Machine.execCommandRestart s
  | .warmRestart => Sys2Proof.Machine.execWarmRestart s
  | .rereadEnd bytes pins => Sys2Proof.Machine.execRereadEnd bytes pins s
  | .encoderLevelAccepted n a b idx => Sys2Proof.Machine.execEncoderLevelAccepted n a b idx s
  | .pinch n overcur stall => Sys2Proof.Machine.execPinch n overcur stall s
  | .overcurrent n pinch stall => Sys2Proof.Machine.execOvercurrent n pinch stall s
  | .stall n pinch overcur => Sys2Proof.Machine.execStall n pinch overcur s
  | .deadTimeEnd n => Sys2Proof.Machine.execDeadTimeEnd n s
  | .rampEnd n => Sys2Proof.Machine.execRampEnd n s
  | .coastWindowClose n => Sys2Proof.Machine.execCoastWindowClose n s
  | .pauseExpiry n => Sys2Proof.Machine.execPauseExpiry n s
  | .msgoodLow => Sys2Proof.Machine.execMsgoodLow s
  | .msgoodHigh => Sys2Proof.Machine.execMsgoodHigh s
  | .supplyRecoveryExpiry => Sys2Proof.Machine.execSupplyRecoveryExpiry s
  | .timedReview => Sys2Proof.Machine.execTimedReview s
  | .reopenHoldExpiry => Sys2Proof.Machine.execReopenHoldExpiry s
  | .holdOnExpiry n => Sys2Proof.Machine.execHoldOnExpiry n s
  | .listeningIntervalEnd => Sys2Proof.Machine.execListeningIntervalEnd s
  | .drawPeriodExpiry => Sys2Proof.Machine.execDrawPeriodExpiry s
  | .rainReading reading => Sys2Proof.Machine.execRainReading reading s
  | .captureRetryExpiry => Sys2Proof.Machine.execCaptureRetryExpiry s
  | .wetnessRefreshExpiry => Sys2Proof.Machine.execWetnessRefreshExpiry s
  | .anemPulse heldUs => Sys2Proof.Machine.execAnemPulse heldUs s
  | .windowEnd => Sys2Proof.Machine.execWindowEnd s
  | .vaneSample van2 van1 van0 => Sys2Proof.Machine.execVaneSample van2 van1 van0 s
  | .sectorAccepted => Sys2Proof.Machine.execSectorAccepted s
  | .anemSilenceExpiry => Sys2Proof.Machine.execAnemSilenceExpiry s
  | .gustPeriodExpiry => Sys2Proof.Machine.execGustPeriodExpiry s
  | .transmissionStart => Sys2Proof.Machine.execTransmissionStart s
  | .frameSuccess => Sys2Proof.Machine.execFrameSuccess s
  | .arbitrationLoss pos => Sys2Proof.Machine.execArbitrationLoss pos s
  | .bitError pos => Sys2Proof.Machine.execBitError pos s
  | .bitErrorHoldEnd dominantRead => Sys2Proof.Machine.execBitErrorHoldEnd dominantRead s
  | .listenOnlyExpiry => Sys2Proof.Machine.execListenOnlyExpiry s
  | .frameArrival bits => Sys2Proof.Machine.execFrameArrival bits s
  | .isolationExpiry => Sys2Proof.Machine.execIsolationExpiry s
  | .fileWetness => Sys2Proof.Machine.execFileWetness s
  | .fileGust => Sys2Proof.Machine.execFileGust s
  | .fileDraw => Sys2Proof.Machine.execFileDraw s
  | .overflowConditionEnd => Sys2Proof.Machine.execOverflowConditionEnd s
  | .partExpiry origin part => Sys2Proof.Machine.execPartExpiry origin part s
  | .commandOpen => Sys2Proof.Machine.execCommandOpen s
  | .commandClose => Sys2Proof.Machine.execCommandClose s
  | .commandStop => Sys2Proof.Machine.execCommandStop s
  | .commandHold => Sys2Proof.Machine.execCommandHold s
  | .commandRelease => Sys2Proof.Machine.execCommandRelease s
  | .commandAcknowledge => Sys2Proof.Machine.execCommandAcknowledge s
  | .commandReport => Sys2Proof.Machine.execCommandReport s
  | .statePeriodExpiry n => Sys2Proof.Machine.execStatePeriodExpiry n s
  | .panelInputChange input level heldMs => Sys2Proof.Machine.execPanelInputChange input level heldMs s
  | .learnHoldExpiry => Sys2Proof.Machine.execLearnHoldExpiry s
  | .ackHoldExpiry => Sys2Proof.Machine.execAckHoldExpiry s
  | .refusalPatternEnd => Sys2Proof.Machine.execRefusalPatternEnd s
  | .confirmDeadline => Sys2Proof.Machine.execConfirmDeadline s
  | .pageWriteEnd acked => Sys2Proof.Machine.execPageWriteEnd acked s
  | .pollExpiry acked => Sys2Proof.Machine.execPollExpiry acked s
  | .lineIdle => Sys2Proof.Machine.execLineIdle s
  | .startBitFromAnotherStation => Sys2Proof.Machine.execStartBitFromAnotherStation s
  | .frameAbandoned bits => Sys2Proof.Machine.execFrameAbandoned bits s
  | .noticeNotFiled => Sys2Proof.Machine.execNoticeNotFiled s
  | .currentConversion n reading => Sys2Proof.Machine.execCurrentConversion n reading s
  | .anemLevelFall heldUs => Sys2Proof.Machine.execAnemLevelFall heldUs s

end Sys2Proof.Machine
end

