-- ==== Sys2Proof/Safety.lean ====
section
/-! DEFINITION. What claims about the station are said in: the part of the state that reviews and evaluations leave alone,
and the invariants a safe station keeps. -/

namespace Sys2Proof.Machine

/-! ### What running to rest leaves alone -/

/-- The measured part of a channel unit: count, accepted levels, held pair. All else in it is of the drive and the travel. -/
def ChanUnit.sensed (u : ChanUnit) : ChanUnit :=
  { ChanUnit.reset { a := u.accA, b := u.accB, i := u.accI } with
    count := u.count, heldA := u.heldA, heldB := u.heldB }

/-- A channel record without its state: referenced flag, console hold, last refusal. -/
def ChanRec.marks (r : ChanRec) : ChanRec := { r with state := .still }

/-- The state with everything taken out that a review or an evaluation may change: travels, drives, the evaluator's results,
the arbiter's timers and content, the waiting notices, STATE timers, the lamp's standing pattern, the learn session. Two states
that agree in it agree in all the rest: clock, queue, counts, marks, sensors, supply, line mode, receive queue, peer table,
panel inputs, flags, running configuration and image. -/
def State.kept (s : State) : State :=
  { s with
    port := { s.port with session := none, store := none }
    units := s.units.map ChanUnit.sensed
    recs := s.recs.map ChanRec.marks
    eval := { Evaluator.reset with timer := s.eval.timer }
    arb := { Arbiter.reset with
      supply := s.arb.supply, listening := s.arb.listening, travelAtRestart := s.arb.travelAtRestart }
    line := { s.line with waiting := [], nextSeq := 0 }
    handler := { s.handler with
      stateTimers := Vector.replicate 4 none, lastState := Vector.replicate 4 View.reset }
    panel := { s.panel with standing := .off, patternAge := 0 }
    reviewDue := false, evalDue := false }

/-! ### Invariants -/

/-- The transmit pool never holds more than 8 notices, the LOCKED one counted (R136). -/
def State.PoolBounded (s : State) : Prop := s.line.poolSize ≤ Config.poolCapacity

/-- The WAITING notices stand in the order of R136, no two of them with one coalescing key; every queued time, the LOCKED
notice's too, is its own and has been given out (R136, R139). -/
def State.PoolOrdered (s : State) : Prop :=
  s.line.waiting.Pairwise (fun e f => e.before f = true ∧ e.seq ≠ f.seq ∧ sameKey e.notice f.notice = false) ∧
    (∀ e ∈ s.line.waiting, e.seq < s.line.nextSeq) ∧
    ∀ e, s.line.tx.locked? = some e → e.seq < s.line.nextSeq ∧ ∀ f ∈ s.line.waiting, f.seq ≠ e.seq

/-- The receive queue holds at most 6 frames, the peer table at most 48 entries with one origin each, and none of them, nor a
frame that waits, bears the own address (R134, R135, R145). -/
def State.TableOk (s : State) : Prop :=
  s.line.queue.length ≤ Config.queueCapacity ∧ s.handler.peers.length ≤ Config.tableCapacity ∧
    (s.handler.peers.map (·.origin)).Pairwise (· < ·) ∧
    ∀ a, s.port.ownAddress = some a →
      (∀ p ∈ s.handler.peers, p.origin ≠ a) ∧ (∀ f ∈ s.line.queue, f.origin ≠ a) ∧
        ∀ f, s.handler.inHand = some f → f.origin ≠ a

/-- Station time and every count stay in their ranges, and so does the closed count of every fitted channel (R1, R2, R210). -/
def State.CountsOk (s : State) : Prop :=
  s.now ≤ Config.maxStationTime ∧ (∀ n : Ch, s.units[n].count ≤ Config.maxCount) ∧
    ∀ (n : Ch) (k : ChanCfg), s.chan? n = some k → k.c ≤ Config.maxCount

/-- The direction a drive runs in or waits to run in. -/
def DriveState.dir? : DriveState → Option Direction
  | .off => none
  | .dead d | .ramp d _ | .full d => some d

/-- A motor is driven, or waits in DEAD, only while its channel is RUNNING or BACKING, and only in the direction that state
calls for (R15, R25). -/
def State.DriveOk (s : State) : Prop :=
  ∀ (n : Ch) (d : Direction), s.units[n].drive.dir? = some d → (s.stateOf n).driveDir? = some d

/-- No OPEN travel exists while threat is known, the reopen hold runs, CLOSE is active in LEVEL mode or isolation-close holds
(R45). -/
def State.OpenOk (s : State) : Prop :=
  s.openBarred = true → ∀ (n : Ch) (t : Travel), s.travel? n = some t → t.kind ≠ .opn

def LineMode.isListenOnly : LineMode → Bool
  | .listenOnly _ => true
  | _ => false

/-- LOW or RECOVERING (R107). -/
def Supply.isPoor : Supply → Bool
  | .low | .recovering _ => true
  | _ => false

/-- The station CONFIG condition is what the last read found (R184): before the start-up read ends there is none, no running
configuration and no frame in hand; after it, also during a reread, it holds exactly while the configuration is INVALID. -/
def State.ConfigConditionOk (s : State) : Prop :=
  (s.port.read = .ended → (s.flag .configStation).condition = s.port.config.isNone) ∧
    ∀ k w, s.port.read = .reading k w →
      (s.port.restart = true → (s.flag .configStation).condition = s.port.config.isNone) ∧
      (s.port.restart = false →
        (s.flag .configStation).condition = false ∧ s.port.config = none ∧ s.handler.inHand = none)

/-- The condition marks of the nine station flags stand for what R184 says: station CONFIG for an INVALID configuration, RAIN
SENSOR for FAULT, WIND SENSOR for exclusion, then LISTEN-ONLY, CLASHED, ISOLATED, a supply that is LOW or RECOVERING, an
overflow in the last 600 ds; STORE has no condition. A sensor that is not fitted is in no FAULT and not excluded, and an
acknowledge of LINE FAULT is noted in LISTEN-ONLY alone. -/
def State.FlagsOk (s : State) : Prop :=
  s.ConfigConditionOk ∧
    (s.flag .rainSensor).condition = decide (s.rain.state = some .fault) ∧
    (s.rain.state.isSome = true → s.port.config.any (·.rainFitted) = true) ∧
    (s.flag .windSensor).condition = s.wind.excluded ∧
    (s.wind.excluded = true → s.port.config.any (·.anemFitted) = true) ∧
    (s.flag .lineFault).condition = s.line.mode.isListenOnly ∧
    (s.line.faultAck.isSome = true → s.line.mode.isListenOnly = true) ∧
    (s.flag .addressClash).condition = decide (s.line.mode = .clashed) ∧
    (s.flag .isolation).condition = s.handler.isolated ∧
    (s.flag .supplyLow).condition = s.arb.supply.isPoor ∧
    (s.flag .peerOverflow).condition = s.handler.overflow.isSome ∧
    (s.flag .store).condition = false

/-- The image, where there is one, has its canonical form. -/
def State.ImageOk (s : State) : Prop := ∀ m, s.port.image = some m → m.wf = true

/-- The counters and records of fixed range (R67, R69, R71, R131, R132, R208). -/
def State.RangesOk (s : State) : Prop :=
  s.line.failures ≤ 16 ∧ s.wind.count ≤ 65535 ∧ s.wind.done ≤ 19 ∧ s.wind.gusts.length ≤ 5 ∧ s.vane.sector ≤ 8 ∧
    (∀ d a, s.vane.candidate = some (d, a) → d ≤ 7) ∧
    (∀ e f k, s.line.tx = .sending e f k → k ≤ f.length) ∧ (∀ e k, s.line.tx = .holding e k → k ≤ 8) ∧
    ∀ k w, s.port.read = .reading k w → 1 ≤ k ∧ k ≤ 3

/-- A travel record holds a target exactly where its kind is OPEN or REDUCE; the other kinds end on a stop (R23). -/
def State.TargetsOk (s : State) : Prop :=
  ∀ (n : Ch) (t : Travel), s.travel? n = some t → (t.target.isSome = true ↔ t.kind = .opn ∨ t.kind = .reduce)

/-! ### What stays in agreement -/

/-- The last DRAW content is what a DRAW would say now, wherever one may be submitted (R117). -/
def State.DrawReported (s : State) : Prop :=
  ∀ c, s.port.config = some c → s.rereading = false → (∃ n : Ch, s.fitted n = true) → s.arb.lastDraw = s.drawContent c.circuit

/-- Every channel's last STATE content agrees with its view in every field but the position percent (R156). -/
def State.ViewsReported (s : State) : Prop :=
  ∀ n : Ch, { s.view n with position := 0 } = { s.handler.lastState[n] with position := 0 }

/-- The pool has a place left, and the station an address: nothing submitted in the command has been dropped (R122, R140). -/
def State.PoolHasRoom (s : State) : Prop := s.port.ownAddress.isSome = true ∧ s.line.poolSize < Config.poolCapacity

/-- A flag's kind code and channel, 0 for a station flag (R128, R183). -/
def FlagId.alarm : FlagId → Nat × Nat
  | .obstruction n => (1, n.val + 1)
  | .encoder n => (2, n.val + 1)
  | .configStation => (3, 0)
  | .configChannel n => (3, n.val + 1)
  | .rainSensor => (4, 0)
  | .windSensor => (5, 0)
  | .lineFault => (6, 0)
  | .isolation => (7, 0)
  | .addressClash => (8, 0)
  | .peerOverflow => (9, 0)
  | .supplyLow => (10, 0)
  | .store => (11, 0)

/-! ### The order and the bars of an evaluation -/

/-- A slack before another: the smaller, and any before none (R105). -/
def SlackFirst (x y : Option Int) : Prop := ∃ a, x = some a ∧ ∀ b, y = some b → a < b

/-- R105: by band, then YIELDED before the others, then by slack, then by channel number. -/
def State.Precedes (s : State) (n m : Ch) : Prop :=
  s.bandOf n < s.bandOf m ∨ s.bandOf n = s.bandOf m ∧
    ((s.stateOf n).isYielded = true ∧ (s.stateOf m).isYielded = false ∨
      (s.stateOf n).isYielded = (s.stateOf m).isYielded ∧
        (SlackFirst s.eval.chans[n].slack s.eval.chans[m].slack ∨
          s.eval.chans[n].slack = s.eval.chans[m].slack ∧ n < m))

/-- The fitted channel in a state of this kind that the order of R105 takes first. -/
def State.FirstOf (s : State) (p : ChState → Prop) (n : Ch) : Prop :=
  s.fitted n = true ∧ p (s.stateOf n) ∧ ∀ m : Ch, m ≠ n → s.fitted m = true → p (s.stateOf m) → s.Precedes n m

/-- A candidate of the admission pass (R105). -/
def ChState.Waits (c : ChState) : Prop := ∃ t, c = .waiting t ∨ c = .yielded t

/-- A RUNNING travel that R110 checks. -/
def ChState.Upgrades (c : ChState) : Prop :=
  ∃ t, c = .running t ∧ t.band.val ≤ 2 ∧ t.profile = .normal ∧ t.kind ≠ .learnClose ∧ t.kind ≠ .learnOpen ∧ t.kind ≠ .learnTimed

/-- No bar of R106 to R109 stands against a candidate. That a supply with no sample yet is one is the model's choice (log
entry 18). -/
def State.Unbarred (s : State) (c : RunCfg) (k : ChanCfg) (t : Travel) : Prop :=
  s.arb.supply = .good ∧
    (s.handler.isolated = true ∨ s.line.mode ≠ .normal → ∀ m : Ch, (s.stateOf m).moving = false) ∧
    (s.arb.listening = none ∨ t.band = 0) ∧
    s.believed c + (k.profile t.profile).draw ≤ (if t.band = 0 then c.budget else c.budget - c.reserve) ∧
    ∀ b ∈ s.peerWaits c, t.band ≤ b

/-! ### What a command leaves behind -/

/-- Between `s` and `t` the drive of a channel has started: RAMP is entered, the start counts as the last step (R15, R20), a
first start of a closing travel takes the index record (R13), and one of a measuring learn travel count and time (R197). -/
def State.DriveStarted (s t : State) (n : Ch) (d : Direction) : Prop :=
  t.units[n].drive = .ramp d 0 ∧ t.units[n].lastDir = some d ∧ t.units[n].deadTime = none ∧ t.units[n].coast = none ∧
    t.units[n].overLimit = none ∧ t.units[n].watch = some { sinceStart := 0, sinceStep := 0 } ∧
    t.units[n].lastStepTime = s.now ∧ t.units[n].lastStepCount = s.units[n].count ∧
    (∀ k x, s.chan? n = some k → t.stateOf n = .running x → k.indexMode = .reload →
      (x.kind = .close ∨ x.kind = .learnClose ∨ x.kind = .learnTimed) → s.units[n].indexRecord = none →
      t.units[n].indexRecord = some
          { wasReferenced := s.recs[n].referenced, wasAbove := decide (k.c + k.closeTol < s.units[n].count) } ∧
        t.units[n].indexSeen = false) ∧
    ∀ p x, s.port.session = some p → p.channel = n → t.travel? n = some x →
      (x.kind = .learnOpen → t.port.session =
        some { p with measureStart := some s.units[n].count, openingStart := some s.now }) ∧
      (x.kind = .learnTimed → t.port.session =
        some { p with measureStart := some s.units[n].count, timedStart := some s.now })

/-- Between `s` and `t` a review has handed the channel its need, which has acted on the travel it had in `s` (R39 to R42,
R93). -/
def State.NeedActed (s t : State) (n : Ch) : Prop :=
  (t.recs[n].referenced = true → ∀ b o, t.needOf n = .close b o →
    (s.travel? n = none ∨ (∃ z, s.travel? n = some z ∧ (z.kind = .opn ∨ z.kind = .reduce)) →
      ∃ y, t.travel? n = some y ∧ y.kind = .close ∧ y.target = none ∧ y.direction = .closing ∧ y.band = b ∧ y.origin = o ∧
        y.profile = (if b.val ≤ 2 then .storm else .normal) ∧ y.retries = 0) ∧
    ∀ z, s.travel? n = some z → z.kind = .close → z.target = none →
      ∃ y, t.travel? n = some y ∧ y.kind = .close ∧ y.band = b ∧ y.origin = o ∧ y.retries = z.retries) ∧
  (t.recs[n].referenced = true → ∀ x, t.needOf n = .reduce x →
    (s.travel? n = none →
      ∃ y, t.travel? n = some y ∧ y.kind = .reduce ∧ y.target = some x ∧ y.direction = .closing ∧ y.band = 3 ∧
        y.origin = .wind ∧ y.profile = .normal ∧ y.retries = 0) ∧
    (∀ z, s.travel? n = some z → z.kind = .reduce → z.target ≠ some x →
      ∃ y, t.travel? n = some y ∧ y.kind = .reduce ∧ y.target = some x ∧ y.direction = .closing ∧ y.retries = z.retries) ∧
    ∀ z, s.travel? n = some z → z.kind = .close → z.target = none → z.origin.isRequest = true →
      ∃ y, t.travel? n = some y ∧ y.kind = .close ∧ y.origin = z.origin ∧ y.retries = z.retries) ∧
  (t.recs[n].referenced = false → t.needOf n ≠ .none →
    ∀ b o, (t.needOf n = .close b o ∨ (∀ b' o', t.needOf n ≠ .close b' o') ∧ b = 4 ∧ o = .start) →
    (s.travel? n = none →
      ∃ y, t.travel? n = some y ∧ y.kind = .reference ∧ y.target = none ∧ y.direction = .closing ∧ y.band = b ∧
        y.origin = o ∧ y.retries = 0) ∧
    ∀ z, s.travel? n = some z → z.kind = .reference → z.target = none →
      ∃ y, t.travel? n = some y ∧ y.kind = .reference ∧ y.band = b ∧ y.origin = o ∧ y.retries = z.retries) ∧
  (t.needOf n = .none → ∀ z, s.stateOf n = .waiting z ∨ s.stateOf n = .yielded z → z.origin.isNeed = true →
    z.kind ≠ .opn → t.stateOf n = .still)

/-- The evaluator holds what a review of the inputs as they stand gives (R76, R79, R84, R85, R87 to R91, R94). -/
def State.Judged (s : State) : Prop :=
  ∀ c, s.port.config = some c → s.rereading = false →
    s.eval.v = s.workingWind.1 ∧ s.eval.d = s.workingWind.2 ∧ s.eval.arrival = s.threatArrival c s.eval.v s.eval.d ∧
      s.eval.threat = s.eval.arrival.isSome ∧ ∀ n : Ch, s.eval.chans[n] = s.evalChannel n s.eval.v s.eval.arrival

/-- The command is a stop moment of the channel, at which just these signals arise (R18 to R20). -/
def State.stopBy (s : State) (c : Instr) (n : Ch) (sigs : List StopSignal) : Prop :=
  (∃ o x, c = .pinch n o x ∧ s.units[n].pinchArises = true ∧ sigs = s.units[n].signals true o x) ∨
    (∃ p x, c = .overcurrent n p x ∧ s.units[n].overcurrentArises = true ∧ sigs = s.units[n].signals p true x) ∨
    ∃ p o, c = .stall n p o ∧ s.units[n].stallArises = true ∧ sigs = s.units[n].signals p o true

/-- The frame in hand is a console COMMAND that asks for this request on channels, and `c` is the command that obeys it
(R162). -/
def State.requestBy (s : State) (c : Instr) (o : Order) (r : Request) : Prop :=
  (c = .commandOpen ∧ s.orderInHand .opn = some o ∧ r = .opn o.argument) ∨
    (c = .commandClose ∧ s.orderInHand .close = some o ∧ r = .close) ∨
    (c = .commandStop ∧ s.orderInHand .stop = some o ∧ r = .stop) ∨
    (c = .commandHold ∧ s.orderInHand .hold = some o ∧ r = .hold) ∨
    (c = .commandRelease ∧ s.orderInHand .release = some o ∧ r = .release)

/-- The mark that a press of the input waits for, of the two inputs that make presses (R169). -/
def Panel.armed (p : Panel) : PanelInput → Bool
  | .opn => p.armedOpn
  | .cls => p.armedCls
  | .maint | .learn => false

/-- A travel of the channel has ended: STILL, but for a travel that the need in force has begun anew (R29, R93). -/
def State.TravelEnded (t : State) (n : Ch) : Prop :=
  (t.needOf n = .none ∨ t.travel? n = none → t.stateOf n = .still) ∧
    ∀ y, t.travel? n = some y → y.kind ≠ .opn ∧ y.origin.isNeed = true ∧ y.retries = 0

/-- Between `s` and `t` a step of the channel has brought its count to `c`: a RUNNING travel whose target it reaches or passes
ends, a backing whose end it reaches goes to PAUSED, and no other state is changed by it (R30, R33). -/
def State.Stepped (s t : State) (n : Ch) (c : Nat) : Prop :=
  (∀ x y, s.stateOf n = .running x → x.target = some y → s.isLearnChannel n = false →
    (x.direction = .opening ∧ y ≤ c ∨ x.direction = .closing ∧ c ≤ y) → t.TravelEnded n) ∧
  (∀ x e, s.stateOf n = .backing x e → (x.kind = .close ∨ x.kind = .reference) → s.isLearnChannel n = false → e ≤ c →
    ∃ y, t.stateOf n = .paused y 50 ∧ y.kind = x.kind ∧ y.retries = x.retries) ∧
  (s.reviewDue = false → s.evalDue = false →
    (∀ x, s.stateOf n = .running x → ∀ y, x.target = some y →
      (x.direction = .opening → c < y) ∧ (x.direction = .closing → y < c)) →
    (∀ x e, s.stateOf n = .backing x e → c < e) → t.stateOf n = s.stateOf n)

/-- A CLOSE travel's band and origin: its own, or those of the CLOSE need, once a review has handed it on (R39, R93). -/
def Need.closes (need : Need) (y : Travel) (b : Band) (o : Origin) : Prop :=
  y.band = b ∧ y.origin = o ∨ need = .close y.band y.origin

/-- What an accepted request of this origin leaves of the channel's travel, once the reviews and evaluations it starts have run,
in a station whose evaluator agrees with its inputs (R47 to R50). -/
def State.CarriedOut (s t : State) (n : Ch) (o : Origin) : Request → Prop
  | .opn p => ∀ k x d, s.chan? n = some k → k.wr < k.wc → x = min (k.c + k.span * p / 100) (k.c + s.eval.chans[n].ceiling) →
    d = (if s.units[n].count < x then Direction.opening else .closing) →
    (s.units[n].count = x → t.stateOf n = .still) ∧
    (s.units[n].count ≠ x → ∃ y, t.travel? n = some y ∧ y.kind = .opn ∧ y.target = some x ∧ y.direction = d ∧ y.origin = o ∧
      ((∃ z, s.stateOf n = .running z ∧ z.kind = .opn ∧ z.direction = d ∧ y.band = z.band ∧ y.retries = z.retries) ∨
        (∀ z, s.stateOf n = .running z → z.kind = .opn → z.direction ≠ d) ∧ y.band = 5 ∧ y.profile = .normal ∧ y.retries = 0))
  | .close =>
    (s.recs[n].referenced = true →
      (s.travel? n = none → s.closed n = true → t.stateOf n = s.stateOf n) ∧
      ((s.travel? n = none ∧ s.closed n = false ∨ ∃ z, s.travel? n = some z ∧ (z.kind = .opn ∨ z.kind = .reduce)) →
        ∃ y, t.travel? n = some y ∧ y.kind = .close ∧ y.target = none ∧ y.direction = .closing ∧ y.retries = 0 ∧
          (s.needOf n).closes y 4 o) ∧
      ∀ z, s.travel? n = some z → z.kind = .close → z.target = none →
        ∃ y, t.travel? n = some y ∧ y.kind = .close ∧ y.retries = z.retries ∧
        (z.origin.isRequest = true ∨ (∃ b o', s.needOf n = .close b o') → (s.needOf n).closes y z.band z.origin) ∧
        (z.origin.isRequest = false → (∀ b o', s.needOf n ≠ .close b o') → y.band = 4 ∧ y.origin = o)) ∧
    (s.recs[n].referenced = false →
      (s.travel? n = none → ∃ y, t.travel? n = some y ∧ y.kind = .reference ∧ y.direction = .closing ∧ y.retries = 0) ∧
      ∀ z, s.travel? n = some z → z.kind = .reference → z.target = none →
        ∃ y, t.travel? n = some y ∧ y.kind = .reference ∧ y.retries = z.retries)
  | .stop =>
    (∀ z, s.travel? n = some z → (z.kind = .opn ∨ z.kind = .close ∧ z.origin.isRequest = true) → t.TravelEnded n) ∧
    ∀ z b o', s.travel? n = some z → z.kind = .close → z.target = none → z.origin.isNeed = true →
      s.needOf n = .close b o' → s.recs[n].referenced = true →
      ∃ y, t.travel? n = some y ∧ y.kind = .close ∧ y.retries = z.retries ∧ (s.needOf n).closes y z.band z.origin
  | .hold => ∀ y, t.travel? n = some y → y.kind ≠ .opn
  | .release => s.reviewDue = false → s.evalDue = false → t.stateOf n = s.stateOf n

/-- The rain sensor as it starts, with the reading it starts with: CAPTURING, no reference, a capture from that reading, the
runs that it opens (R57, R58, R61, R63, R74). -/
def RainFront.started (c : RunCfg) (r : Nat) : RainFront :=
  { RainFront.reset with
    state := some .capturing, latest := some r, latestNow := true
    onsetRun := if c.wetFloor ≤ r then some 0 else none
    faultRun := if r ≤ 2 ∨ 1021 ≤ r then some 0 else none
    capture := if c.wetFloor ≤ r then .retryWait 600 else .collecting 1 r r r 0 }

/-- Between `s` and `t` the channel has gone to FAULTED by its encoder: the cause joins those it has, the reference is lost, the
travel is gone, and the ENCODER condition begins where it was not there (R14, R37, R184). -/
def State.EncoderFaulted (s t : State) (n : Ch) : Prop :=
  t.recs[n].referenced = false ∧ t.travel? n = none ∧
    ((∀ o e, s.stateOf n ≠ .faulted o e) → t.stateOf n = .faulted false true) ∧
    (∀ o e, s.stateOf n = .faulted o e → t.stateOf n = .faulted o true ∧ (e = true → t.flags = s.flags)) ∧
    ((∀ o, s.stateOf n ≠ .faulted o true) →
      (t.flag (.encoder n)).condition = true ∧
        ((s.flag (.encoder n)).condition = false → (t.flag (.encoder n)).raised = true))

end Sys2Proof.Machine
end

