-- ==== Sys2Proof/Certificates/Slice0/Obligations.lean ====
section
/-! DEFINITION. The statements for the provers. "Completes" means that `exec` answers a next state. Where a command ends by
running reviews and evaluations (R96, R104), what it leaves is said through `State.kept`: the state without what those may
change. -/

section
open Sys2Proof Sys2Proof.Machine

/-! ### The machine as a whole -/

/-- Taking the command at the front of the queue is exec on the queue's rest. That a step on an empty queue is a bit time of
the line (R122), in which a station that is not sending idles, is the model's choice (log entry 2). -/
def Obligations.StepRunsFrontCommand : Prop :=
  (∀ (c : Instr) (rest : List Instr) (s : State),
      step { s with pending := c :: rest } = exec c { s with pending := rest }) ∧
    ∀ s : State, s.pending = [] →
      step s = .next s.bitTime ∧ (s.line.tx = .notSending → step s = .next s) ∧ s.bitTime = { s with line := s.bitTime.line }

/-- R207 with R21, R74, R98, R119, R141, R164, R167, R183: what FULL_RESET leaves, whatever stood before. That the straps
and the first levels come with the command is the model's choice (log entry 6). -/
def Obligations.FullResetLeaves : Prop :=
  ∀ (straps : BitVec 7) (enc : Vector EncLevels 4) (panel : PanelLevels) (anem : Bool) (s : State),
    (1 ≤ straps.toNat ∧ straps.toNat ≤ 126 →
      exec (.fullReset straps enc panel anem) s = .next { State.reset with
        pending := s.pending, units := enc.map ChanUnit.reset, panel := Panel.reset panel
        wind := { WindFront.reset with level := anem }
        port := { Port.reset with ownAddress := some straps.toNat, read := .reading 1 false } }) ∧
    (straps.toNat = 0 ∨ straps.toNat = 127 →
      ∃ t, exec (.fullReset straps enc panel anem) s = .next t ∧ t.port = Port.reset ∧ t.pending = s.pending ∧ t.now = 0 ∧
        t.units = enc.map ChanUnit.reset ∧ t.recs = State.reset.recs ∧ t.eval = Evaluator.reset ∧ t.arb = Arbiter.reset ∧
        t.line = LineCtl.reset ∧ t.handler = Handler.reset ∧ t.rain = RainFront.reset ∧
        t.wind = { WindFront.reset with level := anem } ∧ t.vane = State.reset.vane ∧ t.panel.standing = .fast ∧
        t.flag .configStation = { raised := true, condition := true } ∧
        ∀ i : Fin 21, i ≠ 8 → t.flags[i] = { raised := false, condition := false })

/-- R1, R21, R22, R74, R98, R119, R141, R164, R167, R183: the values after reset that those rules give; and the invariants of
Safety.lean hold there. -/
def Obligations.ResetValuesAndInvariants : Prop :=
  State.reset.now = 0 ∧
  (∀ n : Ch, State.reset.units[n].count = 0 ∧ State.reset.units[n].illegal = 0 ∧ State.reset.units[n].indexSeen = false ∧
    State.reset.units[n].drive = .off ∧ State.reset.units[n].lastDir = none ∧ State.reset.units[n].deadTime = none ∧
    State.reset.units[n].coast = none ∧ State.reset.units[n].overLimit = none ∧ State.reset.units[n].watch = none ∧
    State.reset.stateOf n = .still ∧ State.reset.recs[n].referenced = false ∧ State.reset.recs[n].consoleHold = false ∧
    State.reset.recs[n].refusal = .accepted ∧ State.reset.needOf n = .none ∧ State.reset.eval.chans[n].slack = none ∧
    State.reset.eval.chans[n].ceiling = 0 ∧ State.reset.arb.holdOn[n] = none ∧ State.reset.handler.stateTimers[n] = none ∧
    State.reset.handler.lastState[n] = State.reset.view n) ∧
  State.reset.rain.reference = none ∧ State.reset.rain.owed = false ∧ State.reset.rain.capture = .idle ∧
  State.reset.rain.wetTime = none ∧ State.reset.rain.intensity = 0 ∧ State.reset.wind.count = 0 ∧ State.reset.wind.done = 0 ∧
  State.reset.wind.peak = 0 ∧ State.reset.wind.gusts = [] ∧ State.reset.wind.lastSpeed = 0 ∧
  State.reset.wind.excluded = false ∧ State.reset.vane = { sector := 8, candidate := none } ∧
  State.reset.eval.v = 0 ∧ State.reset.eval.d = 8 ∧ State.reset.eval.arrival = none ∧ State.reset.eval.threat = false ∧
  State.reset.eval.reopen = none ∧ State.reset.eval.timer = none ∧ State.reset.ownDraw = 0 ∧
  State.reset.arb.deferred = none ∧ State.reset.arb.drawTimer = none ∧ State.reset.line.mode = .normal ∧
  State.reset.line.failures = 0 ∧ State.reset.line.idle = false ∧ State.reset.line.tx = .notSending ∧
  State.reset.line.waiting = [] ∧ State.reset.line.queue = [] ∧ State.reset.handler.peers = [] ∧
  State.reset.handler.isolated = false ∧ State.reset.handler.isolation = none ∧ State.reset.handler.lastOverflow = none ∧
  State.reset.handler.refresh = none ∧ State.reset.handler.gustTimer = none ∧ State.reset.handler.lastGust = none ∧
  State.reset.panel.judging = false ∧ State.reset.panel.standing = .off ∧ State.reset.panel.refusal = none ∧
  (∀ i : Fin 21, State.reset.flags[i] = { raised := false, condition := false }) ∧
  State.reset.port.config = none ∧ State.reset.port.restart = false ∧ State.reset.port.session = none ∧
  State.reset.port.store = none ∧
  State.reset.PoolBounded ∧ State.reset.PoolOrdered ∧ State.reset.TableOk ∧ State.reset.CountsOk ∧ State.reset.DriveOk ∧
    State.reset.OpenOk ∧ State.reset.FlagsOk ∧ State.reset.ImageOk ∧ State.reset.RangesOk ∧ State.reset.TargetsOk

/-- R136 to R140: every step keeps the pool within 8 notices, in order, one WAITING notice to a coalescing key. -/
def Obligations.PoolKept : Prop :=
  ∀ s t : State, step s = .next t → (s.PoolBounded → t.PoolBounded) ∧ (s.PoolOrdered → t.PoolOrdered)

/-- R134, R135, R145, R148: every step keeps the bounds of the queue and the table, one entry to an origin, none of the own
address. -/
def Obligations.QueueAndTableKept : Prop := ∀ s t : State, s.TableOk → step s = .next t → t.TableOk

/-- R1, R2, R8, R210: every step keeps station time, counts and closed counts in range. -/
def Obligations.CountsKept : Prop := ∀ s t : State, s.CountsOk → step s = .next t → t.CountsOk

/-- R15, R25: every step keeps a motor from being driven but in RUNNING or BACKING, in the direction that state calls for. -/
def Obligations.DriveFollowsState : Prop := ∀ s t : State, s.DriveOk → step s = .next t → t.DriveOk

/-- R45: every step keeps OPEN travels from existing while one of the four conditions holds. -/
def Obligations.NoOpenWhileBarred : Prop := ∀ s t : State, s.OpenOk → step s = .next t → t.OpenOk

/-- R183, R184: every step keeps the condition marks of the nine station flags true to their conditions. -/
def Obligations.ConditionsKept : Prop := ∀ s t : State, s.FlagsOk → step s = .next t → t.FlagsOk

/-- Every step keeps the image's canonical form and the ranges of the small counters (R67, R69, R71, R131, R132, R208), and
a target on the OPEN and REDUCE travels alone (R23). The canonical form, in which an unlisted byte reads as 0, is the
model's choice (log entry 24). -/
def Obligations.ImageAndRangesKept : Prop :=
  ∀ s t : State, step s = .next t → (s.ImageOk → t.ImageOk) ∧ (s.RangesOk → t.RangesOk) ∧ (s.TargetsOk → t.TargetsOk)

/-- R35, R38, R51, R53, R54: only an acknowledge, a full reset or the end of a read takes a channel out of FAULTED. -/
def Obligations.FaultedWaitsForAcknowledge : Prop :=
  ∀ (c : Instr) (s t : State) (n : Ch) (o e : Bool), exec c s = .next t → s.stateOf n = .faulted o e →
    (∃ o' e', t.stateOf n = .faulted o' e') ∨ c = .commandAcknowledge ∨ c = .ackHoldExpiry ∨ c = .readTryFailed ∨
      (∃ bytes pins, c = .rereadEnd bytes pins) ∨ ∃ straps enc panel anem, c = .fullReset straps enc panel anem

/-- R2: a count moves by one step of its decoder, or is set to C at its index or at a stop of its travel; full reset sets it to
0; no other command, and no command of another channel, changes it. -/
def Obligations.CountMovesOnlyByItsChannel : Prop :=
  ∀ (c : Instr) (s t : State) (n : Ch), exec c s = .next t →
    t.units[n].count = s.units[n].count ∨
      ((∃ a b i, c = .encoderLevelAccepted n a b i) ∧
        (t.units[n].count = s.units[n].count + 1 ∨ t.units[n].count + 1 = s.units[n].count ∨
          ∃ k, s.chan? n = some k ∧ t.units[n].count = k.c)) ∨
      ((∃ p q, c = .pinch n p q ∨ c = .overcurrent n p q ∨ c = .stall n p q) ∧
        ∃ k, s.chan? n = some k ∧ t.units[n].count = k.c) ∨
      ((∃ straps enc panel anem, c = .fullReset straps enc panel anem) ∧ t.units[n].count = 0)

/-- R132, R183, R185, R186, R188, R190: a raised flag stays raised until an acknowledge, a warm restart or a full reset;
LINE FAULT, once acknowledged, until the LISTEN-ONLY expiry. Each raise and each clear submits an ALARM of the flag's kind
code, channel and change at rank 10, which stands in the pool after every command but a full reset, if the pool has room; a
raise of a raised flag changes nothing. How R132 goes with R189 is the model's reading (log entry 42). -/
def Obligations.RaisedFlagsStayAndReport : Prop :=
  (∀ (c : Instr) (s t : State) (i : Fin 21), exec c s = .next t → s.flags[i].raised = true →
    t.flags[i].raised = true ∨ c = .commandAcknowledge ∨ c = .ackHoldExpiry ∨ c = .warmRestart ∨
      (c = .listenOnlyExpiry ∧ i = FlagId.lineFault.index ∧ s.faultAcked = true) ∨
      ∃ straps enc panel anem, c = .fullReset straps enc panel anem) ∧
  (∀ (c : Instr) (s t : State) (f : FlagId), exec c s = .next t →
    (∀ straps enc panel anem, c ≠ .fullReset straps enc panel anem) → t.PoolHasRoom →
    (t.flag f).raised ≠ (s.flag f).raised →
    ∃ e ∈ t.line.waiting, e.notice = .alarm f.alarm.1 f.alarm.2 (t.flag f).raised ∧ e.rank = 10) ∧
  ∀ (s t : State) (f : FlagId),
    ((s.flag f).raised = true → s.raise f = s) ∧
    ((s.flag f).raised = false → t = s.raise f → t.flag f = { s.flag f with raised := true } ∧
      t.line = (s.submit (.alarm f.alarm.1 f.alarm.2 true) 10).line ∧ ∀ g : FlagId, g ≠ f → t.flag g = s.flag g)

/-- R211: the running configuration and the image change at the end of a read, at a learn confirm on the panel and at a full
reset alone. -/
def Obligations.ConfigurationChangesAtReads : Prop :=
  ∀ (c : Instr) (s t : State), exec c s = .next t →
    (t.port.config = s.port.config ∧ t.port.image = s.port.image) ∨ c = .readTryFailed ∨
      (∃ bytes pins, c = .configReadEnd bytes pins ∨ c = .rereadEnd bytes pins) ∨
      (∃ level ms p, c = .panelInputChange .learn level ms ∧ s.port.session = some p ∧ p.phase = .awaitingConfirm) ∨
      ∃ straps enc panel anem, c = .fullReset straps enc panel anem

/-! ### Frames -/

/-- R123, R125 to R127, R133: a receiver reads back every frame a station can send, bit for bit. -/
def Obligations.FrameRoundTrip : Prop :=
  ∀ (rank origin kind : Nat) (payload : List Byte), rank < 16 → 1 ≤ origin → origin ≤ 126 →
    kindLength kind = some payload.length → receive (frameBits rank origin kind payload) = .frame origin kind payload

/-- R115, R128, R147: what a station reports of its sensors and its draw passes the value checks of every receiver, with the
fields it was sent with. -/
def Obligations.OwnNoticesPassChecks : Prop :=
  (∀ phase age intensity : Nat, age ≤ 65535 → (phase ≤ 1 ∧ 1 ≤ intensity ∧ intensity ≤ 7 ∨ phase = 2 ∧ intensity = 0) →
    wetnessFields (Notice.payload (.wetness phase age intensity)) = some { phase := phase, age := age }) ∧
  (∀ a v d : Nat, a ≤ 600 → v ≤ 600 → d ≤ 8 →
    gustFields (Notice.payload (.gust a v d)) = some { assessment := a, sector := d }) ∧
  ∀ (s : State) (c : RunCfg) (hold : Nat), c.circuit ≤ 15 → s.ownDraw ≤ 8000 → hold ≤ 6000 →
    ∃ least wait, drawFields (Notice.payload (.draw (s.drawContent c.circuit) hold)) =
        some { circuit := c.circuit, draw := s.ownDraw, hold := hold, runLeast := least, waitMost := wait } ∧
      (least = none ↔ s.bandsWhere ChState.moving = []) ∧ (wait = none ↔ s.bandsWhere ChState.isCandidate = []) ∧
      (least.map (·.val)).getD 15 = (s.drawContent c.circuit).runLeast ∧
      (wait.map (·.val)).getD 15 = (s.drawContent c.circuit).waitMost

/-! ### Reads, start-up and restart -/

/-- R208, R209, R212, R214: the tries of a read. A failure of the last ends the read with no image and the configuration
INVALID. That the failure itself ends the read, and that the listening interval starts after an INVALID read too, is the
model's choice (log entries 16 and 21). -/
def Obligations.ReadTries : Prop :=
  (∀ (s : State) (k : Nat), s.port.read = .reading k false → k < 3 →
    exec .readTryFailed s = .next { s with port := { s.port with read := .reading (k + 1) true } }) ∧
  (∀ (s : State) (k : Nat), s.port.read = .reading k true →
    exec .readRetryExpiry s = .next { s with port := { s.port with read := .reading k false } }) ∧
  ∀ (s : State) (k : Nat), s.port.read = .reading k false → 3 ≤ k →
    ∃ t, exec .readTryFailed s = .next t ∧ t.port.read = .ended ∧ t.port.image = none ∧ t.port.config = none ∧
      t.port.restart = false ∧ t.arb.listening = some 110 ∧ (t.flag .configStation).condition = true ∧
      ((s.flag .configStation).condition = false → (t.flag .configStation).raised = true) ∧ t.now = s.now ∧
      ∀ n : Ch, t.units[n].count = s.units[n].count ∧ t.recs[n].referenced = s.recs[n].referenced ∧
        t.recs[n].consoleHold = s.recs[n].consoleHold

/-- R3, R57, R58, R67, R71, R74, R109, R157, R180, R181, R209 to R212: the end of the start-up read, with what the channel
units, the panel and the weather front end start from. That the listening interval starts after an INVALID read too is the
model's choice (log entry 21). -/
def Obligations.ConfigReadEnds : Prop :=
  ∀ (bytes : List Byte) (pins : PinSample) (s : State) (own k : Nat), s.port.ownAddress = some own →
    s.port.read = .reading k false → s.port.restart = false → bytes.length = 2048 →
    ∃ t, exec (.configReadEnd bytes pins) s = .next t ∧ t.port.read = .ended ∧
      t.port.image = some (Memory.ofBytes 0 bytes) ∧ t.port.config = judgeImage own (Memory.ofBytes 0 bytes) ∧
      t.now = s.now ∧ t.arb.listening = some 110 ∧
      (∀ n : Ch, t.units[n].count = s.units[n].count ∧ t.recs[n].referenced = s.recs[n].referenced ∧
        t.recs[n].consoleHold = s.recs[n].consoleHold) ∧
      (judgeImage own (Memory.ofBytes 0 bytes) = none →
        t.units = s.units ∧ t.eval = s.eval ∧ (t.flag .configStation).condition = true ∧
          ((s.flag .configStation).condition = false → (t.flag .configStation).raised = true)) ∧
      ∀ c, judgeImage own (Memory.ofBytes 0 bytes) = some c →
        t.Judged ∧ t.eval.timer = some 10 ∧ t.handler.isolation = some (10 * c.isolationS) ∧ t.panel.judging = true ∧
          t.panel.active = c.activeOf s.panel.levels ∧
          (c.anemFitted = true → t.wind.window = some 30 ∧ t.wind.done = 0 ∧ t.wind.count = 0 ∧ t.wind.peak = 0 ∧
            t.wind.silence = some 6000 ∧ t.wind.excluded = false ∧ t.wind.level = pins.anem) ∧
          (c.vaneFitted = true → c.anemFitted = true →
            t.vane = { sector := c.sector pins.van2 pins.van1 pins.van0, candidate := none }) ∧
          (c.rainFitted = true → t.rain = RainFront.started c pins.rain.val) ∧ (c.rainFitted = false → t.rain = s.rain) ∧
          ∀ n : Ch,
            (∀ k, c.chans[n] = .fitted k →
              t.units[n].accA = pins.enc[n].a ∧ t.units[n].accI = pins.enc[n].i ∧ t.units[n].heldA = pins.enc[n].a ∧
                (k.mode ≠ .single → t.units[n].accB = pins.enc[n].b ∧ t.units[n].heldB = pins.enc[n].b) ∧
                (k.mode = .single → t.units[n].accB = false)) ∧
            (c.chans[n] = .inError → (t.flag (.configChannel n)).condition = true ∧
              ((s.flag (.configChannel n)).condition = false → (t.flag (.configChannel n)).raised = true))

/-- R21, R53, R75, R99, R120, R142, R165, R181, R190, R213: a pending restart takes effect while the transmitter is not
sending. That the pool is emptied after the travels' reports and before the flags clear (log entry 10), and that a frame
in hand is dropped with the queue (log entry 19), is the model's choice. -/
def Obligations.WarmRestartTakesEffect : Prop :=
  ∀ s : State, s.port.restart = true → s.port.read = .ended → s.line.tx = .notSending →
    ∃ t, exec .warmRestart s = .next t ∧
      t.port = { s.port with read := .reading 1 false, session := none, store := none } ∧ t.now = s.now ∧
      (∀ n : Ch, t.units[n].sensed = s.units[n].sensed ∧ t.units[n].lastDir = s.units[n].lastDir ∧
        t.units[n].illegal = 0 ∧ t.units[n].indexSeen = false ∧ t.recs[n].referenced = s.recs[n].referenced ∧
        t.recs[n].consoleHold = s.recs[n].consoleHold ∧ t.recs[n].refusal = .accepted ∧
        t.stateOf n = (match s.stateOf n with
          | .faulted o e => .faulted o e
          | _ => .still)) ∧
      (s.DriveOk → ∀ n : Ch, t.units[n].drive = .off) ∧
      t.arb.supply = s.arb.supply ∧ t.arb.listening = s.arb.listening ∧ t.arb.deferred = none ∧ t.arb.drawTimer = none ∧
      t.arb.travelAtRestart = s.anyTravel ∧ t.eval = { s.eval with timer := none } ∧ t.wind = s.wind ∧ t.vane = s.vane ∧
      t.rain.state = s.rain.state ∧ t.rain.reference = s.rain.reference ∧ t.rain.capture = .idle ∧
      (∀ e ∈ t.line.waiting, ∃ kind ch, e.notice = .alarm kind ch false) ∧ t.line.queue = [] ∧ t.line.failures = 0 ∧ t.line.faultAck = none ∧
      (t.line.mode = match s.line.mode with
        | .listenOnly _ => .normal
        | m => m) ∧
      t.handler.inHand = none ∧ t.handler.peers = [] ∧ t.handler.isolated = s.handler.isolated ∧
      t.handler.isolation = s.handler.isolation ∧ t.handler.overflow = s.handler.overflow ∧ t.handler.lastGust = none ∧
      t.handler.refresh = none ∧ t.handler.gustTimer = none ∧ (∀ n : Ch, t.handler.stateTimers[n] = none) ∧
      t.panel.judging = false ∧ t.panel.levels = s.panel.levels ∧ t.panel.active = PanelLevels.allLow ∧
      ∀ i : Fin 21, t.flags[i].raised = false ∧ (i ≠ 15 → t.flags[i].condition = s.flags[i].condition) ∧
        (i = 15 → t.flags[i].condition = false)

/-- R53, R54, R71, R75, R99, R109, R165, R191, R209, R214: the end of the reread, of the weather front end too. The
evaluator's values and the listening interval after an INVALID reread, the order of the conditions and the raises, and what
an anemometer or a vane that the reread brings into use starts from, are the model's choice (log entries 15, 17, 21, 30 and
41). -/
def Obligations.RereadEnds : Prop :=
  ∀ (bytes : List Byte) (pins : PinSample) (s : State) (own k : Nat), s.port.ownAddress = some own →
    s.port.read = .reading k false → s.port.restart = true → bytes.length = 2048 →
    ∃ t, exec (.rereadEnd bytes pins) s = .next t ∧ t.port.read = .ended ∧ t.port.restart = false ∧
      t.port.image = some (Memory.ofBytes 0 bytes) ∧ t.port.config = judgeImage own (Memory.ofBytes 0 bytes) ∧
      t.now = s.now ∧ t.arb.listening = some 110 ∧
      (∀ n : Ch, t.units[n].count = s.units[n].count ∧ t.recs[n].referenced = s.recs[n].referenced ∧
        t.recs[n].consoleHold = s.recs[n].consoleHold ∧
        (s.port.session = none → t.fitted n = false → t.stateOf n = .still) ∧
        (t.flag (.configChannel n)).condition = t.port.config.any (·.inError n)) ∧
      (t.flag .configStation).condition = t.port.config.isNone ∧
      (∀ i : Fin 21, (t.flags[i].condition = true → t.flags[i].raised = true) ∧
        (s.flags[i].raised = true → t.flags[i].raised = true)) ∧
      (t.port.config = none →
        t.eval = Evaluator.reset ∧ t.panel.judging = false ∧ t.handler.isolated = false ∧ t.handler.isolation = none) ∧
      (t.port.config.any (·.rainFitted) = false → t.rain = RainFront.reset ∧ (t.flag .rainSensor).condition = false) ∧
      (t.port.config.any (·.anemFitted) = false →
        t.wind = { s.wind with window := none, silence := none, silencePassed := false, excluded := false } ∧
          (t.flag .windSensor).condition = false ∧ t.handler.lastGust = none ∧ t.handler.gustTimer = none) ∧
      (t.port.config.any RunCfg.vaneUsed = false → t.vane = { sector := 8, candidate := none }) ∧
      ∀ c, t.port.config = some c →
        t.Judged ∧ t.eval.timer = some 10 ∧ t.panel.judging = true ∧ t.panel.active = c.activeOf s.panel.levels ∧
          t.handler.isolated = s.handler.isolated ∧
          (c.rainFitted = true → s.port.config.any (·.rainFitted) = true →
            t.rain = s.rain ∧ (t.flag .rainSensor).condition = (s.flag .rainSensor).condition) ∧
          (c.rainFitted = true → s.port.config.any (·.rainFitted) = false → t.rain = RainFront.started c pins.rain.val) ∧
          (t.rain.state = some .wet → t.handler.refresh = some 600) ∧
          (c.anemFitted = true → s.port.config.any (·.anemFitted) = true →
            t.wind = s.wind ∧ (t.flag .windSensor).condition = (s.flag .windSensor).condition) ∧
          (c.anemFitted = true → s.port.config.any (·.anemFitted) = false →
            t.wind = { s.wind with
              level := pins.anem, count := 0, window := some 30, done := 0, peak := 0, silence := some 6000
              silencePassed := false, excluded := false }) ∧
          (c.vaneUsed = true → t.vane = if s.port.config.any RunCfg.vaneUsed = true then s.vane
            else { sector := c.sector pins.van2 pins.van1 pins.van0, candidate := none })

/-! ### Position sensing -/

/-- R4 to R6, R30, R33: the table, with up and down exchanged by the swap bit; what a transition of the accepted pair does
to the held pair and the count; and what the step does to the travel: it ends one that it brings to its target, and a
backing that it brings to its end. An illegal transition makes no step and is counted while a travel exists, up to 4. The
index, a step past an end of the range and the fourth illegal transition have statements of their own. -/
def Obligations.QuadratureSteps : Prop :=
  (∀ m : DecodeMode, m ≠ .single →
    quadStep m false false true false = .up ∧ quadStep m true false false false = .down ∧
    quadStep m true false true true = (if m = .x4 then .up else .none) ∧
    quadStep m true true false true = (if m = .x1 then .none else .up) ∧
    quadStep m false true false false = (if m = .x4 then .up else .none) ∧
    quadStep m true true true false = (if m = .x4 then .down else .none) ∧
    quadStep m false true true true = (if m = .x1 then .none else .down) ∧
    quadStep m false false false true = (if m = .x4 then .down else .none) ∧
    quadStep m false false true true = .illegal ∧ quadStep m true true false false = .illegal ∧
    quadStep m true false false true = .illegal ∧ quadStep m false true true false = .illegal) ∧
  (QuadStep.swapped .up true = .down ∧ QuadStep.swapped .down true = .up ∧ QuadStep.swapped .none true = .none ∧
    QuadStep.swapped .illegal true = .illegal ∧ ∀ q : QuadStep, q.swapped false = q) ∧
  ∀ (n : Ch) (a b i : LineRun) (s : State) (k : ChanCfg) (a' b' i' : Bool) (q : QuadStep), s.chan? n = some k →
    k.mode ≠ .single → a' = debounce k.debounceUs s.units[n].accA a → b' = debounce k.debounceUs s.units[n].accB b →
    i' = debounce k.debounceUs s.units[n].accI i → (a' ≠ s.units[n].accA ∨ b' ≠ s.units[n].accB) →
    (k.indexMode = .off ∨ k.indexMet s.units[n].accA s.units[n].accB s.units[n].accI = true ∨ k.indexMet a' b' i' = false) →
    q = (quadStep k.mode s.units[n].heldA s.units[n].heldB a' b').swapped k.swap →
    ∀ c : Nat,
      (q = .up ∧ s.units[n].count < 65535 ∧ c = s.units[n].count + 1 ∨
        q = .down ∧ 0 < s.units[n].count ∧ c = s.units[n].count - 1 ∨ q = .none ∧ c = s.units[n].count ∨
        q = .illegal ∧ (s.travel? n = none ∨ s.units[n].illegal ≠ 3) ∧ c = s.units[n].count) →
      ∃ t, exec (.encoderLevelAccepted n a b i) s = .next t ∧
        t.kept = (s.setUnit n { s.units[n] with
          accA := a', accB := b', accI := i', heldA := a', heldB := b', count := c }).kept ∧
        (c ≠ s.units[n].count → s.Stepped t n c) ∧
        (q = .illegal → s.reviewDue = false → s.evalDue = false → t.stateOf n = s.stateOf n ∧
          t.units[n].illegal = if s.travel? n ≠ none ∧ s.units[n].illegal < 4 then s.units[n].illegal + 1
            else s.units[n].illegal)

/-- R7: in SINGLE mode a rising A edge is a step with the sign of the drive while it conducts, of the last drive while the
coast window is open, and else none; a falling edge is none; line B reads 0. A step ends a travel that it brings to its
target, and a backing that it brings to its end (R30, R33). -/
def Obligations.SingleModeSteps : Prop :=
  ∀ (n : Ch) (a b i : LineRun) (s : State) (k : ChanCfg) (c : Nat), s.chan? n = some k → k.mode = .single →
    k.indexMode = .off → debounce k.debounceUs s.units[n].accI i = s.units[n].accI →
    (s.units[n].accA = true ∨ debounce k.debounceUs s.units[n].accA a = false ∨
        s.units[n].drive.driven? = none ∧ (s.units[n].coast = none ∨ s.units[n].lastDir = none)) ∧ c = s.units[n].count ∨
      (s.units[n].accA = false ∧ debounce k.debounceUs s.units[n].accA a = true) ∧
        ((s.units[n].drive.driven? = some .opening ∨
            s.units[n].drive.driven? = none ∧ s.units[n].coast ≠ none ∧ s.units[n].lastDir = some .opening) ∧
            s.units[n].count < 65535 ∧ c = s.units[n].count + 1 ∨
          (s.units[n].drive.driven? = some .closing ∨
            s.units[n].drive.driven? = none ∧ s.units[n].coast ≠ none ∧ s.units[n].lastDir = some .closing) ∧
            0 < s.units[n].count ∧ c = s.units[n].count - 1) →
    ∃ t, exec (.encoderLevelAccepted n a b i) s = .next t ∧
      t.kept = (s.setUnit n { s.units[n] with
        accA := debounce k.debounceUs s.units[n].accA a, accB := false, count := c }).kept ∧
      (c ≠ s.units[n].count → s.Stepped t n c)

/-- R6 to R8, R14, R37: a step past an end of the range on a referenced channel, also in SINGLE mode, and the fourth illegal
transition of a travel, which is the last counted, take the channel to FAULTED with ENCODER; on an unreferenced channel the
refused step raises nothing. -/
def Obligations.EncoderFaults : Prop :=
  ∀ (n : Ch) (a b i : LineRun) (s : State) (k : ChanCfg) (a' : Bool), s.chan? n = some k →
    a' = debounce k.debounceUs s.units[n].accA a → debounce k.debounceUs s.units[n].accI i = s.units[n].accI →
    s.units[n].accI = false →
    (k.mode ≠ .single → ∀ (b' : Bool) (q : QuadStep), b' = debounce k.debounceUs s.units[n].accB b →
      (a' ≠ s.units[n].accA ∨ b' ≠ s.units[n].accB) →
      q = (quadStep k.mode s.units[n].heldA s.units[n].heldB a' b').swapped k.swap →
      (q = .up ∧ 65535 ≤ s.units[n].count ∨ q = .down ∧ s.units[n].count = 0 →
        s.recs[n].referenced = false →
        ∃ t, exec (.encoderLevelAccepted n a b i) s = .next t ∧
          t.kept = (s.setUnit n { s.units[n] with accA := a', accB := b', heldA := a', heldB := b' }).kept) ∧
      ((q = .up ∧ 65535 ≤ s.units[n].count ∨ q = .down ∧ s.units[n].count = 0) ∧ s.recs[n].referenced = true ∨
          q = .illegal ∧ s.travel? n ≠ none ∧ s.units[n].illegal = 3 →
        ∃ t, exec (.encoderLevelAccepted n a b i) s = .next t ∧ s.EncoderFaulted t n ∧
          t.units[n].count = s.units[n].count ∧ t.units[n].heldA = a' ∧ t.units[n].heldB = b' ∧
          (q = .illegal → t.units[n].illegal = 4) ∧
          ∀ m : Ch, m ≠ n → t.units[m].sensed = s.units[m].sensed ∧ t.recs[m].marks = s.recs[m].marks)) ∧
    (k.mode = .single → s.units[n].accA = false → a' = true →
      (s.units[n].singleDir = some .opening ∧ 65535 ≤ s.units[n].count ∨
        s.units[n].singleDir = some .closing ∧ s.units[n].count = 0) →
      (s.recs[n].referenced = false →
        ∃ t, exec (.encoderLevelAccepted n a b i) s = .next t ∧
          t.kept = (s.setUnit n { s.units[n] with accA := true, accB := false }).kept) ∧
      (s.recs[n].referenced = true →
        ∃ t, exec (.encoderLevelAccepted n a b i) s = .next t ∧ s.EncoderFaulted t n ∧
          t.units[n].count = s.units[n].count))

/-- R9 to R11, R13, R14, R31: what an index event does; in RELOAD it sets the index-seen mark of a closing travel, and it
ends a RUNNING REFERENCE travel. R23: a travel has a target exactly where its kind is OPEN or REDUCE, the invariant
`State.TargetsOk` of O10, so that a closing travel that references ends on its stop. The index combination is met when it
was not before: the index level is accepted while the pair is at the phase, or a transition or edge brings the pair there
while the level is high, its step taken first; in SINGLE mode the A half alone is compared. -/
def Obligations.IndexEvents : Prop :=
  (∀ (k : ChanCfg) (a b i : Bool),
    k.indexMet a b i = true ↔ i = true ∧ a = k.phaseA ∧ (k.mode = .single ∨ b = k.phaseB)) ∧
  ∀ (n : Ch) (a b i : LineRun) (s : State) (k : ChanCfg) (a' b' hA hB : Bool) (c : Nat), s.chan? n = some k →
    s.TargetsOk → a' = debounce k.debounceUs s.units[n].accA a →
    b' = (if k.mode = .single then false else debounce k.debounceUs s.units[n].accB b) →
    k.indexMet s.units[n].accA s.units[n].accB s.units[n].accI = false →
    k.indexMet a' b' (debounce k.debounceUs s.units[n].accI i) = true →
    (k.mode ≠ .single ∧ a' = s.units[n].accA ∧ b' = s.units[n].accB ∧ hA = s.units[n].heldA ∧ hB = s.units[n].heldB ∧
        c = s.units[n].count ∨
      k.mode ≠ .single ∧ (a' ≠ s.units[n].accA ∨ b' ≠ s.units[n].accB) ∧ hA = a' ∧ hB = b' ∧
        (∃ q, q = (quadStep k.mode s.units[n].heldA s.units[n].heldB a' b').swapped k.swap ∧
          (q = .up ∧ s.units[n].count < 65535 ∧ c = s.units[n].count + 1 ∨
            q = .down ∧ 0 < s.units[n].count ∧ c = s.units[n].count - 1 ∨ q = .none ∧ c = s.units[n].count)) ∨
      k.mode = .single ∧ hA = s.units[n].heldA ∧ hB = s.units[n].heldB ∧
        ((s.units[n].accA = true ∨ a' = false ∨ s.units[n].singleDir = none) ∧ c = s.units[n].count ∨
          s.units[n].accA = false ∧ a' = true ∧
            (s.units[n].singleDir = some .opening ∧ s.units[n].count < 65535 ∧ c = s.units[n].count + 1 ∨
              s.units[n].singleDir = some .closing ∧ 0 < s.units[n].count ∧ c = s.units[n].count - 1))) →
    (k.indexMode = .off →
      ∃ t, exec (.encoderLevelAccepted n a b i) s = .next t ∧ t.kept = (s.setUnit n { s.units[n] with
        accA := a', accB := b', accI := true, heldA := hA, heldB := hB, count := c }).kept) ∧
    (k.indexMode = .reload ∨ k.indexMode = .check ∧ (s.recs[n].referenced = false ∨ s.referencing n = true) →
      ∃ t, exec (.encoderLevelAccepted n a b i) s = .next t ∧
        t.kept = ((s.setUnit n { s.units[n] with
          accA := a', accB := b', accI := true, heldA := hA, heldB := hB, count := k.c }).setRec n
          { s.recs[n] with referenced := true }).kept ∧
        (∀ x, s.stateOf n = .running x → x.kind = .reference → s.isLearnChannel n = false →
          t.TravelEnded n ∧ ∀ y, t.travel? n = some y → y.kind ≠ .reference) ∧
        (k.indexMode = .reload → s.recs[n].referenced = true → s.units[n].indexRecord ≠ none → s.reviewDue = false →
          s.evalDue = false → (∃ x, s.travel? n = some x ∧ x.target = none ∧ (x.kind = .close ∨
            (x.kind = .learnClose ∨ x.kind = .learnTimed) ∧ s.stateOf n = .running x)) → t.units[n].indexSeen = true)) ∧
    (k.indexMode = .check → s.recs[n].referenced = true → s.referencing n = false →
      (c ≤ k.c + k.indexTol ∧ k.c ≤ c + k.indexTol →
        ∃ t, exec (.encoderLevelAccepted n a b i) s = .next t ∧ t.kept = (s.setUnit n { s.units[n] with
          accA := a', accB := b', accI := true, heldA := hA, heldB := hB, count := c }).kept) ∧
      (¬(c ≤ k.c + k.indexTol ∧ k.c ≤ c + k.indexTol) →
        ∃ t, exec (.encoderLevelAccepted n a b i) s = .next t ∧ s.EncoderFaulted t n ∧ t.units[n].count = c))

/-! ### Drives and stops -/

/-- R7, R13, R15 to R17, R19, R20, R197: a drive energised while a dead time is owed waits in DEAD, and starts in RAMP
otherwise; a driven one that is turned stops and waits; one removed is OFF. What a drive start records
(`State.DriveStarted`), the unit's own timing, and its outputs, whose duty is that of the active profile, in 1/300 of a
percent. The 300 ms of a dead time, a ramp or a coast window may have run out once three ds steps have run since they began
(the model's choice: log entries 4 and 25). -/
def Obligations.DriveTiming : Prop :=
  (∀ (n : Ch) (d : Direction) (s : State), intervalOver s.units[n].deadTime = true → s.units[n].drive = .dead d →
    ∃ t, exec (.deadTimeEnd n) s = .next t ∧ s.DriveStarted t n d ∧ t.kept = s.kept ∧ t.recs = s.recs ∧ ∀ m : Ch, m ≠ n → t.units[m] = s.units[m]) ∧
  (∀ (n : Ch) (d d' : Direction) (s t : State) (new : ChState), t = s.setState n new → d ≠ d' →
    (new.driveDir? = some d → (s.stateOf n).driveDir? = none → s.units[n].drive = .off →
      (s.units[n].lastDir = some d' ∧ s.units[n].deadTime ≠ none → t.units[n] = { s.units[n] with drive := .dead d }) ∧
      (s.units[n].lastDir ≠ some d' ∨ s.units[n].deadTime = none → s.DriveStarted t n d)) ∧
    (new.driveDir? = some d → (s.stateOf n).driveDir? = some d' → s.units[n].drive.driven? = some d' →
      s.units[n].lastDir = some d' → t.units[n].drive = .dead d ∧ t.units[n].coast = some 0 ∧ t.units[n].deadTime = some 0 ∧
        t.units[n].overLimit = none ∧ t.units[n].watch = none) ∧
    (new.driveDir? = none → t.units[n].drive = .off ∧ (s.units[n].drive.driven? ≠ none →
      t.units[n].coast = some 0 ∧ t.units[n].deadTime = some 0))) ∧
  (∀ (n : Ch) (s : State), intervalOver s.units[n].deadTime = true → (∀ d, s.units[n].drive ≠ .dead d) →
    exec (.deadTimeEnd n) s = .next (s.setUnit n { s.units[n] with deadTime := none })) ∧
  (∀ (n : Ch) (d : Direction) (r : Nat) (s : State), s.units[n].drive = .ramp d r → 3 ≤ r →
    exec (.rampEnd n) s = .next (s.setUnit n { s.units[n] with drive := .full d })) ∧
  (∀ (n : Ch) (s : State), intervalOver s.units[n].coast = true →
    exec (.coastWindowClose n) s = .next (s.setUnit n { s.units[n] with coast := none })) ∧
  (∀ (n : Ch) (r : Fin 1024) (limit : Nat) (s : State), s.units[n].drive.driven? ≠ none → s.activeLimit? n = some limit →
    exec (.currentConversion n r) s = .next (s.setUnit n { s.units[n] with
      overLimit := if r.val ≤ limit then none else some (s.units[n].overLimit.getD 0) })) ∧
  ∀ (n : Ch) (s : State) (k : ChanCfg) (p : ProfileCfg), s.chan? n = some k →
    (∀ t, s.stateOf n = .running t → t.profile = .normal → p = k.normal) →
    (∀ t, s.stateOf n = .running t → t.profile = .storm → p = k.storm) →
    (∀ t e, s.stateOf n = .backing t e → p = k.normal) → (s.stateOf n).moving = true →
    s.activeLimit? n = some p.limit ∧ ∀ ms : Nat,
      (s.units[n].drive.driven? = none → s.bridge n ms = (0, 0)) ∧
      (∀ r, s.units[n].drive = .ramp .opening r → s.bridge n ms = (p.duty * min (100 * r + ms) 300, 0)) ∧
      (∀ r, s.units[n].drive = .ramp .closing r → s.bridge n ms = (0, p.duty * min (100 * r + ms) 300)) ∧
      (s.units[n].drive = .full .opening → s.bridge n ms = (p.duty * 300, 0)) ∧
      (s.units[n].drive = .full .closing → s.bridge n ms = (0, p.duty * 300))

/-- R31 to R36: an obstruction of a CLOSE or REFERENCE travel is backed off from while retries are left, straight to PAUSED
where there is nothing to back off, and faults the channel when none is left; a stall or overcurrent of the opening drive
ends the backing; a pause ends, and a travel that a request made or the need in force still asks for is resumed with its
retries raised, another is discarded. When a signal may arise, and that signals of one moment come as operands, is the
model's choice (log entries 4 and 14). -/
def Obligations.ObstructionOfClosing : Prop :=
  (∀ (c : Instr) (n : Ch) (sigs : List StopSignal) (s : State) (k : ChanCfg) (t : Travel), s.stopBy c n sigs →
    s.chan? n = some k → s.stateOf n = .running t → s.port.session = none →
    (t.kind = .close ∧ (.pinch ∈ sigs ∨ s.closed n = false) ∨ t.kind = .reference ∧ (.pinch ∈ sigs ∨ .overcurrent ∈ sigs)) →
    (t.retries < k.retries → 0 < k.reversal → s.units[n].count < 65535 →
      ∃ s' t', exec c s = .next s' ∧ s'.kept = s.kept ∧
        s'.stateOf n = .backing t' (min 65535 (s.units[n].count + k.reversal)) ∧ t'.kind = t.kind ∧ t'.retries = t.retries ∧
        s'.units[n].drive.dir? = some .opening) ∧
    (t.retries < k.retries → (k.reversal = 0 ∨ 65535 ≤ s.units[n].count) →
      ∃ s' t', exec c s = .next s' ∧ s'.kept = s.kept ∧ s'.stateOf n = .paused t' 50 ∧ t'.kind = t.kind ∧
        t'.retries = t.retries ∧ s'.units[n].drive = .off) ∧
    (k.retries ≤ t.retries →
      ∃ s', exec c s = .next s' ∧ s'.stateOf n = .faulted true false ∧ s'.kept = (s.beginCondition (.obstruction n)).kept ∧
        (s'.flag (.obstruction n)).condition = true)) ∧
  (∀ (c : Instr) (n : Ch) (sigs : List StopSignal) (s : State) (k : ChanCfg) (t : Travel) (e : Nat), s.stopBy c n sigs →
    s.chan? n = some k → s.stateOf n = .backing t e → s.isLearnChannel n = false → (t.kind = .close ∨ t.kind = .reference) →
    (.stall ∈ sigs ∨ .overcurrent ∈ sigs) →
    ∃ s' t', exec c s = .next s' ∧ s'.kept = s.kept ∧ s'.stateOf n = .paused t' 50 ∧ t'.kind = t.kind ∧
      t'.retries = t.retries ∧ s'.units[n].drive = .off) ∧
  (∀ (n : Ch) (s : State) (t : Travel), s.stateOf n = .paused t 0 →
    ∃ s', exec (.pauseExpiry n) s = .next s' ∧ s'.kept = s.kept ∧
      (t.origin.isRequest = true → (t.kind = .close ∨ t.kind = .reference) → t.target = none → s.port.session = none →
        ∃ t', s'.travel? n = some t' ∧ t'.kind = t.kind ∧ t'.retries = t.retries + 1) ∧
      (t.origin.isRequest = false → (t.kind = .close ∨ t.kind = .reference) → t.target = none → s.port.session = none →
        s.Judged →
        ((s.needOf n).asks t.kind s.recs[n].referenced = true →
          ∃ t', s'.travel? n = some t' ∧ t'.kind = t.kind ∧ t'.retries = t.retries + 1) ∧
        ((s.needOf n).asks t.kind s.recs[n].referenced = false → ∀ t', s'.travel? n = some t' → t'.retries = 0)) ∧
      ∀ t' l, s'.stateOf n ≠ .paused t' l)

/-- R31, R36: an obstruction of an OPEN or REDUCE travel raises OBSTRUCTION without its condition and discards the travel:
the channel goes to STILL, where a need may give it a new one. Any other stop of it, a stall or a closed-end stop, ends it
with no flag and no setting of the count. When a signal may arise is the model's choice (log entry 4). -/
def Obligations.ObstructionOfOpening : Prop :=
  ∀ (c : Instr) (n : Ch) (sigs : List StopSignal) (s : State) (k : ChanCfg) (t : Travel), s.stopBy c n sigs →
    s.chan? n = some k → s.stateOf n = .running t → (t.kind = .opn ∨ t.kind = .reduce) →
    ((.pinch ∈ sigs ∨ .overcurrent ∈ sigs ∧ (t.direction = .opening ∨ s.closed n = false)) →
      ∃ s', exec c s = .next s' ∧ s'.kept = (s.raise (.obstruction n)).kept ∧ (s'.flag (.obstruction n)).raised = true ∧
        (s'.flag (.obstruction n)).condition = (s.flag (.obstruction n)).condition ∧
        (s.isLearnChannel n = false → s'.TravelEnded n) ∧
        ∀ t', s'.travel? n = some t' → t'.kind ≠ .opn ∧ t'.origin.isNeed = true ∧ t'.retries = 0) ∧
    (¬(.pinch ∈ sigs ∨ .overcurrent ∈ sigs ∧ (t.direction = .opening ∨ s.closed n = false)) →
      ∃ s', exec c s = .next s' ∧ s'.kept = s.kept ∧ (s.isLearnChannel n = false → s'.TravelEnded n))

/-- R12, R13, R29, R31: a stall of a REFERENCE travel sets the count to C and references the channel; a stop of a CLOSE
travel in the closed-end zone completes it, the count set to C in index mode OFF; in RELOAD a closed-end stop of a CLOSE or
learn travel that has missed the index faults the channel. When a signal may arise is the model's choice (log entry 4). -/
def Obligations.StopsAtTheClosedEnd : Prop :=
  (∀ (s : State) (n : Ch) (k : ChanCfg) (t : Travel), s.indexMissing n k t = true ↔
    k.indexMode = .reload ∧ (t.kind = .close ∨ t.kind = .learnClose ∨ t.kind = .learnTimed) ∧ s.units[n].indexSeen = false ∧
      s.units[n].indexRecord = some { wasReferenced := true, wasAbove := true }) ∧
  ∀ (c : Instr) (n : Ch) (sigs : List StopSignal) (s : State) (k : ChanCfg) (t : Travel), s.stopBy c n sigs →
    s.chan? n = some k → s.stateOf n = .running t → .pinch ∉ sigs →
    (s.port.session = none → t.kind = .reference → .overcurrent ∉ sigs →
      ∃ s', exec c s = .next s' ∧ s'.stateOf n = .still ∧
        s'.kept = ((s.setUnit n { s.units[n] with count := k.c }).setRec n { s.recs[n] with referenced := true }).kept) ∧
    (s.port.session = none → t.kind = .close → s.closed n = true → s.indexMissing n k t = false →
      ∃ s', exec c s = .next s' ∧ s'.stateOf n = .still ∧
        s'.kept = (s.setUnit n { s.units[n] with count := if k.indexMode = .off then k.c else s.units[n].count }).kept) ∧
    (s.closed n = true → (t.kind = .learnClose → .stall ∉ sigs) → s.indexMissing n k t = true →
      ∃ s', exec c s = .next s' ∧ s.EncoderFaulted s' n ∧ s'.units[n].count = s.units[n].count ∧
        ∀ p, s.port.session = some p → p.channel = n → p.phase ≠ .storing → s'.port.session = none)

/-- R31, R197 to R200, R202: the end of LEARN-CLOSE creates LEARN-OPEN; at the open-end stall of LEARN-OPEN the span and the
NORMAL speed are measured; at the closed-end stop of LEARN-TIMED, by stall or overcurrent, the STORM speed is, and the range
check passes the run to the confirm, or ends the session with the refusal pattern; a learn obstruction ends the session and
raises nothing. Where no learn bar holds at the evaluator's latest review, and the review agrees with the inputs. When a
signal may arise (log entry 4), that of LEARN-CLOSE's stall and overcurrent in the zone the stall is taken (log entry 14), and
that a measure is held at 0 where it would be negative (log entry 23), is the model's choice. -/
def Obligations.LearnRunMeasures : Prop :=
  ∀ (c : Instr) (n : Ch) (sigs : List StopSignal) (s : State) (k : ChanCfg) (t : Travel) (p : Session), s.stopBy c n sigs →
    s.chan? n = some k → s.stateOf n = .running t → s.port.session = some p → p.channel = n → s.deciding = true →
    s.Judged → s.learnBar n = false →
    (t.kind = .learnClose → .pinch ∉ sigs → (s.closed n = true ∨ .overcurrent ∉ sigs) →
      (.stall ∈ sigs ∨ s.indexMissing n k t = false) →
      ∃ s' p' x, exec c s = .next s' ∧ s'.port.session = some p' ∧ p'.channel = n ∧ p'.phase = .opening ∧
        s'.travel? n = some x ∧ x.kind = .learnOpen ∧ x.direction = .opening ∧ x.band = 4 ∧ x.profile = .normal ∧
        x.origin = .learn ∧ x.retries = 0 ∧
        (.stall ∈ sigs → s'.kept =
          ((s.setUnit n { s.units[n] with count := k.c }).setRec n { s.recs[n] with referenced := true }).kept) ∧
        (.stall ∉ sigs → s'.kept = (s.setUnit n { s.units[n] with
          count := if k.indexMode = .off then k.c else s.units[n].count }).kept)) ∧
    (t.kind = .learnOpen → sigs = [.stall] → ∀ start from_, p.openingStart = some start → p.measureStart = some from_ →
      start < s.units[n].lastStepTime → from_ ≤ s.units[n].lastStepCount →
      ∃ s' p' x, exec c s = .next s' ∧ s'.port.session = some p' ∧ p'.channel = n ∧ p'.phase = .timedClosing ∧
        p'.measuredSpan = some (s.units[n].lastStepCount - k.c) ∧
        p'.openingTime = some (s.units[n].lastStepTime - start) ∧
        p'.normalSpeed = some ((s.units[n].lastStepCount - from_) * 10 / (s.units[n].lastStepTime - start)) ∧
        s'.travel? n = some x ∧ x.kind = .learnTimed ∧ x.profile = .storm ∧ s'.kept = s.kept) ∧
    (t.kind = .learnTimed → .pinch ∉ sigs → s.closed n = true → s.indexMissing n k t = false →
      ∀ start from_ span normal storm, p.timedStart = some start → p.measureStart = some from_ →
      start < s.units[n].lastStepTime → s.units[n].lastStepCount ≤ from_ → p.measuredSpan = some span →
      p.normalSpeed = some normal → storm = (from_ - s.units[n].lastStepCount) * 10 / (s.units[n].lastStepTime - start) →
      (200 ≤ span ∧ span ≤ 60000 ∧ k.c + span ≤ 65000 ∧ 1 ≤ normal ∧ normal ≤ 5000 ∧ 1 ≤ storm ∧ storm ≤ 5000 →
        ∃ s' p', exec c s = .next s' ∧ s'.port.session = some p' ∧ p'.phase = .awaitingConfirm ∧
          p'.stormSpeed = some storm ∧ p'.confirm = some 1200) ∧
      (¬(200 ≤ span ∧ span ≤ 60000 ∧ k.c + span ≤ 65000 ∧ 1 ≤ normal ∧ normal ≤ 5000 ∧ 1 ≤ storm ∧ storm ≤ 5000) →
        ∃ s', exec c s = .next s' ∧ s'.port.session = none ∧ s'.panel.refusal = some 0)) ∧
    (p.phase ≠ .storing → t.kind.isLearn = true →
      (.pinch ∈ sigs ∨ .overcurrent ∈ sigs ∧ (t.kind = .learnOpen ∨ s.closed n = false) ∨
        t.kind = .learnTimed ∧ s.closed n = false) →
      ∃ s', exec c s = .next s' ∧ s'.port.session = none ∧ s'.kept = s.kept ∧ ∀ o e, s'.stateOf n ≠ .faulted o e)

/-! ### Clock, supply, evaluator and arbiter timers -/

/-- R1: one ds step. Station time rises by 1 up to its greatest value, every timer and expiry has one ds less left, every time
that runs is one ds longer, and counts, marks, states, pool, flags, configuration and image stay as they are. That timers are
held as the ds left to them, that a step forces no expiry (log entry 3), and how long a dead time and a coast window can run
(log entry 25), is the model's choice. -/
def Obligations.StationTimeSteps : Prop :=
  ∀ s : State, ∃ t, exec .stationTimeStep s = .next t ∧ t.now = min (s.now + 1) 4294967295 ∧
    t.eval = { s.eval with timer := s.eval.timer.map (· - 1), reopen := s.eval.reopen.map (· - 1) } ∧
    t.arb.listening = s.arb.listening.map (· - 1) ∧ t.arb.drawTimer = s.arb.drawTimer.map (· - 1) ∧
    (∀ l, s.arb.supply = .recovering l → t.arb.supply = .recovering (l - 1)) ∧
    (∀ l, s.line.mode = .listenOnly l → t.line.mode = .listenOnly (l - 1)) ∧
    t.wind.window = s.wind.window.map (· - 1) ∧ t.wind.silence = s.wind.silence.map (· - 1) ∧
    t.handler.isolation = s.handler.isolation.map (· - 1) ∧ t.handler.overflow = s.handler.overflow.map (· - 1) ∧
    t.handler.refresh = s.handler.refresh.map (· - 1) ∧ t.handler.gustTimer = s.handler.gustTimer.map (· - 1) ∧
    t.panel.ackTimer = s.panel.ackTimer.map (· - 1) ∧ t.panel.learnTimer = s.panel.learnTimer.map (· - 1) ∧
    t.panel.refusal = s.panel.refusal.map (· + 1) ∧ t.panel.patternAge = s.panel.patternAge + 1 ∧
    t.port.session = s.port.session.map (fun p => { p with confirm := p.confirm.map (· - 1) }) ∧
    t.rain.onsetRun = s.rain.onsetRun.map (· + 1) ∧ t.rain.ceaseRun = s.rain.ceaseRun.map (· + 1) ∧
    t.rain.faultRun = s.rain.faultRun.map (· + 1) ∧ t.rain.inRangeRun = s.rain.inRangeRun.map (· + 1) ∧
    (∀ count least greatest sum since, s.rain.capture = .collecting count least greatest sum since →
      t.rain.capture = .collecting count least greatest sum (since + 1)) ∧
    (∀ l, s.rain.capture = .retryWait l → t.rain.capture = .retryWait (l - 1)) ∧
    t.vane.candidate = s.vane.candidate.map (fun c => (c.1, c.2 + 1)) ∧
    t.line.queue = s.line.queue.map (fun f => { f with age := f.age + 1 }) ∧
    t.handler.inHand = s.handler.inHand.map (fun f => { f with age := f.age + 1 }) ∧
    (∀ n : Ch, t.arb.holdOn[n] = s.arb.holdOn[n].map (· - 1) ∧
      t.handler.stateTimers[n] = s.handler.stateTimers[n].map (· - 1) ∧
      (∀ c l, s.stateOf n = .paused c l → t.stateOf n = .paused c (l - 1)) ∧
      ((∀ c l, s.stateOf n ≠ .paused c l) → t.stateOf n = s.stateOf n) ∧ t.recs[n].marks = s.recs[n].marks ∧
      t.units[n].sensed = s.units[n].sensed ∧ t.units[n].drive.dir? = s.units[n].drive.dir? ∧
      (∀ d r, s.units[n].drive = .ramp d r → t.units[n].drive = .ramp d (r + 1)) ∧
      ((∀ d r, s.units[n].drive ≠ .ramp d r) → t.units[n].drive = s.units[n].drive) ∧
      t.units[n].deadTime = s.units[n].deadTime.bind (fun r => if r < 3 then some (r + 1) else none) ∧
      t.units[n].coast = s.units[n].coast.bind (fun r => if r < 3 then some (r + 1) else none) ∧
      t.units[n].overLimit = s.units[n].overLimit.map (· + 1) ∧
      t.units[n].watch = s.units[n].watch.map (fun w => { sinceStart := w.sinceStart + 1, sinceStep := w.sinceStep + 1 })) ∧
    t.handler.peers.map (·.origin) = s.handler.peers.map (·.origin) ∧
    (∀ p ∈ t.handler.peers, ∃ q ∈ s.handler.peers, p.origin = q.origin ∧ p.lastHeard = q.lastHeard ∧ p.circuit = q.circuit ∧
      p.partLeft .claim = (q.partLeft .claim).map (· - 1) ∧ p.partLeft .waiting = (q.partLeft .waiting).map (· - 1) ∧
      p.partLeft .wetness = (q.partLeft .wetness).map (· - 1) ∧ p.partLeft .wind = (q.partLeft .wind).map (· - 1)) ∧
    t.pending = s.pending ∧ t.flags = s.flags ∧ t.line.waiting = s.line.waiting ∧ t.line.tx = s.line.tx ∧
    t.port.config = s.port.config ∧ t.port.image = s.port.image ∧ t.port.store = s.port.store ∧
    t.rain.state = s.rain.state ∧ t.rain.reference = s.rain.reference ∧ t.vane.sector = s.vane.sector

/-- R28, R96, R107, R184, R202: a low supply sets every moving channel aside with its travel, a backing with its retries
used raised by one, raises SUPPLY LOW and ends a learn session that is not storing; the review of these state changes leaves
a travel that its need or its request still asks for as it is. A high sample starts the recovery of 20 ds, at whose expiry
the supply is GOOD. That all this holds of a station without an address too is the model's choice (log entry 51). -/
def Obligations.SupplyFollowsMsgood : Prop :=
  (∀ s : State, s.arb.supply ≠ .low →
    ∃ t, exec .msgoodLow s = .next t ∧ t.arb.supply = .low ∧ (∀ n : Ch, (t.stateOf n).moving = false) ∧
      t.flag .supplyLow = { raised := true, condition := true } ∧ (∀ p, t.port.session = some p → p.phase = .storing) ∧
      t.kept = (((s.setSupply .low).setCondition .supplyLow true).raise .supplyLow).kept ∧
      ∀ (n : Ch) (x : Travel), s.isLearnChannel n = false → s.deciding = true → s.Judged →
        (s.needOf n = .none ∧ x.origin.isRequest = true ∧ (x.kind = .close ∨ x.kind = .reference) ∨
          s.needOf n = .close x.band x.origin ∧ x.kind = .close ∧ s.recs[n].referenced = true ∧
            (x.profile = .storm ∨ 3 ≤ x.band)) →
        (s.stateOf n = .running x → t.stateOf n = .yielded x) ∧
        ∀ e, s.stateOf n = .backing x e → t.stateOf n = .yielded { x with retries := x.retries + 1 }) ∧
  (∀ s : State, s.arb.supply ≠ .low → ∃ u : State, exec .msgoodLow s = .next u.finish ∧
    u = ((((s.setSupply .low).setCondition .supplyLow true).raise .supplyLow).eachChannel State.supplyYield).abortLearn ∧
    ∀ n : Ch, s.isLearnChannel n = false →
      u.stateOf n = match s.stateOf n with
        | .running x => .yielded x
        | .backing x _ => .yielded { x with retries := x.retries + 1 }
        | x => x) ∧
  (∀ s : State, s.arb.supply = .low → exec .msgoodLow s = .next s ∧
    exec .msgoodHigh s = .next { s with arb := { s.arb with supply := .recovering 20 } }) ∧
  (∀ s : State, s.arb.supply = .unset → ∃ t, exec .msgoodHigh s = .next t ∧ t.arb.supply = .recovering 20 ∧
    (t.flag .supplyLow).condition = true ∧ ∀ i : Fin 21, t.flags[i].raised = s.flags[i].raised) ∧
  ∀ s : State, s.arb.supply = .recovering 0 → ∃ t, exec .supplyRecoveryExpiry s = .next t ∧
    t.kept = ((s.setSupply .good).setCondition .supplyLow false).kept

/-- R39 to R42, R86, R93, R95, R96, R99: the review timer's expiry starts it again for 10 ds and makes a review, whose needs
act on the channels they reach (`State.NeedActed`): CLOSE, REDUCE or REFERENCE travels are made, replaced or given the
need's band, origin and target, and a waiting one that has lost its need is discarded; the reopen hold's expiry ends the
hold and makes a review, but none during a reread. That a command ends with the reviews and evaluations it starts is the
model's choice (log entry 8). -/
def Obligations.ReviewsRecomputeAndAct : Prop :=
  (∀ s : State, s.deciding = true → s.eval.timer = some 0 →
    ∃ t, exec .timedReview s = .next t ∧ t.Judged ∧ t.kept = { s with eval := { s.eval with timer := some 10 } }.kept ∧
      ∀ n : Ch, t.needReaches n = true → s.NeedActed t n) ∧
  (∀ (s : State) (n : Ch), s.needReaches n = true ↔ s.deciding = true ∧ s.fitted n = true ∧ s.isLearnChannel n = false ∧
    s.stateOf n ≠ .held ∧ ∀ o e, s.stateOf n ≠ .faulted o e) ∧
  (∀ s : State, s.deciding = true → s.eval.reopen = some 0 →
    ∃ t, exec .reopenHoldExpiry s = .next t ∧ t.Judged ∧ t.kept = s.kept ∧
      (s.eval.threat = false → t.eval.reopen = none)) ∧
  ∀ s : State, s.deciding = false → s.eval.reopen = some 0 →
    ∃ t, exec .reopenHoldExpiry s = .next t ∧ t.kept = s.kept ∧ t.eval = { s.eval with reopen := none }

/-- R100, R104, R109, R113, R115 to R118: the arbiter's timers, and the DRAW notice, its content and its hold. A DRAW is
submitted at the period's expiry while a travel exists, and wherever the content differs from the last: every command leaves
the last content in agreement with the state, and a content it has changed in the pool, if the pool has room; the change of
a channel's state that ends the last own travel submits the final DRAW, whether or not a DRAW has reported that travel. -/
def Obligations.ArbiterTimersAndDraws : Prop :=
  (∀ s : State, s.arb.listening = some 0 → ∃ t, exec .listeningIntervalEnd s = .next t ∧
    t.kept = { s with arb := { s.arb with listening := none } }.kept ∧
    (s.deciding = true → t = ({ s with arb := { s.arb with listening := none }, evalDue := true } : State).finish)) ∧
  (∀ (n : Ch) (s : State), s.arb.holdOn[n] = some 0 → (s.stateOf n).isRunning = true → s.deciding = true →
    exec (.holdOnExpiry n) s = .next
      ({ s with arb := { s.arb with holdOn := s.arb.holdOn.set n none }, evalDue := true } : State).finish) ∧
  (∀ (s : State) (c : RunCfg), s.arb.drawTimer = some 0 → s.port.config = some c → s.rereading = false →
    s.anyTravel = true →
    ∃ t, exec .drawPeriodExpiry s = .next t ∧ t.arb.lastDraw = s.drawContent c.circuit ∧ t.arb.drawTimer = some 100 ∧
      t.line = (s.submit (.draw (s.drawContent c.circuit) s.drawHold) s.drawRank).line ∧
      t = { s with line := t.line, arb := t.arb } ∧ 1 ≤ s.drawRank ∧ s.drawRank ≤ 7 ∧ s.drawHold ≤ 6000) ∧
  (∀ (s t : State) (c : RunCfg), s.port.config = some c → s.rereading = false → (∃ n : Ch, s.fitted n = true) →
    t = s.checkDraw →
    (s.drawContent c.circuit = s.arb.lastDraw → t = s) ∧
    (s.drawContent c.circuit ≠ s.arb.lastDraw → t.arb.lastDraw = s.drawContent c.circuit ∧
      t.arb.drawTimer = (if s.anyTravel = true then some 100 else none) ∧
      t.line = (s.submit (.draw (s.drawContent c.circuit) s.drawHold) s.drawRank).line ∧
      t = { s with line := t.line, arb := t.arb })) ∧
  (∀ (c : Instr) (s t : State), exec c s = .next t → s.DrawReported → t.DrawReported) ∧
  (∀ (c : Instr) (s t : State), exec c s = .next t → (∀ straps enc panel anem, c ≠ .fullReset straps enc panel anem) →
    (∀ bytes pins, c ≠ .configReadEnd bytes pins) → t.PoolHasRoom → t.arb.lastDraw ≠ s.arb.lastDraw →
    ∃ e ∈ t.line.waiting, ∃ hold, e.notice = .draw t.arb.lastDraw hold) ∧
  (∀ (s : State) (circuit : Nat) (x : DrawContent) (d : Ch → Nat), x = s.drawContent circuit →
    (∀ n : Ch, (s.chan? n = none ∨ (s.stateOf n).moving = false → d n = 0) ∧ ∀ k, s.chan? n = some k →
      (∀ t, s.stateOf n = .running t → d n = (k.profile t.profile).draw) ∧
      ∀ t e, s.stateOf n = .backing t e → d n = k.normal.draw) →
    x.circuit = circuit ∧ x.draw = d 0 + d 1 + d 2 + d 3 ∧
    x.waitCount = (channels.filter (fun n => (s.stateOf n).isCandidate)).length ∧
    ((∀ n : Ch, (s.stateOf n).moving = false) → x.runMost = 15 ∧ x.runLeast = 15) ∧
    ((∀ n : Ch, (s.stateOf n).isCandidate = false) → x.waitMost = 15) ∧
    (∀ (n : Ch) (t : Travel), s.travel? n = some t →
      ((s.stateOf n).moving = true → x.runMost ≤ t.band.val ∧ t.band.val ≤ x.runLeast ∧
        ∃ (m m' : Ch) (y y' : Travel), (s.stateOf m).moving = true ∧ s.travel? m = some y ∧ x.runMost = y.band.val ∧
          (s.stateOf m').moving = true ∧ s.travel? m' = some y' ∧ x.runLeast = y'.band.val) ∧
      ((s.stateOf n).isCandidate = true → x.waitMost ≤ t.band.val ∧
        ∃ (m : Ch) (y : Travel), (s.stateOf m).isCandidate = true ∧ s.travel? m = some y ∧ x.waitMost = y.band.val))) ∧
  (∀ (s : State) (r : Ch → Nat),
    (∀ n : Ch, (s.chan? n = none ∨ (s.stateOf n).moving = false → r n = 0) ∧
      ∀ (k : ChanCfg) (t : Travel) (x v d : Nat), s.chan? n = some k →
        (s.stateOf n = .running t ∧ v = (k.profile t.profile).speed ∧
            x = (if t.kind = .learnOpen then k.c + k.span
              else if t.kind = .opn ∨ t.kind = .reduce then t.target.getD k.c else k.c) ∨
          s.stateOf n = .backing t x ∧ v = k.normal.speed) →
        d = (if s.recs[n].referenced = true then (x - s.units[n].count) + (s.units[n].count - x) else k.span) →
        r n = (10 * d + v - 1) / v) →
    s.drawHold = if ∀ n : Ch, (s.stateOf n).moving = false then 50
      else min 6000 (2 * max (max (r 0) (r 1)) (max (r 2) (r 3)) + 50)) ∧
  ∀ (s t : State) (c : RunCfg) (n : Ch) (new : ChState), s.port.config = some c → s.rereading = false →
    s.fitted n = true → (s.travel? n).isSome = true → (∀ m : Ch, m ≠ n → s.travel? m = none) → new.travel? = none →
    t = s.setState n new →
    t.arb.lastDraw = { circuit := c.circuit, draw := 0, runMost := 15, runLeast := 15, waitMost := 15, waitCount := 0 } ∧
      t.arb.drawTimer = none ∧
      (s.port.ownAddress.isSome = true → s.line.poolSize + 2 ≤ Config.poolCapacity →
        ∃ e ∈ t.line.waiting, e.notice = .draw t.arb.lastDraw 0 ∧ e.rank = 7)

/-! ### Weather -/

/-- R61, R62, R65, R66, R154: the confirmed onset and the cease of a reading that completes no fault run, with the WETNESS
notice each submits: an onset of age 0 and the reading's intensity at rank 0, which enters a full pool over any less urgent
notice, and a cease at rank 9. That the state is judged before the capture at one reading is the model's choice (log entry
13). -/
def Obligations.RainStartsAndCeases : Prop :=
  ∀ (r : Fin 1024) (s : State) (c : RunCfg), s.port.config = some c → c.rainFitted = true → s.rereading = false →
    ¬(outOfRange r.val = true ∧ ∃ b, s.rain.faultRun = some b ∧ 50 ≤ b) →
    ((s.rain.state = some .capturing ∨ s.rain.state = some .dry) → s.rain.onsetThreshold c ≤ r.val →
      ∀ a, s.rain.onsetRun = some a → 10 * c.onsetConfirmS ≤ a →
      ∃ t, exec (.rainReading r) s = .next t ∧ t.rain.state = some .wet ∧ t.rain.wetTime = some s.now ∧
        t.rain.intensity = intensityOf (s.rain.onsetThreshold c) r.val ∧ t.rain.capture = .idle ∧
        t.rain.reference = s.rain.reference ∧ t.handler.refresh = some 600 ∧ t.Judged ∧ t.eval.threat = true ∧
        t.eval.arrival = some s.now ∧ t.flags = s.flags ∧ (∀ n : Ch, t.units[n].count = s.units[n].count) ∧
        (s.port.ownAddress.isSome = true → (s.line.poolSize < Config.poolCapacity ∨ ∃ e ∈ s.line.waiting, 0 < e.rank) →
          ∃ e ∈ t.line.waiting, e.notice = .wetness 0 0 (intensityOf (s.rain.onsetThreshold c) r.val) ∧ e.rank = 0)) ∧
    (s.rain.state = some .wet → s.rain.capture = .idle → r.val < s.rain.ceaseThreshold c →
      ∀ a, s.rain.ceaseRun = some a → 10 * c.dryHoldS ≤ a →
      ∃ t, exec (.rainReading r) s = .next t ∧
        t.rain.state = some (if s.rain.reference.isSome then .dry else .capturing) ∧ t.rain.intensity = 0 ∧
        t.rain.reference = s.rain.reference ∧ t.rain.wetTime = s.rain.wetTime ∧ t.handler.refresh = none ∧ t.Judged ∧
        t.flags = s.flags ∧
        (t.PoolHasRoom → ∀ w, s.rain.wetTime = some w →
          ∃ e ∈ t.line.waiting, e.notice = .wetness 2 (min 65535 (s.now - w)) 0 ∧ e.rank = 9))

/-- R59, R63, R64, R66, R184: the entry to FAULT, which counts as wet for this station, and the departure from it. That
the state is judged before the capture at one reading is the model's choice (log entry 13). -/
def Obligations.RainFaults : Prop :=
  ∀ (r : Fin 1024) (s : State) (c : RunCfg), s.port.config = some c → c.rainFitted = true → s.rereading = false →
    (s.rain.state ≠ none → s.rain.state ≠ some .fault → (r.val ≤ 2 ∨ 1021 ≤ r.val) →
      ∀ b, s.rain.faultRun = some b → 50 ≤ b →
      ∃ t, exec (.rainReading r) s = .next t ∧ t.rain.state = some .fault ∧ t.rain.intensity = 0 ∧ t.rain.capture = .idle ∧
        t.rain.reference = s.rain.reference ∧ t.rain.owed = s.rain.owed ∧
        t.rain.wetTime = (if s.rain.state = some .wet then s.rain.wetTime else some s.now) ∧
        t.handler.refresh = (if s.rain.state = some .wet then none else s.handler.refresh) ∧ t.Judged ∧
        t.eval.threat = true ∧ (t.flag .rainSensor).condition = true ∧
        ((s.flag .rainSensor).condition = false → (t.flag .rainSensor).raised = true)) ∧
    (s.rain.state = some .fault → s.rain.capture = .idle → 3 ≤ r.val → r.val ≤ 1020 →
      ∀ b, s.rain.inRangeRun = some b → 50 ≤ b →
      ∃ t, exec (.rainReading r) s = .next t ∧
        t.rain.state = some (if s.rain.reference.isSome then .dry else .capturing) ∧ t.rain.capture ≠ .idle ∧
        t.rain.owed = (s.rain.owed || s.rain.reference.isSome) ∧ t.Judged ∧ (t.flag .rainSensor).condition = false ∧
        (t.flag .rainSensor).raised = (s.flag .rainSensor).raised)

/-- R57, R58, R61: the dry reference capture. Its eighth reading below the wet floor is judged by the spread; a reading at or
above the floor fails it, also one at or above the onset threshold, which opens or keeps the onset run; a retry wait ends in
IDLE, and the capture starts again where it is still wanted. The reading a retry starts with is the model's choice (log entry
13). -/
def Obligations.CapturesReference : Prop :=
  (∀ (r : Fin 1024) (s : State) (c : RunCfg) (count least greatest sum since : Nat), s.port.config = some c →
    c.rainFitted = true → s.rereading = false → (s.rain.state = some .capturing ∨ s.rain.state = some .dry ∧ s.rain.owed = true) →
    3 ≤ r.val → r.val ≤ 1020 → r.val < s.rain.onsetThreshold c →
    s.rain.capture = .collecting count least greatest sum since → 10 ≤ since →
    (r.val < c.wetFloor → count = 7 → max greatest r.val - min least r.val ≤ 16 →
      ∃ t, exec (.rainReading r) s = .next t ∧ t.rain.reference = some ((sum + r.val) / 8) ∧ t.rain.state = some .dry ∧
        t.rain.owed = false ∧ t.rain.capture = .idle ∧ t.rain.onsetRun = none) ∧
    (r.val < c.wetFloor → count < 7 →
      ∃ t, exec (.rainReading r) s = .next t ∧ t.rain.state = s.rain.state ∧ t.rain.reference = s.rain.reference ∧
        t.rain.capture = .collecting (count + 1) (min least r.val) (max greatest r.val) (sum + r.val) 0) ∧
    (c.wetFloor ≤ r.val ∨ count = 7 ∧ 16 < max greatest r.val - min least r.val →
      ∃ t, exec (.rainReading r) s = .next t ∧ t.rain.state = s.rain.state ∧ t.rain.reference = s.rain.reference ∧
        t.rain.owed = s.rain.owed ∧ t.rain.capture = .retryWait 600)) ∧
  (∀ (r : Fin 1024) (s : State) (c : RunCfg) (count least greatest sum since : Nat), s.port.config = some c →
    c.rainFitted = true → s.rereading = false → (s.rain.state = some .capturing ∨ s.rain.state = some .dry ∧ s.rain.owed = true) →
    3 ≤ r.val → r.val ≤ 1020 → s.rain.onsetThreshold c ≤ r.val → c.wetFloor ≤ r.val → 1 ≤ c.onsetConfirmS →
    (∀ a, s.rain.onsetRun = some a → a < 10 * c.onsetConfirmS) →
    s.rain.capture = .collecting count least greatest sum since → 10 ≤ since →
    ∃ t, exec (.rainReading r) s = .next t ∧ t.rain.state = s.rain.state ∧ t.rain.reference = s.rain.reference ∧
      t.rain.owed = s.rain.owed ∧ t.rain.capture = .retryWait 600 ∧ t.rain.onsetRun = some (s.rain.onsetRun.getD 0) ∧
      t.flags = s.flags) ∧
  ∀ (s : State) (c : RunCfg), s.port.config = some c → c.rainFitted = true → s.rereading = false →
    s.rain.capture = .retryWait 0 →
    ∃ t, exec .captureRetryExpiry s = .next t ∧ t = { s with rain := { s.rain with capture := t.rain.capture } } ∧
      (s.rain.wantsCapture = false → t.rain.capture = .idle) ∧
      (s.rain.wantsCapture = true → s.rain.latestNow = false → t.rain.capture = .collecting 0 1023 0 0 10) ∧
      (s.rain.wantsCapture = true → s.rain.latestNow = true → ∀ x, s.rain.latest = some x →
        t.rain.capture = if c.wetFloor ≤ x then .retryWait 600 else .collecting 1 (min 1023 x) x x 0)

/-- R67, R70 to R72, R96, R154, R155: refreshes and periodic reports, a falling level, vane samples; a candidate held for 30 ds
becomes the accepted sector, and the report is handed anew, as at a window end: a review agrees with it. That a sample of the
same station time may come after the acceptance is the model's choice (log entry 40). -/
def Obligations.WeatherTimersAndSamples : Prop :=
  (∀ (s : State) (c : RunCfg), s.port.config = some c → c.anemFitted = true → s.wind.window = some 0 →
    ∃ t, exec .windowEnd s = .next t ∧
      (s.wind.excluded = false → s.rereading = false → t.Judged ∧
        (t.wind.assessment, t.vane.sector) ∈ t.windSources ∧ t.wind.assessment ≤ t.eval.v) ∧
      (s.wind.excluded = false → ∀ a d, s.handler.lastGust = some (a, d) →
        (t.wind.assessment < a + 10 ∧ a < t.wind.assessment + 10 ∧ d = s.vane.sector →
          t.handler.lastGust = some (a, d) ∧ t.handler.gustTimer = s.handler.gustTimer) ∧
        (a + 10 ≤ t.wind.assessment ∨ t.wind.assessment + 10 ≤ a ∨ d ≠ s.vane.sector →
          t.handler.lastGust = some (t.wind.assessment, s.vane.sector) ∧ t.handler.gustTimer = some 300)) ∧
      (s.wind.excluded = true → t.handler.lastGust = s.handler.lastGust) ∧ ∀ n : Ch, t.units[n].count = s.units[n].count) ∧
  ((∀ s : State, s.handler.refresh = some 0 → s.rain.state = some .wet →
    exec .wetnessRefreshExpiry s =
      .next ((s.submit (.wetness 1 (min 65535 (s.now - s.rain.wetTime.getD s.now)) s.rain.intensity) 9).setRefresh (some 600))) ∧
  (∀ s : State, s.handler.gustTimer = some 0 → s.reportOffered = true →
    ∃ t, exec .gustPeriodExpiry s = .next t ∧ t.handler.lastGust = some (s.wind.assessment, s.vane.sector) ∧
      t.handler.gustTimer = some 300 ∧
      t.line = (s.submit (.gust s.wind.assessment s.wind.lastSpeed s.vane.sector) 8).line ∧
      t = { s with line := t.line, handler := t.handler }) ∧
  (∀ (us : Nat) (s : State) (c : RunCfg), s.port.config = some c → c.anemFitted = true → s.wind.level = true → 1000 ≤ us →
    exec (.anemLevelFall us) s = .next { s with wind := { s.wind with level := false } }) ∧
  ∀ (v2 v1 v0 : Bool) (s : State) (c : RunCfg) (d : Nat), s.port.config = some c → c.vaneFitted = true →
    c.anemFitted = true → d = (rawSector v2 v1 v0 + c.vaneOffset) % 8 →
    ∃ t, exec (.vaneSample v2 v1 v0) s = .next t ∧ t = { s with vane := t.vane } ∧ t.vane.sector = s.vane.sector ∧
      t.vane.candidate = (if d = s.vane.sector then none else
        match s.vane.candidate with
        | some (x, age) => if x = d then some (x, age) else some (d, 0)
        | none => some (d, 0))) ∧
  (∀ (s : State) (c : RunCfg) (d age : Nat), s.port.config = some c → c.vaneFitted = true → c.anemFitted = true →
    s.vane.candidate = some (d, age) → 30 ≤ age →
    ∃ t, exec .sectorAccepted s = .next t ∧ t.vane = { sector := d, candidate := none } ∧ t.wind = s.wind ∧
      (s.wind.excluded = false → s.rereading = false → t.Judged) ∧
      (s.wind.excluded = false → ∀ a x, s.handler.lastGust = some (a, x) → x ≠ d →
        t.handler.lastGust = some (s.wind.assessment, d) ∧ t.handler.gustTimer = some 300) ∧
      (s.wind.excluded = true → t.handler.lastGust = s.handler.lastGust))

/-- R67, R72, R73, R155: an accepted pulse counts, starts the silence anew and ends an exclusion; 6000 ds of silence while a
peer reports wind exclude the anemometer, and the report is withdrawn. -/
def Obligations.SilentAnemometerIsExcluded : Prop :=
  (∀ (us : Nat) (s : State) (c : RunCfg), s.port.config = some c → c.anemFitted = true → s.wind.level = false → 1000 ≤ us →
    ∃ t, exec (.anemPulse us) s = .next t ∧ t.wind.count = min 65535 (s.wind.count + 1) ∧ t.wind.level = true ∧
      t.wind.silence = some 6000 ∧ t.wind.silencePassed = false ∧ t.wind.excluded = false ∧
      t.wind.peak = s.wind.peak ∧ t.wind.gusts = s.wind.gusts ∧
      (s.wind.excluded = false → t = { s with wind := t.wind }) ∧
      (s.wind.excluded = true → (t.flag .windSensor).condition = false ∧
        (t.flag .windSensor).raised = (s.flag .windSensor).raised ∧
        t.handler.lastGust = some (s.wind.assessment, s.vane.sector) ∧ t.handler.gustTimer = some 300 ∧
        (s.rereading = false → t.Judged))) ∧
  ∀ (s : State) (c : RunCfg), s.port.config = some c → c.anemFitted = true → s.wind.silence = some 0 →
    ∃ t, exec .anemSilenceExpiry s = .next t ∧ t.wind.silence = none ∧ t.wind.silencePassed = true ∧
      t.wind.excluded = (s.wind.excluded || s.peerWindy) ∧
      (s.wind.excluded = false → s.peerWindy = true → (t.flag .windSensor).condition = true ∧
        ((s.flag .windSensor).condition = false → (t.flag .windSensor).raised = true) ∧ t.handler.lastGust = none ∧
        t.handler.gustTimer = none ∧ t.reportOffered = false ∧ (s.rereading = false → t.Judged)) ∧
      (s.wind.excluded = true ∨ s.peerWindy = false → t.flags = s.flags ∧ t.handler.lastGust = s.handler.lastGust)

/-- R68, R69: the window end and the minute end. The last window speed is 0 at reset, and nothing but a window end and a full
reset, which makes it 0, changes it. -/
def Obligations.WindowEndsFillTheGustRecord : Prop :=
  (State.reset.wind.lastSpeed = 0 ∧ ∀ (c : Instr) (s t : State), exec c s = .next t →
    t.wind.lastSpeed = s.wind.lastSpeed ∨ c = .windowEnd ∨
      ((∃ straps enc panel anem, c = .fullReset straps enc panel anem) ∧ t.wind.lastSpeed = 0)) ∧
  ∀ (s : State) (c : RunCfg) (v : Nat), s.port.config = some c → c.anemFitted = true → s.wind.window = some 0 →
    v = min 600 (s.wind.count * c.k / 3) →
    ∃ t, exec .windowEnd s = .next t ∧ t.wind.lastSpeed = v ∧ t.wind.count = 0 ∧ t.wind.window = some 30 ∧
      (s.wind.done + 1 ≠ 20 → t.wind.peak = max s.wind.peak v ∧ t.wind.done = s.wind.done + 1 ∧ t.wind.gusts = s.wind.gusts) ∧
      (s.wind.done + 1 = 20 → t.wind.peak = 0 ∧ t.wind.done = 0 ∧
        t.wind.gusts = (if s.wind.gusts.length < 5 then s.wind.gusts else s.wind.gusts.drop 1) ++ [max s.wind.peak v]) ∧
      t.wind.level = s.wind.level ∧ t.wind.silence = s.wind.silence ∧ t.wind.silencePassed = s.wind.silencePassed ∧
      t.wind.excluded = s.wind.excluded ∧ t.vane = s.vane ∧ t.rain = s.rain ∧ t.flags = s.flags

/-! ### Line controller -/

/-- R122, R124, R130 to R133, R137, R139: the transmitter and the receiver, bit time by bit time and at the events of the line,
and what the pins drive. The end of a dominant hold counts a failure; the sixteenth makes the mode LISTEN-ONLY for 600 ds and
raises LINE FAULT, whose condition ends at the expiry, where a flag that has been acknowledged clears. The line status around a
bit error and the pins in the rest of its bit time (log entry 20), that a bit time is a step on an empty queue (log entry 2),
and that acknowledged means at an earlier station time than the expiry (log entry 42), is the model's choice. -/
def Obligations.TransmitterFollowsTheLine : Prop :=
  ((∀ (s : State) (a : Nat) (e : PoolEntry) (w : List PoolEntry), s.port.ownAddress = some a → s.line.tx = .notSending →
    s.line.waiting = e :: w → s.line.idle = true → s.line.mode = .normal →
    exec .transmissionStart s = .next { s with line := { s.line with
      tx := .sending e (frameBits e.rank a e.notice.kind e.notice.payload) 0, waiting := w } }) ∧
  (∀ s : State, s.line.tx = .notSending → s.bitTime = s ∧ s.line.tx.dominant = false) ∧
  (∀ (s : State) (e : PoolEntry) (frame : List Bool) (k : Nat), s.line.tx = .sending e frame k →
    s.bitTime = { s with line := { s.line with
      tx := .sending e frame (min frame.length (k + 1)), idle := (if k = 1 then false else s.line.idle) } } ∧
    (s.line.tx.dominant = true ↔ ∃ pos, k = pos + 1 ∧ frame[pos]? = some false) ∧
    (k = frame.length → exec .frameSuccess s = .next { s with line := { s.line with tx := .notSending, failures := 0 } }) ∧
    (k ≠ frame.length → exec .frameSuccess s = .next s) ∧
    (1 ≤ k → exec .startBitFromAnotherStation s = .next s) ∧
    (∀ pos, k ≠ pos + 1 → exec (.arbitrationLoss pos) s = .next s ∧ exec (.bitError pos) s = .next s) ∧
    ∀ (a : Nat), s.port.ownAddress = some a →
      (k = 0 → s.line.idle = true → exec .startBitFromAnotherStation s = .next { s with line := { s.line with
        idle := false, receiving := true, tx := .notSending, waiting := poolReturn e s.line.waiting } }) ∧
      (∀ pos sent, k = pos + 1 → frame[pos]? = some sent →
        (1 ≤ pos → pos < arbitrationEnd e.rank a → sent = true →
          exec (.arbitrationLoss pos) s = .next { s with line := { s.line with
            tx := .notSending, receiving := true, idle := false, waiting := poolReturn e s.line.waiting } }) ∧
        (pos = 0 ∨ arbitrationEnd e.rank a ≤ pos ∨ sent = false →
          exec (.bitError pos) s = .next { s with line := { s.line with
            tx := .holding e 0, receiving := false, idle := (if sent = true then false else s.line.idle) } }))) ∧
  (∀ (s : State) (a : Nat), s.port.ownAddress = some a →
    exec .lineIdle s = .next { s with line := { s.line with idle := true } } ∧
    (s.line.tx = .notSending → s.line.idle = true → exec .startBitFromAnotherStation s =
      .next { s with line := { s.line with idle := false, receiving := true } })) ∧
  ∀ (bits : List Bool) (s : State) (f : FrameFault), receive bits = .fault f →
    exec (.frameAbandoned bits) s = .next { s with line := { s.line with receiving := false } }) ∧
  ((∀ (heard : Bool) (s : State) (e : PoolEntry) (k : Nat), s.line.tx = .holding e k →
    s.bitTime = { s with line := { s.line with tx := .holding e (min 8 (k + 1)) } } ∧
    (s.line.tx.dominant = true ↔ 1 ≤ k) ∧ (k < 8 → exec (.bitErrorHoldEnd heard) s = .next s)) ∧
  (∀ (heard : Bool) (s : State) (e : PoolEntry), s.line.tx = .holding e 8 → s.line.mode = .normal → s.line.failures < 16 →
    ∃ t, exec (.bitErrorHoldEnd heard) s = .next t ∧ t.line.tx = .notSending ∧ t.line.failures = s.line.failures + 1 ∧
      t.line.idle = (if heard = true then false else s.line.idle) ∧
      (s.line.failures < 15 → t.line.mode = .normal ∧ t.line.waiting = poolReturn e s.line.waiting ∧
        t = { s with line := t.line }) ∧
      (s.line.failures = 15 → t.line.mode = .listenOnly 600 ∧ (t.flag .lineFault).condition = true ∧
        ((s.flag .lineFault).condition = false → (t.flag .lineFault).raised = true))) ∧
  (∀ s : State, s.faultAcked = true ↔ ∃ a, s.line.faultAck = some a ∧ a < s.now) ∧
  ∀ (s u : State), s.line.mode = .listenOnly 0 →
    u = s.setLine { s.line with mode := .normal, failures := 0, faultAck := none } →
    ∃ t, exec .listenOnlyExpiry s = .next t ∧ t.line.mode = .normal ∧ t.line.failures = 0 ∧ t.line.faultAck = none ∧
      t.flag .lineFault = { raised := (s.flag .lineFault).raised && !s.faultAcked, condition := false } ∧
      t.kept = (u.setFlag FlagId.lineFault.index (t.flag .lineFault)).kept ∧
      ((s.flag .lineFault).raised = true → s.faultAcked = true →
        s.endLineFault.line = { (s.submit (.alarm 6 0 false) 10).line with faultAck := none }))

/-- R133 to R135, R144, R157, R159: a valid frame of another origin ends isolation and sets its timer, and is taken by the
handler or joins the queue while there is room; one of the own origin makes the mode CLASHED and is discarded. The frame
the handler has taken is held in hand (the model's choice, log entry 19). -/
def Obligations.FramesArrive : Prop :=
  ∀ (bits : List Bool) (s : State) (a origin kind : Nat) (payload : List Byte), s.port.ownAddress = some a →
    s.line.tx = .notSending → s.line.receiving = true → receive bits = .frame origin kind payload →
    (origin = a → ∃ t, exec (.frameArrival bits) s = .next t ∧ t.line.mode = .clashed ∧ t.line.queue = s.line.queue ∧
      t.line.faultAck = none ∧
      t.handler.inHand = s.handler.inHand ∧ t.handler.isolated = s.handler.isolated ∧
      (t.flag .addressClash).condition = true ∧
      ((s.flag .addressClash).condition = false → (t.flag .addressClash).raised = true) ∧
      (s.line.mode ≠ .normal → (t.flag .lineFault).condition = false)) ∧
    (origin ≠ a → ∀ f : RxFrame, f = { origin := origin, kind := kind, payload := payload, receipt := s.now, age := 0 } →
      ∃ t, exec (.frameArrival bits) s = .next t ∧ t.line.mode = s.line.mode ∧
        (s.handler.inHand = none → s.filing = true → t.handler.inHand = some f ∧ t.line.queue = s.line.queue) ∧
        ((s.handler.inHand ≠ none ∨ s.filing = false) → t.handler.inHand = s.handler.inHand ∧
          t.line.queue = if s.line.queue.length < 6 then s.line.queue ++ [f] else s.line.queue) ∧
        ∀ c, s.port.config = some c → t.handler.isolated = false ∧ t.handler.isolation = some (10 * c.isolationS) ∧
          (s.handler.isolated = true → (t.flag .isolation).condition = false ∧
            (t.flag .isolation).raised = (s.flag .isolation).raised ∧ (s.rereading = false → t.Judged)))

/-- R45, R157, R158, R160, R202: the isolation expiry. -/
def Obligations.IsolationBegins : Prop :=
  ∀ (s : State) (c : RunCfg), s.port.config = some c → s.handler.isolated = false → s.handler.isolation = some 0 →
    ∃ t, exec .isolationExpiry s = .next t ∧ t.handler.isolated = true ∧ t.handler.isolation = none ∧
      t.handler.peers = s.handler.peers ∧ (t.flag .isolation).condition = true ∧
      ((s.flag .isolation).condition = false → (t.flag .isolation).raised = true) ∧
      (s.rereading = false → t.Judged) ∧
      (c.policyClose = true → (∀ (n : Ch) (x : Travel), t.travel? n = some x → x.kind ≠ .opn) ∧
        ∀ p, t.port.session = some p → p.phase = .storing)

/-! ### Peer table -/

/-- R81, R145, R146, R150 to R152: a WETNESS, GUST or DRAW that passes its checks is filed into the entry of its origin,
which it creates where there is room and it gives a part. The next frame is then taken in hand (the model's choice, log
entry 19). -/
def Obligations.NoticesAreFiled : Prop :=
  ∀ (s : State) (f : RxFrame) (p : PeerEntry), s.handler.inHand = some f →
    (peerFind f.origin s.handler.peers = some p ∨
      peerFind f.origin s.handler.peers = none ∧ s.handler.peers.length < 48 ∧
        p = { origin := f.origin, lastHeard := f.receipt, circuit := none, claim := none, waiting := none, wetness := none,
              wind := none }) →
    (∀ w, f.kind = 1 → wetnessFields f.payload = some w → w.phase ≤ 1 →
      ∃ t, exec .fileWetness s = .next t ∧ t.handler.inHand = s.line.queue.head? ∧ t.line.queue = s.line.queue.tail ∧
        (s.deciding = true → t.Judged) ∧ (∀ o, o ≠ f.origin → peerFind o t.handler.peers = peerFind o s.handler.peers) ∧
        peerFind f.origin t.handler.peers = some { p with
          lastHeard := f.receipt, wetness := some { onset := f.receipt - w.age, left := 2000 - f.age } }) ∧
    (∀ w, f.kind = 1 → wetnessFields f.payload = some w → w.phase = 2 →
      ∃ t, exec .fileWetness s = .next t ∧ t.handler.inHand = s.line.queue.head? ∧
        (∀ o, o ≠ f.origin → peerFind o t.handler.peers = peerFind o s.handler.peers) ∧
        peerFind f.origin t.handler.peers = (peerFind f.origin s.handler.peers).map (fun q =>
          { q with lastHeard := f.receipt, wetness := none })) ∧
    (∀ g, f.kind = 2 → gustFields f.payload = some g →
      ∃ t, exec .fileGust s = .next t ∧ t.handler.inHand = s.line.queue.head? ∧ (s.deciding = true → t.Judged) ∧
        (∀ o, o ≠ f.origin → peerFind o t.handler.peers = peerFind o s.handler.peers) ∧
        peerFind f.origin t.handler.peers = some { p with
          lastHeard := f.receipt
          wind := some { assessment := g.assessment, sector := g.sector, left := 1800 - f.age } }) ∧
    ∀ d, f.kind = 3 → drawFields f.payload = some d →
      (peerFind f.origin s.handler.peers ≠ none ∨ 0 < d.draw ∧ f.age < d.hold ∨ d.waitMost ≠ none) →
      ∃ t, exec .fileDraw s = .next t ∧ t.handler.inHand = s.line.queue.head? ∧
        (∀ o, o ≠ f.origin → peerFind o t.handler.peers = peerFind o s.handler.peers) ∧
        peerFind f.origin t.handler.peers = some { p with
          lastHeard := f.receipt, circuit := some d.circuit
          claim := (if 0 < d.draw ∧ f.age < d.hold then
            some { draw := d.draw, least := d.runLeast, left := d.hold - f.age } else none)
          waiting := d.waitMost.map (fun b => { band := b, left := 250 - f.age }) }

/-- R146, R148, R149: in a full table the entry without a live part that was heard earliest, and of these the one of lowest
origin, gives way to the entry of a notice that gives a part; where every entry has a live part such a notice, WETNESS, GUST or
DRAW, is ignored and PEER OVERFLOW is raised for 600 ds. -/
def Obligations.FullTableEvicts : Prop :=
  (∀ (own : Option Nat) (l : List PeerEntry) (p : PeerEntry), (l.map (·.origin)).Pairwise (· < ·) →
    (evictee own l = some p ↔ p ∈ l ∧ p.hasLive own = false ∧ ∀ q ∈ l, q.hasLive own = false →
      p.lastHeard < q.lastHeard ∨ p.lastHeard = q.lastHeard ∧ p.origin ≤ q.origin)) ∧
  (∀ (c : Instr) (s : State) (f : RxFrame) (p e : PeerEntry), s.handler.inHand = some f →
    peerFind f.origin s.handler.peers = none → 48 ≤ s.handler.peers.length → evictee s.circuit? s.handler.peers = some p →
    (c = .fileWetness ∧ f.kind = 1 ∧ (∃ w, wetnessFields f.payload = some w ∧ w.phase ≤ 1 ∧
        e = { PeerEntry.fresh f.origin f.receipt with
          wetness := some { onset := f.receipt - w.age, left := 2000 - f.age } }) ∨
      c = .fileGust ∧ f.kind = 2 ∧ (∃ g, gustFields f.payload = some g ∧
        e = { PeerEntry.fresh f.origin f.receipt with
          wind := some { assessment := g.assessment, sector := g.sector, left := 1800 - f.age } }) ∨
      c = .fileDraw ∧ f.kind = 3 ∧ (∃ d, drawFields f.payload = some d ∧
        (0 < d.draw ∧ f.age < d.hold ∨ d.waitMost ≠ none) ∧
        e = { PeerEntry.fresh f.origin f.receipt with
          circuit := some d.circuit
          claim := (if 0 < d.draw ∧ f.age < d.hold then
            some { draw := d.draw, least := d.runLeast, left := d.hold - f.age } else none)
          waiting := d.waitMost.map (fun b => { band := b, left := 250 - f.age }) })) →
    ∃ t, exec c s = .next t ∧ peerFind p.origin t.handler.peers = none ∧ peerFind f.origin t.handler.peers = some e ∧
      (∀ o, o ≠ f.origin → o ≠ p.origin → peerFind o t.handler.peers = peerFind o s.handler.peers) ∧
      t.handler.inHand = s.line.queue.head? ∧ t.handler.lastOverflow = s.handler.lastOverflow ∧
      t.handler.overflow = s.handler.overflow) ∧
  ∀ (c : Instr) (s : State) (f : RxFrame), s.handler.inHand = some f →
    (c = .fileWetness ∧ f.kind = 1 ∧ (∃ w, wetnessFields f.payload = some w ∧ w.phase ≤ 1) ∨
      c = .fileGust ∧ f.kind = 2 ∧ gustFields f.payload ≠ none ∨
      c = .fileDraw ∧ f.kind = 3 ∧
        ∃ d, drawFields f.payload = some d ∧ (0 < d.draw ∧ f.age < d.hold ∨ d.waitMost ≠ none)) →
    peerFind f.origin s.handler.peers = none → 48 ≤ s.handler.peers.length →
    (∀ p ∈ s.handler.peers, p.hasLive s.circuit? = true) →
    ∃ t, exec c s = .next t ∧ t.handler.peers = s.handler.peers ∧ t.handler.lastOverflow = some s.now ∧
      t.handler.overflow = some 600 ∧ t.flag .peerOverflow = { raised := true, condition := true } ∧
      t.handler.inHand = s.line.queue.head?

/-- R55, R146, R149, R153, R156, R161: notices that are not filed leave no trace; a part leaves its entry at its expiry and
the entry stays; the overflow condition ends; a STATE is sent anew at its period. Every command leaves the last STATE
content in agreement with the view in all fields but the position percent, and a content it has changed in the pool, if the
pool has room, with the period timer started; the view's fields are those of R55. -/
def Obligations.HandlerTimersAndStates : Prop :=
  (∀ (s : State) (f : RxFrame), s.handler.inHand = some f →
    (f.kind = 4 ∨ f.kind = 5 ∨ f.kind = 6 ∧ s.obeyed f = none) →
    exec .noticeNotFiled s = .next { s with
      handler := { s.handler with inHand := s.line.queue.head? }, line := { s.line with queue := s.line.queue.tail } }) ∧
  (∀ (origin : Nat) (part : PartKind) (s : State) (p : PeerEntry), peerFind origin s.handler.peers = some p →
    p.partLeft part = some 0 →
    ∃ t, exec (.partExpiry origin part) s = .next t ∧ peerFind origin t.handler.peers = some (p.dropPart part) ∧
      (∀ o, o ≠ origin → peerFind o t.handler.peers = peerFind o s.handler.peers) ∧
      (s.deciding = true → (part = .wetness ∨ part = .wind) → t.Judged) ∧ t.flags = s.flags) ∧
  (∀ s : State, s.handler.overflow = some 0 → ∃ t, exec .overflowConditionEnd s = .next t ∧ t.handler.overflow = none ∧
    t.flag .peerOverflow = { s.flag .peerOverflow with condition := false } ∧
    ∀ i : Fin 21, i ≠ 18 → t.flags[i] = s.flags[i]) ∧
  (∀ (n : Ch) (s : State), s.handler.stateTimers[n] = some 0 →
    ∃ t, exec (.statePeriodExpiry n) s = .next t ∧ t.handler.stateTimers[n] = some 3000 ∧
      t.handler.lastState[n] = s.view n ∧ t.line = (s.submit (.state n (s.view n)) 12).line ∧
      t = { s with line := t.line, handler := t.handler }) ∧
  (∀ (c : Instr) (s t : State), exec c s = .next t → s.ViewsReported → t.ViewsReported) ∧
  (∀ (c : Instr) (s t : State) (n : Ch), exec c s = .next t →
    (∀ straps enc panel anem, c ≠ .fullReset straps enc panel anem) → c ≠ .warmRestart → t.PoolHasRoom →
    t.handler.lastState[n] ≠ s.handler.lastState[n] →
    (∃ e ∈ t.line.waiting, e.notice = .state n t.handler.lastState[n] ∧ e.rank = 12) ∧
      t.handler.stateTimers[n] = some 3000) ∧
  ∀ (s : State) (n : Ch) (v : View), v = s.view n →
    (v.state = 0 ↔ s.stateOf n = .still) ∧ (v.state = 1 ↔ ∃ t, s.stateOf n = .waiting t) ∧
    (v.state = 2 ↔ ∃ t, s.stateOf n = .running t) ∧ (v.state = 3 ↔ ∃ t e, s.stateOf n = .backing t e) ∧
    (v.state = 4 ↔ ∃ t l, s.stateOf n = .paused t l) ∧ (v.state = 5 ↔ ∃ t, s.stateOf n = .yielded t) ∧
    (v.state = 6 ↔ s.stateOf n = .held) ∧ (v.state = 7 ↔ ∃ o e, s.stateOf n = .faulted o e) ∧
    (s.fitted n = false ∨ s.recs[n].referenced = false → v.position = 255) ∧
    (∀ k, s.chan? n = some k → s.recs[n].referenced = true →
      (s.units[n].count < k.c → v.position = 0) ∧ (k.c + k.span < s.units[n].count → v.position = 100) ∧
      (k.c ≤ s.units[n].count → s.units[n].count ≤ k.c + k.span →
        v.position = (s.units[n].count - k.c) * 100 / k.span)) ∧
    (s.travel? n = none → v.target = 255 ∧ v.band = 15) ∧
    (∀ t, s.travel? n = some t → v.band = t.band.val ∧ (t.kind = .learnOpen → v.target = 100) ∧
      (t.kind = .close ∨ t.kind = .reference ∨ t.kind = .learnClose ∨ t.kind = .learnTimed → v.target = 0) ∧
      ∀ k x, s.chan? n = some k → t.target = some x → (t.kind = .opn ∨ t.kind = .reduce) → k.c ≤ x → x ≤ k.c + k.span →
        v.target = (x - k.c) * 100 / k.span) ∧
    v.referenced = s.recs[n].referenced ∧ v.consoleHold = s.recs[n].consoleHold ∧ v.refusal = s.recs[n].refusal.code

/-! ### Console -/

/-- R46 to R50, R156, R162: a channel action is judged on each channel of its mask, the reason is kept there, and an action
accepted is carried out on the channel's travel, in whatever state it stands; a HOLD or RELEASE that is accepted sets or
clears the console-hold flag; the other channels' marks are left alone. -/
def Obligations.ChannelActionsAreJudged : Prop :=
  ∀ (c : Instr) (s : State) (o : Order) (r : Request), s.requestBy c o r →
    ∃ t, exec c s = .next t ∧ t.handler.inHand = s.line.queue.head? ∧ t.line.queue = s.line.queue.tail ∧ t.flags = s.flags ∧
      ∀ n : Ch, t.units[n].count = s.units[n].count ∧ t.recs[n].referenced = s.recs[n].referenced ∧
        (o.mask.testBit n.val = true → t.recs[n].refusal = s.judge n r ∧ t.handler.stateTimers[n] = some 3000 ∧
          t.recs[n].consoleHold =
            (if r = .hold ∧ s.judge n r = .accepted then true
             else if r = .release ∧ s.judge n r = .accepted then false else s.recs[n].consoleHold) ∧
          (s.judge n r = .accepted → s.deciding = true → s.Judged → s.CarriedOut t n .console r)) ∧
        (o.mask.testBit n.val = false → t.recs[n].marks = s.recs[n].marks)

/-- R30, R46 to R49: what an accepted request does to the channel's travel, in every state of it, and when a request is
accepted. That a REFERENCE travel made by a CLOSE request with no need published has band 4 and origin START is the model's
choice (log entry 46). -/
def Obligations.RequestsAreJudgedAndCarriedOut : Prop :=
  (∀ (s : State) (n : Ch) (k : ChanCfg) (o : Origin), s.chan? n = some k →
    (∀ (p x : Nat) (d : Direction), x = min (k.c + k.span * p / 100) (k.c + s.eval.chans[n].ceiling) →
      d = (if s.units[n].count < x then .opening else .closing) →
      (s.units[n].count = x → (s.openRequest n p o).stateOf n = .still) ∧
      (s.units[n].count ≠ x → (∀ t, s.stateOf n = .running t → t.kind = .opn → t.direction ≠ d) →
        (s.openRequest n p o).stateOf n = .waiting
          { kind := .opn, target := some x, direction := d, origin := o, band := 5, profile := .normal, retries := 0
            admission := none })) ∧
    (∀ (p x : Nat) (t : Travel), s.stateOf n = .running t → t.kind = .opn →
      x = min (k.c + k.span * p / 100) (k.c + s.eval.chans[n].ceiling) →
      (t.direction = .opening ∧ s.units[n].count < x ∨ t.direction = .closing ∧ x < s.units[n].count) →
      (s.openRequest n p o).stateOf n = .running { t with target := some x, origin := o }) ∧
    (s.travel? n = none →
      (s.recs[n].referenced = true → s.closed n = true → s.closeRequest n o = s) ∧
      (s.recs[n].referenced = true → s.closed n = false → (s.closeRequest n o).stateOf n = .waiting
        { kind := .close, target := none, direction := .closing, origin := o, band := 4, profile := .normal, retries := 0
          admission := none }) ∧
      (s.recs[n].referenced = false → ∃ t, (s.closeRequest n o).stateOf n = .waiting t ∧ t.kind = .reference ∧
        t.direction = .closing ∧ (s.needOf n = .none → t.band = 4 ∧ t.origin = .start))) ∧
    (∀ t, s.travel? n = some t →
      (s.recs[n].referenced = false ∨ t.kind = .reference → s.closeRequest n o = s) ∧
      (s.recs[n].referenced = true → t.kind = .opn ∨ t.kind = .reduce → (s.closeRequest n o).stateOf n = .waiting
        { kind := .close, target := none, direction := .closing, origin := o, band := 4, profile := .normal, retries := 0
          admission := none }) ∧
      (s.recs[n].referenced = true → t.kind = .close →
        (t.origin.isRequest = true ∨ (∃ b o', s.needOf n = .close b o') → s.closeRequest n o = s) ∧
        (t.origin.isRequest = false → (∀ b o', s.needOf n ≠ .close b o') →
          (s.closeRequest n o).stateOf n = (s.stateOf n).withTravel { t with band := 4, origin := o }))) ∧
    (∀ t, s.travel? n = some t → t.stoppable = false → s.stopRequest n = s) ∧
    ((∀ b o', s.needOf n = .close b o' → o'.isRequest = false) →
      ∀ t', (s.stopRequest n).travel? n = some t' → t'.stoppable = false)) ∧
  (∀ (s : State) (n : Ch) (p : Nat),
    (s.judge n (.opn p) = .accepted ↔
      s.fitted n = true ∧ s.maintHolds n = false ∧ s.isLearnChannel n = false ∧ (∀ o e, s.stateOf n ≠ .faulted o e) ∧
        s.recs[n].referenced = true ∧ s.recs[n].consoleHold = false ∧ s.openBarred = false ∧
        s.eval.chans[n].ceiling ≠ 0) ∧
    (s.judge n .close = .accepted ↔ s.fitted n = true ∧ s.maintHolds n = false ∧ s.isLearnChannel n = false ∧
      ∀ o e, s.stateOf n ≠ .faulted o e) ∧
    (∀ r : Request, r = .stop ∨ r = .hold ∨ r = .release →
      (s.judge n r = .accepted ↔ s.fitted n = true ∧ s.maintHolds n = false ∧ s.isLearnChannel n = false)) ∧
    (∀ r : Request, s.fitted n = false → s.judge n r = .config) ∧
    (s.judge n (.opn p) = .threat → s.eval.threat = true ∧ s.recs[n].referenced = true ∧ s.closeLevelActive = false ∧
      s.isolationClose = false))

/-- R38, R132, R163, R184, R188, R213: an acknowledge, by COMMAND or by the chord, returns every FAULTED channel, the
reference of one that faulted by its encoder lost, clears every flag whose condition has ended, and is noted where it leaves
LINE FAULT raised (log entry 42); REPORT submits a STATE for each channel of its mask, in order; RESTART makes the restart
PENDING. -/
def Obligations.StationActions : Prop :=
  (∀ (c : Instr) (s : State),
    (c = .commandAcknowledge ∧ (∃ o, s.orderInHand .acknowledge = some o) ∨
      c = .ackHoldExpiry ∧ s.panel.ackTimer = some 0) →
    ∃ t, exec c s = .next t ∧ (∀ (n : Ch) (o e : Bool), t.stateOf n ≠ .faulted o e) ∧
      (∀ i : Fin 21, t.flags[i].raised = (s.flags[i].raised && t.flags[i].condition)) ∧
      (∀ i : Fin 21, 8 ≤ i.val → t.flags[i].condition = s.flags[i].condition) ∧
      (∀ (n : Ch) (o e : Bool), s.stateOf n = .faulted o e →
        (e = true → t.recs[n].referenced = false ∧ (t.flag (.encoder n)).condition = false) ∧
        (o = true → (t.flag (.obstruction n)).condition = false)) ∧
      (∀ n : Ch, t.units[n].count = s.units[n].count ∧ t.recs[n].consoleHold = s.recs[n].consoleHold ∧
        t.recs[n].refusal = s.recs[n].refusal) ∧
      t.line.faultAck = (if (t.flag .lineFault).raised = true ∧ s.line.faultAck = none then some s.now
        else s.line.faultAck) ∧
      (c = .ackHoldExpiry → t.panel.ackTimer = none ∧ t.panel.ackGiven = true) ∧
      (c = .commandAcknowledge → t.handler.inHand = s.line.queue.head?)) ∧
  ((∀ (s : State) (o : Order), s.orderInHand .report = some o →
    ∃ t, exec .commandReport s = .next t ∧ t.kept = s.takeNext.kept ∧
      (∀ n : Ch, o.mask.testBit n.val = true → t.handler.stateTimers[n] = some 3000) ∧
      (s.reviewDue = false → s.evalDue = false →
        t = ((maskChannels o.mask).foldl State.submitState s).checkDraw.takeNext ∧
          ∀ n : Ch, o.mask.testBit n.val = true → t.handler.lastState[n] = s.view n)) ∧
  (∀ (s : State) (n : Ch), (s.submitState n).line = (s.submit (.state n (s.view n)) 12).line) ∧
  ∀ (s : State) (o : Order), s.orderInHand .restart = some o →
    ∃ t, exec .commandRestart s = .next t ∧
      t.kept = (State.takeNext { s with port := { s.port with restart := true } }).kept ∧ t.port.restart = true)

/-! ### Panel and learning -/

/-- R47, R48, R168 to R171, R173, R176: a level that has differed for 50 ms is accepted; while judging is on, OPEN, and
CLOSE in PRESS mode, arms at its activation, both inputs active are the chord, and the release of an armed input is a press,
judged on its targets, carried out where accepted and shown where all refuse it. That a chord formed anew while its mark is
still set starts the hold timer again (log entry 26), and that a press with no fitted channel shows the refusal pattern (log
entry 49), is the model's choice. -/
def Obligations.PressesAndChord : Prop :=
  (∀ (i : PanelInput) (level : Bool) (ms : Nat) (s : State), levelOf s.panel.levels i = level ∨ ms < 50 →
    exec (.panelInputChange i level ms) s = .next s) ∧
  (∀ (i : PanelInput) (level : Bool) (ms : Nat) (s : State), levelOf s.panel.levels i ≠ level → 50 ≤ ms →
    s.panel.judging = false →
    exec (.panelInputChange i level ms) s =
      .next { s with panel := { s.panel with levels := putLevel s.panel.levels i level } }) ∧
  ∀ (i j : PanelInput) (r : Request) (pol : Bool) (ms : Nat) (s : State) (c : RunCfg), s.port.config = some c →
    s.panel.judging = true → 50 ≤ ms → pol = levelOf c.polarity i →
    (i = .opn ∧ j = .cls ∧ r = .opn 100 ∨ i = .cls ∧ j = .opn ∧ r = .close ∧ c.closeLevel = false) →
    (levelOf s.panel.levels i = !pol →
      ∃ t, exec (.panelInputChange i pol ms) s = .next t ∧ t.panel.levels = putLevel s.panel.levels i pol ∧
        t.panel.active = putLevel s.panel.active i true ∧ t.recs.map ChanRec.marks = s.recs.map ChanRec.marks ∧
        t.panel.refusal = s.panel.refusal ∧
        (levelOf s.panel.active j = false → t.panel.armed i = (s.panel.armed i || !s.panel.chord) ∧
          t.panel.armed j = s.panel.armed j ∧ t.panel.chord = s.panel.chord ∧ t.panel.ackTimer = s.panel.ackTimer) ∧
        (levelOf s.panel.active j = true → t.panel.armed i = false ∧ t.panel.armed j = false ∧ t.panel.chord = true ∧
          t.panel.ackTimer = if s.panel.ackGiven then s.panel.ackTimer else some 30)) ∧
    (levelOf s.panel.levels i = pol →
      ∃ t, exec (.panelInputChange i (!pol) ms) s = .next t ∧ t.panel.levels = putLevel s.panel.levels i (!pol) ∧
        t.panel.active = putLevel s.panel.active i false ∧ t.panel.armed i = false ∧ t.panel.ackTimer = none ∧
        (levelOf s.panel.active j = false → t.panel.chord = false ∧ t.panel.ackGiven = false) ∧
        (levelOf s.panel.active j = true → t.panel.chord = s.panel.chord ∧ t.panel.ackGiven = s.panel.ackGiven) ∧
        (s.panel.armed i = false → t.panel.refusal = s.panel.refusal ∧
          t.recs.map ChanRec.marks = s.recs.map ChanRec.marks) ∧
        (s.panel.armed i = true →
          (∀ n : Ch, s.fitted n = true → s.maintHolds n = false →
            t.recs[n].refusal = s.judge n r ∧ t.handler.stateTimers[n] = some 3000 ∧
              (s.judge n r = .accepted → s.deciding = true → s.Judged → s.CarriedOut t n .panel r)) ∧
          ((∀ n : Ch, s.fitted n = true → s.maintHolds n = false → s.judge n r ≠ .accepted) →
            t.panel.refusal = some 0) ∧
          ∀ n : Ch, s.fitted n = true → s.maintHolds n = false → s.judge n r = .accepted →
            t.panel.refusal = s.panel.refusal))

/-- R45, R51, R172, R174, R175, R202: MAINT holds and releases its set, LEARN arms only under MAINT, and CLOSE in LEVEL mode
ends every OPEN travel at its activation and makes no press at its release, whose review gives no CLOSE-INPUT need. -/
def Obligations.MaintLearnAndCloseLevels : Prop :=
  ∀ (ms : Nat) (s : State) (c : RunCfg), s.port.config = some c → s.panel.judging = true → 50 ≤ ms →
    (s.panel.levels.maint = !c.polMaint →
      ∃ t, exec (.panelInputChange .maint c.polMaint ms) s = .next t ∧
        t.panel.active = { s.panel.active with maint := true } ∧
        ∀ n : Ch, s.fitted n = true → c.maintSet[n] = true → s.isLearnChannel n = false →
          (∀ o e, s.stateOf n ≠ .faulted o e) → t.stateOf n = .held) ∧
    (s.panel.levels.maint = c.polMaint →
      ∃ t, exec (.panelInputChange .maint (!c.polMaint) ms) s = .next t ∧
        t.panel.active = { s.panel.active with maint := false } ∧ (∀ n : Ch, t.stateOf n ≠ .held) ∧
        t.panel.learnArmed = false ∧ t.panel.learnTimer = none ∧
        ∀ p, t.port.session = some p → p.phase = .storing) ∧
    (s.panel.levels.learn = !c.polLearn →
      ∃ t, exec (.panelInputChange .learn c.polLearn ms) s = .next t ∧
        t.panel.active = { s.panel.active with learn := true } ∧
        (s.panel.active.maint = true → t.panel.learnArmed = true ∧ t.panel.learnTimer = some 30) ∧
        (s.panel.active.maint = false → t.panel.learnArmed = s.panel.learnArmed ∧
          t.panel.learnTimer = s.panel.learnTimer)) ∧
    (c.closeLevel = true → s.panel.levels.cls = !c.polCls →
      ∃ t, exec (.panelInputChange .cls c.polCls ms) s = .next t ∧ t.panel.active = { s.panel.active with cls := true } ∧
        (∀ (n : Ch) (x : Travel), t.travel? n = some x → x.kind ≠ .opn) ∧
        (∀ p, t.port.session = some p → p.phase = .storing) ∧ (s.rereading = false → t.Judged) ∧
        (s.panel.active.opn = true → t.panel.chord = true ∧ t.panel.armedOpn = false)) ∧
    (c.closeLevel = true → s.panel.levels.cls = c.polCls →
      ∃ t, exec (.panelInputChange .cls (!c.polCls) ms) s = .next t ∧ t.panel.active = { s.panel.active with cls := false } ∧
        t.recs.map ChanRec.marks = s.recs.map ChanRec.marks ∧ t.panel.refusal = s.panel.refusal ∧
        t.panel.ackTimer = none ∧ (s.panel.active.opn = false → t.panel.chord = false ∧ t.panel.ackGiven = false) ∧
        (s.rereading = false → t.Judged ∧ ∀ (n : Ch) (b : Band), t.needOf n ≠ .close b .closeInput))

/-- R175, R194, R201, R203: the release of an armed LEARN is a press, which creates a session on the first fitted channel or
confirms a run: the measured values go into the running configuration and the image, and the store begins. -/
def Obligations.LearnPresses : Prop :=
  ∀ (ms : Nat) (s : State) (c : RunCfg), s.port.config = some c → s.panel.judging = true → 50 ≤ ms →
    s.panel.levels.learn = c.polLearn → s.panel.learnArmed = true → s.rereading = false →
    (∀ n : Ch, s.port.session = none → s.fitted n = true → (∀ m : Ch, m < n → s.fitted m = false) → s.Judged →
      (s.learnBar n = false →
        ∃ t, exec (.panelInputChange .learn (!c.polLearn) ms) s = .next t ∧
          t.port.session = some (Session.fresh n) ∧ t.panel.standing = .learn n ∧ t.travel? n = none ∧
          t.stateOf n ≠ .held ∧ t.panel.learnArmed = false) ∧
      (s.learnBar n = true →
        ∃ t, exec (.panelInputChange .learn (!c.polLearn) ms) s = .next t ∧ t.port.session = none ∧
          t.panel.refusal = some 0)) ∧
    ∀ p : Session, s.port.session = some p → p.phase = .awaitingConfirm →
      ∃ t, exec (.panelInputChange .learn (!c.polLearn) ms) s = .next t ∧ t.Judged ∧
        t.port.config = some (c.applyLearned p) ∧
        t.port.image = s.port.image.map (fun m => m.applyLearned p.channel p.measured.1 p.measured.2.1 p.measured.2.2) ∧
        t.port.store = some (storePages p.channel) ∧
        ∃ q, t.port.session = some q ∧ q.phase = .storing ∧ q.channel = p.channel ∧ q.confirm = none

/-- R175, R177 to R180, R182, R195, R201, R202: the LEARN hold starts a run where nothing stands against it, else it is
refused; a confirm deadline ends the session; every command leaves the standing pattern in agreement with its table, a new
one from its beginning; the lamp follows the pattern's shape, or the refusal pattern's while that shows; a refusal pattern
ends after 1500 ms, which the model counts in ds steps (its choice, log entry 27). -/
def Obligations.LearnTimersAndLamp : Prop :=
  (∀ (s : State) (p : Session), s.panel.learnTimer = some 0 → s.panel.learnArmed = true → s.port.session = some p →
    p.phase = .selecting →
    ((s.stateOf p.channel).isFaulted = false → s.learnBar p.channel = false → s.travel? p.channel = none →
      s.deciding = true → s.Judged →
      ∃ t x, exec .learnHoldExpiry s = .next t ∧ t.port.session = some { p with phase := .closing } ∧
        t.travel? p.channel = some x ∧ x.kind = .learnClose ∧ x.band = 4 ∧ x.profile = .storm ∧ x.origin = .learn ∧
        t.panel.learnArmed = false ∧ t.panel.learnTimer = none) ∧
    ((s.stateOf p.channel).isFaulted = true ∨ s.learnBar p.channel = true →
      ∃ t, exec .learnHoldExpiry s = .next t ∧ t.panel.refusal = some 0 ∧ t.panel.learnArmed = false)) ∧
  (∀ (s : State) (p : Session), s.port.session = some p → p.phase = .awaitingConfirm → p.confirm = some 0 →
    ∃ t, exec .confirmDeadline s = .next t ∧ t.port.session = none ∧ t.port.store = none ∧ t.kept = s.kept) ∧
  (∀ (s : State) (r : Nat), s.panel.refusal = some r → 15 ≤ r →
    exec .refusalPatternEnd s = .next { s with panel := { s.panel with refusal := none, patternAge := 0 } }) ∧
  (∀ (c : Instr) (s t : State), exec c s = .next t → s.panel.standing = s.standing →
    t.panel.standing = t.standing ∧ (t.panel.standing ≠ s.panel.standing → t.panel.patternAge = 0)) ∧
  (∀ s : State, s.standing = s.panel.standing → s.judgeLamp = s) ∧
  (∀ s : State, (s.port.config = none → (s.flag .configStation).condition = true → s.standing = .fast) ∧
    ∀ c, s.port.config = some c →
      (∀ p, s.port.session = some p → s.standing = .learn p.channel) ∧
      (s.port.session = none →
        ((∃ f : FlagId, (s.flag f).raised = true ∧ c.masked f.alarm.1 = false) → s.standing = .fast) ∧
        ((∀ f : FlagId, (s.flag f).raised = true → c.masked f.alarm.1 = true) →
          ((∃ n : Ch, s.fitted n = true ∧ (s.stateOf n).moving = true) → s.standing = .slow) ∧
          ((∀ n : Ch, s.fitted n = true → (s.stateOf n).moving = false) →
            ((∃ n : Ch, s.fitted n = true ∧ s.closed n = false) → s.standing = .steady) ∧
            ((∀ n : Ch, s.fitted n = true → s.closed n = true) → s.standing = .off))))) ∧
  ∀ (p : Panel) (ms x : Nat),
    (p.refusal = none → x = 100 * p.patternAge + ms →
      (p.standing = .off → p.lamp ms = false) ∧ (p.standing = .steady → p.lamp ms = true) ∧
      (p.standing = .slow → (p.lamp ms = true ↔ ∃ j, 1000 * j ≤ x ∧ x < 1000 * j + 500)) ∧
      (p.standing = .fast → (p.lamp ms = true ↔ ∃ j, 200 * j ≤ x ∧ x < 200 * j + 100)) ∧
      ∀ n : Ch, p.standing = .learn n → (p.lamp ms = true ↔
        ∃ j i, i ≤ n.val ∧ (500 * (n.val + 1) + 1500) * j + 500 * i ≤ x ∧
          x < (500 * (n.val + 1) + 1500) * j + 500 * i + 200)) ∧
    ∀ r, p.refusal = some r → x = 100 * r + ms → (p.lamp ms = true ↔ ∃ j < 3, 300 * j ≤ x ∧ x < 300 * j + 100)

/-- R203 to R205: a page is written, polled up to five times, and passed over with STORE raised where the memory does not
answer; the last page ends the store and the session. -/
def Obligations.StoreWritesItsPages : Prop :=
  ∀ (s : State) (x : Store) (q : Session), s.port.store = some x → s.port.session = some q → q.phase = .storing →
    (x.polling = false → exec (.pageWriteEnd true) s =
      .next { s with port := { s.port with store := some { x with polls := 0, polling := true } } }) ∧
    (x.polling = true → x.polls < 4 → exec (.pollExpiry false) s =
      .next { s with port := { s.port with store := some { x with polls := x.polls + 1 } } }) ∧
    ∀ (c : Instr) (failed : Bool), (c = .pageWriteEnd false ∧ x.polling = false ∧ failed = true ∨
        c = .pollExpiry true ∧ x.polling = true ∧ failed = false ∨
        c = .pollExpiry false ∧ x.polling = true ∧ 4 ≤ x.polls ∧ failed = true) →
      ∃ t, exec c s = .next t ∧ (failed = true → (t.flag .store).raised = true) ∧ (failed = false → t.flags = s.flags) ∧
        (x.rest = [] → t.port.session = none ∧ t.port.store = none) ∧
        (∀ p l, x.rest = p :: l → ∃ y, t.port.store = some y ∧ y.page = p ∧ y.rest = l ∧ y.polling = false) ∧
        t.port.image = s.port.image ∧ t.port.config = s.port.config

/-- R200, R201, R203, R209 to R211: the image a confirm leaves is judged, when it is read again, to give the running
configuration the confirm made, for measured values that pass the range check. -/
def Obligations.LearnedImageReadsBack : Prop :=
  ∀ (own : Nat) (m : Memory) (c : RunCfg) (n : Ch) (k : ChanCfg) (span normal storm : Nat), m.wf = true →
    judgeImage own m = some c → c.chans[n] = .fitted k → rangeCheck k.c span normal storm = true →
    judgeImage own (m.applyLearned n span normal storm) =
      some { c with chans := c.chans.set n (.fitted (k.applyLearned span normal storm)) }

/-! ### Deciding -/

/-- R103, R104, R106, R110, R114: an evaluation, with that of the departure its own yield has caused, never brings the
believed total above the circuit budget; it may find it there. The upgrade step gives STORM to the first RUNNING travel of
band 0, 1 or 2 on NORMAL whose upgrade fits B − Rv, or B at band 0, goes on to the next, stops at the first that does not
fit, and leaves every other channel, a learn travel's too, as it is; the upgrade step stands before the pass. That the
departure's evaluation follows the steps of the one that yields is the model's choice (log entry 8). -/
def Obligations.EvaluationUpgradesWithinBudget : Prop :=
  (∀ (s : State) (c : RunCfg), s.port.config = some c → s.evaluate.believed c ≤ max (s.believed c) c.budget) ∧
  (∀ (s u : State) (c : RunCfg), u = s.upgradeStep c →
    (s.arb.supply ≠ .good → u = s) ∧
    (∀ n : Ch, u.stateOf n = s.stateOf n ∨ (s.stateOf n).Upgrades ∧
      ∀ t, s.stateOf n = .running t → u.stateOf n = .running { t with profile := .storm }) ∧
    (s.arb.supply = .good → ∀ (n : Ch) (k : ChanCfg) (t : Travel), s.chan? n = some k → s.stateOf n = .running t →
      s.FirstOf ChState.Upgrades n →
      (s.believed c + k.storm.draw ≤ (if t.band = 0 then c.budget else c.budget - c.reserve) + k.normal.draw →
        u.stateOf n = .running { t with profile := .storm }) ∧
      ((if t.band = 0 then c.budget else c.budget - c.reserve) + k.normal.draw < s.believed c + k.storm.draw → u = s)) ∧
    (s.arb.supply = .good → ∀ (n : Ch) (k : ChanCfg) (t : Travel), u.chan? n = some k → u.stateOf n = .running t →
      u.FirstOf ChState.Upgrades n →
      (if t.band = 0 then c.budget else c.budget - c.reserve) + k.normal.draw < u.believed c + k.storm.draw)) ∧
  ∀ (s : State) (c : RunCfg), s.port.config = some c → s.rereading = false → s.yieldDecided c = false →
    s.evaluate = (((({ s with evalDue := false } : State).setDeferred none).upgradeStep c).admissionStep c none).checkDraw

/-- R15, R17, R25, R26, R105 to R109, R113, R114: the first candidate of the order is admitted where no bar stands against
it, RUNNING with its drive energised in its direction, or completes at a target it has reached; the pass stops at the first
that is not admitted; and what holds of every channel a pass sets moving: the believed total and the candidate's draw stay
within B − Rv, or within B at band 0, before the pass and for all that the pass admits; the channel its evaluation has
yielded is none of them. That a supply with no sample yet bars admission is the model's choice (log entry 18). -/
def Obligations.AdmissionObeysItsBars : Prop :=
  (∀ (s u : State) (c : RunCfg) (aside : Option Ch), u = s.admissionStep c aside →
    (∀ (n : Ch) (k : ChanCfg) (t : Travel), s.FirstOf ChState.Waits n → s.chan? n = some k → s.travel? n = some t →
      (s.Unbarred c k t → aside ≠ some n →
        ((∀ x, t.target = some x → ¬(t.direction = .opening ∧ x ≤ s.units[n].count) ∧
            ¬(t.direction = .closing ∧ s.units[n].count ≤ x)) →
          u.stateOf n = .running { t with admission := some s.now } ∧ u.arb.holdOn[n] = some 30 ∧
            u.units[n].drive.dir? = some t.direction) ∧
        (∀ x, t.target = some x → (t.direction = .opening ∧ x ≤ s.units[n].count ∨
            t.direction = .closing ∧ s.units[n].count ≤ x) → u.stateOf n = .still)) ∧
      (¬ s.Unbarred c k t ∨ aside = some n → u = s)) ∧
    (∀ (n : Ch) (k : ChanCfg) (t : Travel), u.FirstOf ChState.Waits n → u.chan? n = some k → u.travel? n = some t →
      ¬ u.Unbarred c k t ∨ aside = some n) ∧
    ∀ n : Ch, u.stateOf n = s.stateOf n ∨ (s.stateOf n).isCandidate = true) ∧
  ∀ (s u : State) (c : RunCfg) (aside : Option Ch) (n : Ch), u = s.admissionStep c aside →
    (s.stateOf n).moving = false → (u.stateOf n).moving = true →
    s.arb.supply = .good ∧ (s.stateOf n).isCandidate = true ∧ aside ≠ some n ∧ u.arb.holdOn[n] = some 30 ∧
      (∃ t k, s.travel? n = some t ∧ s.chan? n = some k ∧ u.stateOf n = .running { t with admission := some s.now } ∧
        (s.arb.listening = none ∨ t.band = 0) ∧ (∀ b ∈ s.peerWaits c, t.band ≤ b) ∧
        s.believed c + (k.profile t.profile).draw ≤ (if t.band = 0 then c.budget else c.budget - c.reserve) ∧
        u.believed c ≤ (if t.band = 0 then c.budget else c.budget - c.reserve)) ∧
      (s.limited = true → ∀ m : Ch, (s.stateOf m).moving = false ∧ (m ≠ n → (u.stateOf m).moving = false))

/-- R27, R111 to R114: the running bands of the station and of the peers with a live claim on its circuit; the yielder is the
greatest band and then the highest address; a yield is decided where the station is the yielder and the circuit is over its
budget, or a band of 3 or more runs while a peer waits at band 0 or 1; the channel chosen is of the greatest band, then the
latest admission, then the highest number; a channel in hold-on defers the yield; the evaluation that yields a travel leaves it
YIELDED. That the evaluation of its departure does not readmit it either is the model's choice (log entry 44). -/
def Obligations.YieldSetsOneChannelAside : Prop :=
  (∀ (l : List (Nat × Nat)) (x a : Nat), yielder l = some (x, a) →
    (x, a) ∈ l ∧ ∀ y b, (y, b) ∈ l → y < x ∨ y = x ∧ b ≤ a) ∧
  (∀ l : List (Nat × Nat), yielder l = none ↔ l = []) ∧
  (∀ l : List Nat, l ≠ [] → leastUrgentBand l ∈ l ∧ ∀ b ∈ l, b ≤ leastUrgentBand l) ∧
  (∀ (s : State) (c : RunCfg) (y b : Nat), (y, b) ∈ s.runningBands c ↔
    s.port.ownAddress = some b ∧ s.bandsWhere ChState.moving ≠ [] ∧ y = leastUrgentBand (s.bandsWhere ChState.moving) ∨
      ∃ p ∈ s.handler.peers, ∃ k l, p.liveClaim c.circuit = some k ∧ k.least = some l ∧ y = l.val ∧ b = p.origin) ∧
  (∀ (s : State) (c : RunCfg), s.yieldDecided c = true ↔ ∃ x a, yielder (s.runningBands c) = some (x, a) ∧
    s.port.ownAddress = some a ∧ s.bandsWhere ChState.moving ≠ [] ∧
      (c.budget < s.believed c ∨ 3 ≤ x ∧ ∃ b ∈ s.peerWaits c, b.val ≤ 1)) ∧
  (∀ (s : State) (n : Ch), s.yieldChoice = some n → (s.stateOf n).isRunning = true ∧
    ∀ m : Ch, (s.stateOf m).isRunning = true → m ≠ n → s.bandOf m < s.bandOf n ∨ s.bandOf m = s.bandOf n ∧
      (s.admissionOf m < s.admissionOf n ∨ s.admissionOf m = s.admissionOf n ∧ m < n)) ∧
  (∀ s : State, s.yieldChoice = none → ∀ n : Ch, (s.stateOf n).isRunning = false) ∧
  (∀ (s : State) (c : RunCfg) (n : Ch), s.yields c = some n ↔
    s.yieldDecided c = true ∧ s.yieldChoice = some n ∧ inHoldOn s.arb.holdOn[n] = false) ∧
  (∀ (s : State) (c : RunCfg) (n : Ch) (t : Travel), s.port.config = some c → s.rereading = false → s.yields c = some n →
    s.stateOf n = .running t → s.evaluate.stateOf n = .yielded t) ∧
  ∀ (s : State) (c : RunCfg),
    (s.yieldDecided c = false → s.yieldStep c = s.setDeferred none) ∧
    ∀ (n : Ch) (t : Travel), s.yieldDecided c = true → s.yieldChoice = some n → s.stateOf n = .running t →
      (inHoldOn s.arb.holdOn[n] = true → s.yieldStep c = s.setDeferred (some n)) ∧
      (inHoldOn s.arb.holdOn[n] = false → (s.yieldStep c).stateOf n = .yielded t ∧ (s.yieldStep c).arb.deferred = none ∧
        ∀ m : Ch, m ≠ n → (s.yieldStep c).stateOf m = s.stateOf m)

/-- R136, R138, R140: a submission takes the place and the queued time of the WAITING notice of its key; else it joins while
there is room; in a full pool it joins only in place of a less urgent notice, the greatest rank and of these the earliest. -/
def Obligations.SubmissionsCoalesceOrDrop : Prop :=
  ∀ (locked : Nat) (e : PoolEntry) (w : List PoolEntry), w.Pairwise (fun f g => f.seq ≠ g.seq) →
    (∀ old ∈ w, w.find? (fun f => sameKey e.notice f.notice) = some old →
      ∀ f, f ∈ poolSubmit locked e w ↔ f = { e with seq := old.seq } ∨ f ∈ w ∧ f ≠ old) ∧
    ((∀ f ∈ w, sameKey e.notice f.notice = false) → w.length + locked < 8 →
      ∀ f, f ∈ poolSubmit locked e w ↔ f = e ∨ f ∈ w) ∧
    ((∀ f ∈ w, sameKey e.notice f.notice = false) → 8 ≤ w.length + locked → w ≠ [] →
      ∃ v ∈ w, (∀ f ∈ w, f.rank < v.rank ∨ f.rank = v.rank ∧ v.seq ≤ f.seq) ∧
        (v.rank ≤ e.rank → poolSubmit locked e w = w) ∧
        (e.rank < v.rank → ∀ f, f ∈ poolSubmit locked e w ↔ f = e ∨ f ∈ w ∧ f ≠ v))

/-- R78, R82: the lead a review selects and the lag it gives. -/
def Obligations.LeadsAndLags : Prop :=
  (∀ (e : MapEntry) (d : Fin 8), e.lead d.val = e.leads[d]) ∧
  (∀ e : MapEntry, (e.lead 8 = none ↔ ∀ j : Fin 8, e.leads[j] = none) ∧
    ∀ l, e.lead 8 = some l ↔ (∃ j : Fin 8, e.leads[j] = some l) ∧ ∀ (j : Fin 8) (x : Nat), e.leads[j] = some x → l ≤ x) ∧
  (∀ (c : RunCfg) (v d peer l : Nat) (e : MapEntry), c.map.find? (fun x => x.peer = peer) = some e → e.lead d = some l →
    c.lag v d peer = some (l * 100 / max v 10) ∧ (l ≤ 2000 → l * 100 / max v 10 ≤ 20000) ∧
      (l = 0 → c.lag v d peer = some 0) ∧ ∀ v', v ≤ v' → l * 100 / max v' 10 ≤ l * 100 / max v 10) ∧
  (∀ (c : RunCfg) (v d peer : Nat) (e : MapEntry), c.map.find? (fun x => x.peer = peer) = some e → e.lead d = none →
    c.lag v d peer = none) ∧
  (∀ (s : State) (c : RunCfg) (v d : Nat) (p : PeerEntry), s.handler.peers = [p] → c.lag v d p.origin = none →
    s.peerArrivals c v d = []) ∧
  ∀ (s : State) (c : RunCfg), (s.reviewed c).arrival = s.threatArrival c (s.reviewed c).v (s.reviewed c).d

/-- R79, R83, R84, R87 to R91, R94: the wind sources are the own report and the live wind part of every peer, and the
working wind is the greatest of them, the own report first; the arrival is the own wet time while the own sensor counts as
wet, else the earliest contribution of a peer's live wetness part, and none only where there is no contribution; a peer that
is not mapped has the unmapped lag; a channel's distance, travel time, ceiling, slack and slack origin are those of their
formulas; one that is not closed needs CLOSE at the band of its slack, and band 0 whenever the wind has reached its Wc; with
no slack, at band 4 for an active CLOSE input in LEVEL mode, then for isolation-close; then it needs REFERENCE, REDUCE or
NONE. -/
def Obligations.ReviewsFollowTheirTables : Prop :=
  (∀ s : State, (s.windSources = [] → s.workingWind = (0, 8)) ∧ (∀ x ∈ s.windSources, x.1 ≤ s.workingWind.1) ∧
    (s.windSources ≠ [] → s.workingWind ∈ s.windSources) ∧
    (s.reportOffered = true → s.wind.assessment = s.workingWind.1 → s.workingWind.2 = s.vane.sector)) ∧
  (∀ (s : State) (x : Nat × Nat), x ∈ s.windSources ↔ s.reportOffered = true ∧ x = (s.wind.assessment, s.vane.sector) ∨
    ∃ p ∈ s.handler.peers, ∃ w, p.wind = some w ∧ 0 < w.left ∧ x = (w.assessment, w.sector)) ∧
  (∀ (c : RunCfg) (v d peer : Nat), (∀ e ∈ c.map, e.peer ≠ peer) → c.lag v d peer = some (10 * c.unmappedLagS)) ∧
  (∀ (s : State) (c : RunCfg) (v d : Nat),
    (s.rain.countsWet = true ↔ s.rain.state = some .wet ∨ s.rain.state = some .fault) ∧
    (s.rain.countsWet = true → ∀ a, s.rain.wetTime = some a → s.threatArrival c v d = some a) ∧
    (s.rain.countsWet = false → (s.threatArrival c v d = none ↔
      ∀ p ∈ s.handler.peers, ∀ w, p.wetness = some w → 0 < w.left → c.lag v d p.origin = none))) ∧
  (∀ (s : State) (c : RunCfg) (v d a : Nat), s.rain.countsWet = false → s.threatArrival c v d = some a →
    (∃ p ∈ s.handler.peers, ∃ w l, p.wetness = some w ∧ 0 < w.left ∧ c.lag v d p.origin = some l ∧
      a = min (w.onset + l) 4294967295) ∧
    ∀ p ∈ s.handler.peers, ∀ w l, p.wetness = some w → 0 < w.left → c.lag v d p.origin = some l →
      a ≤ min (w.onset + l) 4294967295) ∧
  (∀ x : Int, (slackBand x = 0 ↔ x ≤ 0) ∧ (slackBand x = 1 ↔ 0 < x ∧ x ≤ 150) ∧ (slackBand x = 2 ↔ 150 < x ∧ x ≤ 600) ∧
    (slackBand x = 3 ↔ 600 < x ∧ x ≤ 3000) ∧ (slackBand x = 4 ↔ 3000 < x)) ∧
  (∀ (s : State) (n : Ch) (k : ChanCfg) (v : Nat) (a : Option Nat) (d tau : Nat) (hold : Int → Int), s.chan? n = some k →
    d = (if s.recs[n].referenced = true then s.units[n].count - k.c else k.span) →
    tau = (d * 10 + k.storm.speed - 1) / k.storm.speed + 10 → (∀ y, hold y = max (-32768) (min 32767 y)) →
    (s.evalChannel n v a).distance = some d ∧ (s.evalChannel n v a).tau = some tau ∧
    (s.evalChannel n v a).ceiling =
      (if v ≤ k.wr then k.span else if v < k.wc then k.span * (k.wc - v) / (k.wc - k.wr) else 0) ∧
    (a = none → v < k.wc → (s.evalChannel n v a).slack = none ∧ (s.evalChannel n v a).slackOrigin = none) ∧
    (a = none → k.wc ≤ v →
      (s.evalChannel n v a).slack = some (hold (-(tau : Int))) ∧ (s.evalChannel n v a).slackOrigin = some .wind) ∧
    ∀ (x : Nat) (rain : Int), a = some x → rain = ((x - 10 * k.guardS : Nat) : Int) - (s.now : Int) - (tau : Int) →
      (v < k.wc ∨ rain ≤ -(tau : Int) →
        (s.evalChannel n v a).slack = some (hold rain) ∧ (s.evalChannel n v a).slackOrigin = some .threat) ∧
      (k.wc ≤ v → -(tau : Int) < rain →
        (s.evalChannel n v a).slack = some (hold (-(tau : Int))) ∧ (s.evalChannel n v a).slackOrigin = some .wind)) ∧
  ∀ (s : State) (n : Ch) (k : ChanCfg) (v : Nat) (a : Option Nat), s.chan? n = some k →
    (s.closed n = true → (s.evalChannel n v a).need = .none) ∧
    (s.closed n = false → ∀ x o, (s.evalChannel n v a).slack = some x → (s.evalChannel n v a).slackOrigin = some o →
      (s.evalChannel n v a).need = .close (slackBand x) o ∧ -32768 ≤ x ∧ x ≤ 32767) ∧
    (s.closed n = false → k.wc ≤ v → ∃ o, (s.evalChannel n v a).need = .close 0 o ∧ (o = .threat ∨ o = .wind)) ∧
    (s.closed n = false → v < k.wc → a = none →
      (s.evalChannel n v a).need =
        if s.closeLevelActive = true then .close 4 .closeInput
        else if s.isolationClose = true then .close 4 .isolation
        else if s.recs[n].referenced = false then .reference
        else if k.c + windCeiling k v + k.span / 50 < s.units[n].count then .reduce (k.c + windCeiling k v) else .none)

end
end

