-- ==== Sys2Proof/Laws/State.lean ====
section
/-! SUPPORT. What each single update of the state does to each field: one lemma per field and update, so that no later proof
unfolds a record update. -/

namespace Sys2Proof.Machine

variable (s : State)

/-! ### setUnit -/

@[simp] theorem State.setUnit_pending (n : Ch) (u : ChanUnit) : (s.setUnit n u).pending = s.pending := rfl
@[simp] theorem State.setUnit_now (n : Ch) (u : ChanUnit) : (s.setUnit n u).now = s.now := rfl
@[simp] theorem State.setUnit_port (n : Ch) (u : ChanUnit) : (s.setUnit n u).port = s.port := rfl
@[simp] theorem State.setUnit_units (n : Ch) (u : ChanUnit) : (s.setUnit n u).units = s.units.set n u := rfl
@[simp] theorem State.setUnit_recs (n : Ch) (u : ChanUnit) : (s.setUnit n u).recs = s.recs := rfl
@[simp] theorem State.setUnit_rain (n : Ch) (u : ChanUnit) : (s.setUnit n u).rain = s.rain := rfl
@[simp] theorem State.setUnit_wind (n : Ch) (u : ChanUnit) : (s.setUnit n u).wind = s.wind := rfl
@[simp] theorem State.setUnit_vane (n : Ch) (u : ChanUnit) : (s.setUnit n u).vane = s.vane := rfl
@[simp] theorem State.setUnit_eval (n : Ch) (u : ChanUnit) : (s.setUnit n u).eval = s.eval := rfl
@[simp] theorem State.setUnit_arb (n : Ch) (u : ChanUnit) : (s.setUnit n u).arb = s.arb := rfl
@[simp] theorem State.setUnit_line (n : Ch) (u : ChanUnit) : (s.setUnit n u).line = s.line := rfl
@[simp] theorem State.setUnit_handler (n : Ch) (u : ChanUnit) : (s.setUnit n u).handler = s.handler := rfl
@[simp] theorem State.setUnit_panel (n : Ch) (u : ChanUnit) : (s.setUnit n u).panel = s.panel := rfl
@[simp] theorem State.setUnit_flags (n : Ch) (u : ChanUnit) : (s.setUnit n u).flags = s.flags := rfl
@[simp] theorem State.setUnit_reviewDue (n : Ch) (u : ChanUnit) : (s.setUnit n u).reviewDue = s.reviewDue := rfl
@[simp] theorem State.setUnit_evalDue (n : Ch) (u : ChanUnit) : (s.setUnit n u).evalDue = s.evalDue := rfl

/-! ### setRec -/

@[simp] theorem State.setRec_pending (n : Ch) (r : ChanRec) : (s.setRec n r).pending = s.pending := rfl
@[simp] theorem State.setRec_now (n : Ch) (r : ChanRec) : (s.setRec n r).now = s.now := rfl
@[simp] theorem State.setRec_port (n : Ch) (r : ChanRec) : (s.setRec n r).port = s.port := rfl
@[simp] theorem State.setRec_units (n : Ch) (r : ChanRec) : (s.setRec n r).units = s.units := rfl
@[simp] theorem State.setRec_recs (n : Ch) (r : ChanRec) : (s.setRec n r).recs = s.recs.set n r := rfl
@[simp] theorem State.setRec_rain (n : Ch) (r : ChanRec) : (s.setRec n r).rain = s.rain := rfl
@[simp] theorem State.setRec_wind (n : Ch) (r : ChanRec) : (s.setRec n r).wind = s.wind := rfl
@[simp] theorem State.setRec_vane (n : Ch) (r : ChanRec) : (s.setRec n r).vane = s.vane := rfl
@[simp] theorem State.setRec_eval (n : Ch) (r : ChanRec) : (s.setRec n r).eval = s.eval := rfl
@[simp] theorem State.setRec_arb (n : Ch) (r : ChanRec) : (s.setRec n r).arb = s.arb := rfl
@[simp] theorem State.setRec_line (n : Ch) (r : ChanRec) : (s.setRec n r).line = s.line := rfl
@[simp] theorem State.setRec_handler (n : Ch) (r : ChanRec) : (s.setRec n r).handler = s.handler := rfl
@[simp] theorem State.setRec_panel (n : Ch) (r : ChanRec) : (s.setRec n r).panel = s.panel := rfl
@[simp] theorem State.setRec_flags (n : Ch) (r : ChanRec) : (s.setRec n r).flags = s.flags := rfl
@[simp] theorem State.setRec_reviewDue (n : Ch) (r : ChanRec) : (s.setRec n r).reviewDue = s.reviewDue := rfl
@[simp] theorem State.setRec_evalDue (n : Ch) (r : ChanRec) : (s.setRec n r).evalDue = s.evalDue := rfl

/-! ### setFlag -/

@[simp] theorem State.setFlag_pending (i : Fin 21) (f : Flag) : (s.setFlag i f).pending = s.pending := rfl
@[simp] theorem State.setFlag_now (i : Fin 21) (f : Flag) : (s.setFlag i f).now = s.now := rfl
@[simp] theorem State.setFlag_port (i : Fin 21) (f : Flag) : (s.setFlag i f).port = s.port := rfl
@[simp] theorem State.setFlag_units (i : Fin 21) (f : Flag) : (s.setFlag i f).units = s.units := rfl
@[simp] theorem State.setFlag_recs (i : Fin 21) (f : Flag) : (s.setFlag i f).recs = s.recs := rfl
@[simp] theorem State.setFlag_rain (i : Fin 21) (f : Flag) : (s.setFlag i f).rain = s.rain := rfl
@[simp] theorem State.setFlag_wind (i : Fin 21) (f : Flag) : (s.setFlag i f).wind = s.wind := rfl
@[simp] theorem State.setFlag_vane (i : Fin 21) (f : Flag) : (s.setFlag i f).vane = s.vane := rfl
@[simp] theorem State.setFlag_eval (i : Fin 21) (f : Flag) : (s.setFlag i f).eval = s.eval := rfl
@[simp] theorem State.setFlag_arb (i : Fin 21) (f : Flag) : (s.setFlag i f).arb = s.arb := rfl
@[simp] theorem State.setFlag_line (i : Fin 21) (f : Flag) : (s.setFlag i f).line = s.line := rfl
@[simp] theorem State.setFlag_handler (i : Fin 21) (f : Flag) : (s.setFlag i f).handler = s.handler := rfl
@[simp] theorem State.setFlag_panel (i : Fin 21) (f : Flag) : (s.setFlag i f).panel = s.panel := rfl
@[simp] theorem State.setFlag_flags (i : Fin 21) (f : Flag) : (s.setFlag i f).flags = s.flags.set i f := rfl
@[simp] theorem State.setFlag_reviewDue (i : Fin 21) (f : Flag) : (s.setFlag i f).reviewDue = s.reviewDue := rfl
@[simp] theorem State.setFlag_evalDue (i : Fin 21) (f : Flag) : (s.setFlag i f).evalDue = s.evalDue := rfl

/-! ### setSession -/

@[simp] theorem State.setSession_pending (p : Option Session) : (s.setSession p).pending = s.pending := rfl
@[simp] theorem State.setSession_now (p : Option Session) : (s.setSession p).now = s.now := rfl
@[simp] theorem State.setSession_port (p : Option Session) : (s.setSession p).port = { s.port with session := p } := rfl
@[simp] theorem State.setSession_units (p : Option Session) : (s.setSession p).units = s.units := rfl
@[simp] theorem State.setSession_recs (p : Option Session) : (s.setSession p).recs = s.recs := rfl
@[simp] theorem State.setSession_rain (p : Option Session) : (s.setSession p).rain = s.rain := rfl
@[simp] theorem State.setSession_wind (p : Option Session) : (s.setSession p).wind = s.wind := rfl
@[simp] theorem State.setSession_vane (p : Option Session) : (s.setSession p).vane = s.vane := rfl
@[simp] theorem State.setSession_eval (p : Option Session) : (s.setSession p).eval = s.eval := rfl
@[simp] theorem State.setSession_arb (p : Option Session) : (s.setSession p).arb = s.arb := rfl
@[simp] theorem State.setSession_line (p : Option Session) : (s.setSession p).line = s.line := rfl
@[simp] theorem State.setSession_handler (p : Option Session) : (s.setSession p).handler = s.handler := rfl
@[simp] theorem State.setSession_panel (p : Option Session) : (s.setSession p).panel = s.panel := rfl
@[simp] theorem State.setSession_flags (p : Option Session) : (s.setSession p).flags = s.flags := rfl
@[simp] theorem State.setSession_reviewDue (p : Option Session) : (s.setSession p).reviewDue = s.reviewDue := rfl
@[simp] theorem State.setSession_evalDue (p : Option Session) : (s.setSession p).evalDue = s.evalDue := rfl

/-! ### setStore -/

@[simp] theorem State.setStore_pending (x : Option Store) : (s.setStore x).pending = s.pending := rfl
@[simp] theorem State.setStore_now (x : Option Store) : (s.setStore x).now = s.now := rfl
@[simp] theorem State.setStore_port (x : Option Store) : (s.setStore x).port = { s.port with store := x } := rfl
@[simp] theorem State.setStore_units (x : Option Store) : (s.setStore x).units = s.units := rfl
@[simp] theorem State.setStore_recs (x : Option Store) : (s.setStore x).recs = s.recs := rfl
@[simp] theorem State.setStore_rain (x : Option Store) : (s.setStore x).rain = s.rain := rfl
@[simp] theorem State.setStore_wind (x : Option Store) : (s.setStore x).wind = s.wind := rfl
@[simp] theorem State.setStore_vane (x : Option Store) : (s.setStore x).vane = s.vane := rfl
@[simp] theorem State.setStore_eval (x : Option Store) : (s.setStore x).eval = s.eval := rfl
@[simp] theorem State.setStore_arb (x : Option Store) : (s.setStore x).arb = s.arb := rfl
@[simp] theorem State.setStore_line (x : Option Store) : (s.setStore x).line = s.line := rfl
@[simp] theorem State.setStore_handler (x : Option Store) : (s.setStore x).handler = s.handler := rfl
@[simp] theorem State.setStore_panel (x : Option Store) : (s.setStore x).panel = s.panel := rfl
@[simp] theorem State.setStore_flags (x : Option Store) : (s.setStore x).flags = s.flags := rfl
@[simp] theorem State.setStore_reviewDue (x : Option Store) : (s.setStore x).reviewDue = s.reviewDue := rfl
@[simp] theorem State.setStore_evalDue (x : Option Store) : (s.setStore x).evalDue = s.evalDue := rfl

/-! ### setPeers -/

@[simp] theorem State.setPeers_pending (l : List PeerEntry) : (s.setPeers l).pending = s.pending := rfl
@[simp] theorem State.setPeers_now (l : List PeerEntry) : (s.setPeers l).now = s.now := rfl
@[simp] theorem State.setPeers_port (l : List PeerEntry) : (s.setPeers l).port = s.port := rfl
@[simp] theorem State.setPeers_units (l : List PeerEntry) : (s.setPeers l).units = s.units := rfl
@[simp] theorem State.setPeers_recs (l : List PeerEntry) : (s.setPeers l).recs = s.recs := rfl
@[simp] theorem State.setPeers_rain (l : List PeerEntry) : (s.setPeers l).rain = s.rain := rfl
@[simp] theorem State.setPeers_wind (l : List PeerEntry) : (s.setPeers l).wind = s.wind := rfl
@[simp] theorem State.setPeers_vane (l : List PeerEntry) : (s.setPeers l).vane = s.vane := rfl
@[simp] theorem State.setPeers_eval (l : List PeerEntry) : (s.setPeers l).eval = s.eval := rfl
@[simp] theorem State.setPeers_arb (l : List PeerEntry) : (s.setPeers l).arb = s.arb := rfl
@[simp] theorem State.setPeers_line (l : List PeerEntry) : (s.setPeers l).line = s.line := rfl
@[simp] theorem State.setPeers_handler (l : List PeerEntry) : (s.setPeers l).handler = { s.handler with peers := l } := rfl
@[simp] theorem State.setPeers_panel (l : List PeerEntry) : (s.setPeers l).panel = s.panel := rfl
@[simp] theorem State.setPeers_flags (l : List PeerEntry) : (s.setPeers l).flags = s.flags := rfl
@[simp] theorem State.setPeers_reviewDue (l : List PeerEntry) : (s.setPeers l).reviewDue = s.reviewDue := rfl
@[simp] theorem State.setPeers_evalDue (l : List PeerEntry) : (s.setPeers l).evalDue = s.evalDue := rfl

/-! ### setRefresh -/

@[simp] theorem State.setRefresh_pending (t : Timer) : (s.setRefresh t).pending = s.pending := rfl
@[simp] theorem State.setRefresh_now (t : Timer) : (s.setRefresh t).now = s.now := rfl
@[simp] theorem State.setRefresh_port (t : Timer) : (s.setRefresh t).port = s.port := rfl
@[simp] theorem State.setRefresh_units (t : Timer) : (s.setRefresh t).units = s.units := rfl
@[simp] theorem State.setRefresh_recs (t : Timer) : (s.setRefresh t).recs = s.recs := rfl
@[simp] theorem State.setRefresh_rain (t : Timer) : (s.setRefresh t).rain = s.rain := rfl
@[simp] theorem State.setRefresh_wind (t : Timer) : (s.setRefresh t).wind = s.wind := rfl
@[simp] theorem State.setRefresh_vane (t : Timer) : (s.setRefresh t).vane = s.vane := rfl
@[simp] theorem State.setRefresh_eval (t : Timer) : (s.setRefresh t).eval = s.eval := rfl
@[simp] theorem State.setRefresh_arb (t : Timer) : (s.setRefresh t).arb = s.arb := rfl
@[simp] theorem State.setRefresh_line (t : Timer) : (s.setRefresh t).line = s.line := rfl
@[simp] theorem State.setRefresh_handler (t : Timer) : (s.setRefresh t).handler = { s.handler with refresh := t } := rfl
@[simp] theorem State.setRefresh_panel (t : Timer) : (s.setRefresh t).panel = s.panel := rfl
@[simp] theorem State.setRefresh_flags (t : Timer) : (s.setRefresh t).flags = s.flags := rfl
@[simp] theorem State.setRefresh_reviewDue (t : Timer) : (s.setRefresh t).reviewDue = s.reviewDue := rfl
@[simp] theorem State.setRefresh_evalDue (t : Timer) : (s.setRefresh t).evalDue = s.evalDue := rfl

/-! ### setPanel -/

@[simp] theorem State.setPanel_pending (p : Panel) : (s.setPanel p).pending = s.pending := rfl
@[simp] theorem State.setPanel_now (p : Panel) : (s.setPanel p).now = s.now := rfl
@[simp] theorem State.setPanel_port (p : Panel) : (s.setPanel p).port = s.port := rfl
@[simp] theorem State.setPanel_units (p : Panel) : (s.setPanel p).units = s.units := rfl
@[simp] theorem State.setPanel_recs (p : Panel) : (s.setPanel p).recs = s.recs := rfl
@[simp] theorem State.setPanel_rain (p : Panel) : (s.setPanel p).rain = s.rain := rfl
@[simp] theorem State.setPanel_wind (p : Panel) : (s.setPanel p).wind = s.wind := rfl
@[simp] theorem State.setPanel_vane (p : Panel) : (s.setPanel p).vane = s.vane := rfl
@[simp] theorem State.setPanel_eval (p : Panel) : (s.setPanel p).eval = s.eval := rfl
@[simp] theorem State.setPanel_arb (p : Panel) : (s.setPanel p).arb = s.arb := rfl
@[simp] theorem State.setPanel_line (p : Panel) : (s.setPanel p).line = s.line := rfl
@[simp] theorem State.setPanel_handler (p : Panel) : (s.setPanel p).handler = s.handler := rfl
@[simp] theorem State.setPanel_panel (p : Panel) : (s.setPanel p).panel = p := rfl
@[simp] theorem State.setPanel_flags (p : Panel) : (s.setPanel p).flags = s.flags := rfl
@[simp] theorem State.setPanel_reviewDue (p : Panel) : (s.setPanel p).reviewDue = s.reviewDue := rfl
@[simp] theorem State.setPanel_evalDue (p : Panel) : (s.setPanel p).evalDue = s.evalDue := rfl

/-! ### setLine -/

@[simp] theorem State.setLine_pending (l : LineCtl) : (s.setLine l).pending = s.pending := rfl
@[simp] theorem State.setLine_now (l : LineCtl) : (s.setLine l).now = s.now := rfl
@[simp] theorem State.setLine_port (l : LineCtl) : (s.setLine l).port = s.port := rfl
@[simp] theorem State.setLine_units (l : LineCtl) : (s.setLine l).units = s.units := rfl
@[simp] theorem State.setLine_recs (l : LineCtl) : (s.setLine l).recs = s.recs := rfl
@[simp] theorem State.setLine_rain (l : LineCtl) : (s.setLine l).rain = s.rain := rfl
@[simp] theorem State.setLine_wind (l : LineCtl) : (s.setLine l).wind = s.wind := rfl
@[simp] theorem State.setLine_vane (l : LineCtl) : (s.setLine l).vane = s.vane := rfl
@[simp] theorem State.setLine_eval (l : LineCtl) : (s.setLine l).eval = s.eval := rfl
@[simp] theorem State.setLine_arb (l : LineCtl) : (s.setLine l).arb = s.arb := rfl
@[simp] theorem State.setLine_line (l : LineCtl) : (s.setLine l).line = l := rfl
@[simp] theorem State.setLine_handler (l : LineCtl) : (s.setLine l).handler = s.handler := rfl
@[simp] theorem State.setLine_panel (l : LineCtl) : (s.setLine l).panel = s.panel := rfl
@[simp] theorem State.setLine_flags (l : LineCtl) : (s.setLine l).flags = s.flags := rfl
@[simp] theorem State.setLine_reviewDue (l : LineCtl) : (s.setLine l).reviewDue = s.reviewDue := rfl
@[simp] theorem State.setLine_evalDue (l : LineCtl) : (s.setLine l).evalDue = s.evalDue := rfl

/-! ### setSupply -/

@[simp] theorem State.setSupply_pending (x : Supply) : (s.setSupply x).pending = s.pending := rfl
@[simp] theorem State.setSupply_now (x : Supply) : (s.setSupply x).now = s.now := rfl
@[simp] theorem State.setSupply_port (x : Supply) : (s.setSupply x).port = s.port := rfl
@[simp] theorem State.setSupply_units (x : Supply) : (s.setSupply x).units = s.units := rfl
@[simp] theorem State.setSupply_recs (x : Supply) : (s.setSupply x).recs = s.recs := rfl
@[simp] theorem State.setSupply_rain (x : Supply) : (s.setSupply x).rain = s.rain := rfl
@[simp] theorem State.setSupply_wind (x : Supply) : (s.setSupply x).wind = s.wind := rfl
@[simp] theorem State.setSupply_vane (x : Supply) : (s.setSupply x).vane = s.vane := rfl
@[simp] theorem State.setSupply_eval (x : Supply) : (s.setSupply x).eval = s.eval := rfl
@[simp] theorem State.setSupply_arb (x : Supply) : (s.setSupply x).arb = { s.arb with supply := x } := rfl
@[simp] theorem State.setSupply_line (x : Supply) : (s.setSupply x).line = s.line := rfl
@[simp] theorem State.setSupply_handler (x : Supply) : (s.setSupply x).handler = s.handler := rfl
@[simp] theorem State.setSupply_panel (x : Supply) : (s.setSupply x).panel = s.panel := rfl
@[simp] theorem State.setSupply_flags (x : Supply) : (s.setSupply x).flags = s.flags := rfl
@[simp] theorem State.setSupply_reviewDue (x : Supply) : (s.setSupply x).reviewDue = s.reviewDue := rfl
@[simp] theorem State.setSupply_evalDue (x : Supply) : (s.setSupply x).evalDue = s.evalDue := rfl

/-! ### setDeferred -/

@[simp] theorem State.setDeferred_pending (d : Option Ch) : (s.setDeferred d).pending = s.pending := rfl
@[simp] theorem State.setDeferred_now (d : Option Ch) : (s.setDeferred d).now = s.now := rfl
@[simp] theorem State.setDeferred_port (d : Option Ch) : (s.setDeferred d).port = s.port := rfl
@[simp] theorem State.setDeferred_units (d : Option Ch) : (s.setDeferred d).units = s.units := rfl
@[simp] theorem State.setDeferred_recs (d : Option Ch) : (s.setDeferred d).recs = s.recs := rfl
@[simp] theorem State.setDeferred_rain (d : Option Ch) : (s.setDeferred d).rain = s.rain := rfl
@[simp] theorem State.setDeferred_wind (d : Option Ch) : (s.setDeferred d).wind = s.wind := rfl
@[simp] theorem State.setDeferred_vane (d : Option Ch) : (s.setDeferred d).vane = s.vane := rfl
@[simp] theorem State.setDeferred_eval (d : Option Ch) : (s.setDeferred d).eval = s.eval := rfl
@[simp] theorem State.setDeferred_arb (d : Option Ch) : (s.setDeferred d).arb = { s.arb with deferred := d } := rfl
@[simp] theorem State.setDeferred_line (d : Option Ch) : (s.setDeferred d).line = s.line := rfl
@[simp] theorem State.setDeferred_handler (d : Option Ch) : (s.setDeferred d).handler = s.handler := rfl
@[simp] theorem State.setDeferred_panel (d : Option Ch) : (s.setDeferred d).panel = s.panel := rfl
@[simp] theorem State.setDeferred_flags (d : Option Ch) : (s.setDeferred d).flags = s.flags := rfl
@[simp] theorem State.setDeferred_reviewDue (d : Option Ch) : (s.setDeferred d).reviewDue = s.reviewDue := rfl
@[simp] theorem State.setDeferred_evalDue (d : Option Ch) : (s.setDeferred d).evalDue = s.evalDue := rfl

/-! ### clearEval -/

@[simp] theorem State.clearEval_pending : s.clearEval.pending = s.pending := rfl
@[simp] theorem State.clearEval_now : s.clearEval.now = s.now := rfl
@[simp] theorem State.clearEval_port : s.clearEval.port = s.port := rfl
@[simp] theorem State.clearEval_units : s.clearEval.units = s.units := rfl
@[simp] theorem State.clearEval_recs : s.clearEval.recs = s.recs := rfl
@[simp] theorem State.clearEval_rain : s.clearEval.rain = s.rain := rfl
@[simp] theorem State.clearEval_wind : s.clearEval.wind = s.wind := rfl
@[simp] theorem State.clearEval_vane : s.clearEval.vane = s.vane := rfl
@[simp] theorem State.clearEval_eval : s.clearEval.eval = s.eval := rfl
@[simp] theorem State.clearEval_arb : s.clearEval.arb = s.arb := rfl
@[simp] theorem State.clearEval_line : s.clearEval.line = s.line := rfl
@[simp] theorem State.clearEval_handler : s.clearEval.handler = s.handler := rfl
@[simp] theorem State.clearEval_panel : s.clearEval.panel = s.panel := rfl
@[simp] theorem State.clearEval_flags : s.clearEval.flags = s.flags := rfl
@[simp] theorem State.clearEval_reviewDue : s.clearEval.reviewDue = s.reviewDue := rfl
@[simp] theorem State.clearEval_evalDue : s.clearEval.evalDue = false := rfl

/-! ### askReview, askEval, submit: all but the field each of them is for -/

@[simp] theorem State.askReview_pending : s.askReview.pending = s.pending := by
  unfold State.askReview; split <;> rfl
@[simp] theorem State.askReview_now : s.askReview.now = s.now := by
  unfold State.askReview; split <;> rfl
@[simp] theorem State.askReview_port : s.askReview.port = s.port := by
  unfold State.askReview; split <;> rfl
@[simp] theorem State.askReview_units : s.askReview.units = s.units := by
  unfold State.askReview; split <;> rfl
@[simp] theorem State.askReview_recs : s.askReview.recs = s.recs := by
  unfold State.askReview; split <;> rfl
@[simp] theorem State.askReview_rain : s.askReview.rain = s.rain := by
  unfold State.askReview; split <;> rfl
@[simp] theorem State.askReview_wind : s.askReview.wind = s.wind := by
  unfold State.askReview; split <;> rfl
@[simp] theorem State.askReview_vane : s.askReview.vane = s.vane := by
  unfold State.askReview; split <;> rfl
@[simp] theorem State.askReview_eval : s.askReview.eval = s.eval := by
  unfold State.askReview; split <;> rfl
@[simp] theorem State.askReview_arb : s.askReview.arb = s.arb := by
  unfold State.askReview; split <;> rfl
@[simp] theorem State.askReview_line : s.askReview.line = s.line := by
  unfold State.askReview; split <;> rfl
@[simp] theorem State.askReview_handler : s.askReview.handler = s.handler := by
  unfold State.askReview; split <;> rfl
@[simp] theorem State.askReview_panel : s.askReview.panel = s.panel := by
  unfold State.askReview; split <;> rfl
@[simp] theorem State.askReview_flags : s.askReview.flags = s.flags := by
  unfold State.askReview; split <;> rfl
@[simp] theorem State.askReview_evalDue : s.askReview.evalDue = s.evalDue := by
  unfold State.askReview; split <;> rfl
@[simp] theorem State.askEval_pending : s.askEval.pending = s.pending := by
  unfold State.askEval; split <;> rfl
@[simp] theorem State.askEval_now : s.askEval.now = s.now := by
  unfold State.askEval; split <;> rfl
@[simp] theorem State.askEval_port : s.askEval.port = s.port := by
  unfold State.askEval; split <;> rfl
@[simp] theorem State.askEval_units : s.askEval.units = s.units := by
  unfold State.askEval; split <;> rfl
@[simp] theorem State.askEval_recs : s.askEval.recs = s.recs := by
  unfold State.askEval; split <;> rfl
@[simp] theorem State.askEval_rain : s.askEval.rain = s.rain := by
  unfold State.askEval; split <;> rfl
@[simp] theorem State.askEval_wind : s.askEval.wind = s.wind := by
  unfold State.askEval; split <;> rfl
@[simp] theorem State.askEval_vane : s.askEval.vane = s.vane := by
  unfold State.askEval; split <;> rfl
@[simp] theorem State.askEval_eval : s.askEval.eval = s.eval := by
  unfold State.askEval; split <;> rfl
@[simp] theorem State.askEval_arb : s.askEval.arb = s.arb := by
  unfold State.askEval; split <;> rfl
@[simp] theorem State.askEval_line : s.askEval.line = s.line := by
  unfold State.askEval; split <;> rfl
@[simp] theorem State.askEval_handler : s.askEval.handler = s.handler := by
  unfold State.askEval; split <;> rfl
@[simp] theorem State.askEval_panel : s.askEval.panel = s.panel := by
  unfold State.askEval; split <;> rfl
@[simp] theorem State.askEval_flags : s.askEval.flags = s.flags := by
  unfold State.askEval; split <;> rfl
@[simp] theorem State.askEval_reviewDue : s.askEval.reviewDue = s.reviewDue := by
  unfold State.askEval; split <;> rfl
@[simp] theorem State.submit_pending (e : Notice) (r : Nat) : (s.submit e r).pending = s.pending := by
  unfold State.submit; split <;> rfl
@[simp] theorem State.submit_now (e : Notice) (r : Nat) : (s.submit e r).now = s.now := by
  unfold State.submit; split <;> rfl
@[simp] theorem State.submit_port (e : Notice) (r : Nat) : (s.submit e r).port = s.port := by
  unfold State.submit; split <;> rfl
@[simp] theorem State.submit_units (e : Notice) (r : Nat) : (s.submit e r).units = s.units := by
  unfold State.submit; split <;> rfl
@[simp] theorem State.submit_recs (e : Notice) (r : Nat) : (s.submit e r).recs = s.recs := by
  unfold State.submit; split <;> rfl
@[simp] theorem State.submit_rain (e : Notice) (r : Nat) : (s.submit e r).rain = s.rain := by
  unfold State.submit; split <;> rfl
@[simp] theorem State.submit_wind (e : Notice) (r : Nat) : (s.submit e r).wind = s.wind := by
  unfold State.submit; split <;> rfl
@[simp] theorem State.submit_vane (e : Notice) (r : Nat) : (s.submit e r).vane = s.vane := by
  unfold State.submit; split <;> rfl
@[simp] theorem State.submit_eval (e : Notice) (r : Nat) : (s.submit e r).eval = s.eval := by
  unfold State.submit; split <;> rfl
@[simp] theorem State.submit_arb (e : Notice) (r : Nat) : (s.submit e r).arb = s.arb := by
  unfold State.submit; split <;> rfl
@[simp] theorem State.submit_handler (e : Notice) (r : Nat) : (s.submit e r).handler = s.handler := by
  unfold State.submit; split <;> rfl
@[simp] theorem State.submit_panel (e : Notice) (r : Nat) : (s.submit e r).panel = s.panel := by
  unfold State.submit; split <;> rfl
@[simp] theorem State.submit_flags (e : Notice) (r : Nat) : (s.submit e r).flags = s.flags := by
  unfold State.submit; split <;> rfl
@[simp] theorem State.submit_reviewDue (e : Notice) (r : Nat) : (s.submit e r).reviewDue = s.reviewDue := by
  unfold State.submit; split <;> rfl
@[simp] theorem State.submit_evalDue (e : Notice) (r : Nat) : (s.submit e r).evalDue = s.evalDue := by
  unfold State.submit; split <;> rfl

/-! ### judgeLamp, askRefusal: all but the panel -/

@[simp] theorem State.judgeLamp_pending : s.judgeLamp.pending = s.pending := by
  unfold State.judgeLamp; split <;> rfl
@[simp] theorem State.askRefusal_pending : s.askRefusal.pending = s.pending := rfl
@[simp] theorem State.judgeLamp_now : s.judgeLamp.now = s.now := by
  unfold State.judgeLamp; split <;> rfl
@[simp] theorem State.askRefusal_now : s.askRefusal.now = s.now := rfl
@[simp] theorem State.judgeLamp_port : s.judgeLamp.port = s.port := by
  unfold State.judgeLamp; split <;> rfl
@[simp] theorem State.askRefusal_port : s.askRefusal.port = s.port := rfl
@[simp] theorem State.judgeLamp_units : s.judgeLamp.units = s.units := by
  unfold State.judgeLamp; split <;> rfl
@[simp] theorem State.askRefusal_units : s.askRefusal.units = s.units := rfl
@[simp] theorem State.judgeLamp_recs : s.judgeLamp.recs = s.recs := by
  unfold State.judgeLamp; split <;> rfl
@[simp] theorem State.askRefusal_recs : s.askRefusal.recs = s.recs := rfl
@[simp] theorem State.judgeLamp_rain : s.judgeLamp.rain = s.rain := by
  unfold State.judgeLamp; split <;> rfl
@[simp] theorem State.askRefusal_rain : s.askRefusal.rain = s.rain := rfl
@[simp] theorem State.judgeLamp_wind : s.judgeLamp.wind = s.wind := by
  unfold State.judgeLamp; split <;> rfl
@[simp] theorem State.askRefusal_wind : s.askRefusal.wind = s.wind := rfl
@[simp] theorem State.judgeLamp_vane : s.judgeLamp.vane = s.vane := by
  unfold State.judgeLamp; split <;> rfl
@[simp] theorem State.askRefusal_vane : s.askRefusal.vane = s.vane := rfl
@[simp] theorem State.judgeLamp_eval : s.judgeLamp.eval = s.eval := by
  unfold State.judgeLamp; split <;> rfl
@[simp] theorem State.askRefusal_eval : s.askRefusal.eval = s.eval := rfl
@[simp] theorem State.judgeLamp_arb : s.judgeLamp.arb = s.arb := by
  unfold State.judgeLamp; split <;> rfl
@[simp] theorem State.askRefusal_arb : s.askRefusal.arb = s.arb := rfl
@[simp] theorem State.judgeLamp_line : s.judgeLamp.line = s.line := by
  unfold State.judgeLamp; split <;> rfl
@[simp] theorem State.askRefusal_line : s.askRefusal.line = s.line := rfl
@[simp] theorem State.judgeLamp_handler : s.judgeLamp.handler = s.handler := by
  unfold State.judgeLamp; split <;> rfl
@[simp] theorem State.askRefusal_handler : s.askRefusal.handler = s.handler := rfl
@[simp] theorem State.judgeLamp_flags : s.judgeLamp.flags = s.flags := by
  unfold State.judgeLamp; split <;> rfl
@[simp] theorem State.askRefusal_flags : s.askRefusal.flags = s.flags := rfl
@[simp] theorem State.judgeLamp_reviewDue : s.judgeLamp.reviewDue = s.reviewDue := by
  unfold State.judgeLamp; split <;> rfl
@[simp] theorem State.askRefusal_reviewDue : s.askRefusal.reviewDue = s.reviewDue := rfl
@[simp] theorem State.judgeLamp_evalDue : s.judgeLamp.evalDue = s.evalDue := by
  unfold State.judgeLamp; split <;> rfl
@[simp] theorem State.askRefusal_evalDue : s.askRefusal.evalDue = s.evalDue := rfl

/-! ### noteFaultAck -/

/-- Noting an acknowledge of LINE FAULT changes the note alone, and only the first of them (R132). -/
theorem State.noteFaultAck_eq :
    s.noteFaultAck = { s with line := { s.line with faultAck :=
      if (s.flag .lineFault).raised = true ∧ (s.flag .lineFault).condition = true ∧ s.line.faultAck = none then some s.now
      else s.line.faultAck } } := by
  unfold State.noteFaultAck
  by_cases h : (s.flag .lineFault).raised = true ∧ (s.flag .lineFault).condition = true ∧ s.line.faultAck = none
  · simp [h]
  · rw [if_neg h, if_neg (by simpa [and_assoc] using h)]

end Sys2Proof.Machine
end

