-- ==== Sys2Proof/Laws/Kept.lean ====
section
/-! SUPPORT. What requests, needs, reviews and evaluations leave alone: each operation they are made of keeps `State.kept`, and
so does running to rest. -/

namespace Sys2Proof.Machine

/-! ### Vectors -/

theorem vector_map_set_same {α β : Type} {k : Nat} (v : Vector α k) (f : α → β) (i : Nat) (h : i < k) (x : α)
    (hx : f x = f v[i]) : (v.set i x h).map f = v.map f := by
  apply Vector.ext
  intro j hj
  by_cases hij : i = j
  · subst hij; simp [hx]
  · simp [hij]

/-! ### The single updates -/

theorem setUnit_kept (s : State) (n : Ch) (u : ChanUnit) (h : u.sensed = s.units[n].sensed) :
    (s.setUnit n u).kept = s.kept := by
  have := vector_map_set_same s.units ChanUnit.sensed n.val n.isLt u h
  unfold State.kept State.setUnit
  simp only [Fin.getElem_fin] at *
  rw [this]

theorem setRec_kept (s : State) (n : Ch) (r : ChanRec) (h : r.marks = s.recs[n].marks) :
    (s.setRec n r).kept = s.kept := by
  have := vector_map_set_same s.recs ChanRec.marks n.val n.isLt r h
  unfold State.kept State.setRec
  simp only [Fin.getElem_fin] at *
  rw [this]

theorem setSession_kept (s : State) (p : Option Session) : (s.setSession p).kept = s.kept := rfl

theorem setDeferred_kept (s : State) (d : Option Ch) : (s.setDeferred d).kept = s.kept := rfl

theorem clearEval_kept (s : State) : s.clearEval.kept = s.kept := rfl

theorem askReview_kept (s : State) : s.askReview.kept = s.kept := by
  unfold State.askReview; split <;> rfl

theorem askEval_kept (s : State) : s.askEval.kept = s.kept := by
  unfold State.askEval; split <;> rfl

theorem submit_kept (s : State) (e : Notice) (r : Nat) : (s.submit e r).kept = s.kept := by
  unfold State.submit; split <;> rfl

theorem judgeLamp_kept (s : State) : s.judgeLamp.kept = s.kept := by
  unfold State.judgeLamp; split <;> rfl

theorem submitState_kept (s : State) (n : Ch) : (s.submitState n).kept = s.kept := by
  rw [← submit_kept s (.state n (s.view n)) 12]; rfl

theorem checkView_kept (s : State) (n : Ch) : (s.checkView n).kept = s.kept := by
  unfold State.checkView; split
  · exact submitState_kept s n
  · rfl

theorem submitDraw_kept (s : State) (c : DrawContent) (h : Nat) : (s.submitDraw c h).kept = s.kept := by
  rw [← submit_kept s (.draw c h) s.drawRank]; rfl

theorem checkDraw_kept (s : State) : s.checkDraw.kept = s.kept := by
  unfold State.checkDraw
  split
  · rfl
  · split
    · exact submitDraw_kept _ _ _
    · rfl

theorem checkLastTravel_kept (s : State) (old : ChState) : (s.checkLastTravel old).kept = s.kept := by
  unfold State.checkLastTravel
  split
  · split
    · rfl
    · exact submitDraw_kept _ _ _
  · rfl

/-! ### Drive and channel state -/

theorem driveOff_sensed (u : ChanUnit) : u.driveOff.sensed = u.sensed := by
  unfold ChanUnit.driveOff; split <;> rfl

theorem removeDrive_kept (s : State) (n : Ch) : (s.removeDrive n).kept = s.kept :=
  setUnit_kept _ _ _ (driveOff_sensed _)

theorem recordIndex_kept (s : State) (n : Ch) : (s.recordIndex n).kept = s.kept := by
  unfold State.recordIndex
  split
  · dsimp only
    split
    · exact setUnit_kept _ _ _ rfl
    · rfl
  · rfl

theorem recordMeasure_kept (s : State) (n : Ch) : (s.recordMeasure n).kept = s.kept := by
  unfold State.recordMeasure
  split
  · split
    · split <;> rfl
    · rfl
  · rfl

theorem driveStart_kept (s : State) (n : Ch) (d : Direction) : (s.driveStart n d).kept = s.kept := by
  unfold State.driveStart
  rw [recordMeasure_kept, recordIndex_kept]
  exact setUnit_kept _ _ _ rfl

theorem readied_sensed (u : ChanUnit) (d : Direction) : (u.readied d).sensed = u.sensed := by
  unfold ChanUnit.readied
  split
  · split
    · rfl
    · exact driveOff_sensed _
  · rfl

theorem energise_kept (s : State) (n : Ch) (d : Direction) : (s.energise n d).kept = s.kept := by
  unfold State.energise
  dsimp only
  split
  · rfl
  · split
    · exact setUnit_kept _ _ _ (readied_sensed _ d)
    · rw [driveStart_kept]; exact setUnit_kept _ _ _ (readied_sensed _ d)

theorem applyDrive_kept (s : State) (n : Ch) (old new : ChState) : (s.applyDrive n old new).kept = s.kept := by
  unfold State.applyDrive
  split
  · exact removeDrive_kept _ _
  · exact energise_kept _ _ _
  · split
    · rfl
    · exact energise_kept _ _ _

/-- The one operation that changes a channel's state keeps all that `State.kept` holds. -/
theorem setState_kept (s : State) (n : Ch) (new : ChState) : (s.setState n new).kept = s.kept := by
  unfold State.setState
  dsimp only
  rw [checkLastTravel_kept, judgeLamp_kept, checkView_kept]
  have h : ∀ (b c d : Bool) (x : State), (if b then (if c then (if d then { x with arb := x.arb.leaveRunning n } else x).askEval
      else (if d then { x with arb := x.arb.leaveRunning n } else x)).askReview
      else (if c then (if d then { x with arb := x.arb.leaveRunning n } else x).askEval
      else (if d then { x with arb := x.arb.leaveRunning n } else x))).kept = x.kept := by
    intro b c d x
    cases b <;> cases c <;> cases d <;> simp [askReview_kept, askEval_kept] <;> rfl
  have := h (decide ((s.stateOf n).code ≠ new.code)) (evalAtChange (s.stateOf n) new)
    ((s.stateOf n).isRunning && !new.isRunning)
    ((s.setRec n { s.recs[n] with state := new }).applyDrive n (s.stateOf n) new)
  simp only [decide_eq_true_eq] at this
  rw [this, applyDrive_kept]
  exact setRec_kept _ _ _ rfl

theorem setTravel_kept (s : State) (n : Ch) (t : Travel) : (s.setTravel n t).kept = s.kept := setState_kept _ _ _

theorem toStill_kept (s : State) (n : Ch) : (s.toStill n).kept = s.kept := setState_kept _ _ _

theorem complete_kept (s : State) (n : Ch) : (s.complete n).kept = s.kept := by
  unfold State.complete
  rw [askEval_kept, askReview_kept, toStill_kept]

theorem createTravel_kept (s : State) (n : Ch) (t : Travel) : (s.createTravel n t).kept = s.kept := by
  unfold State.createTravel
  rw [askEval_kept, setState_kept]
  exact setUnit_kept _ _ _ rfl

theorem createTargeted_kept (s : State) (n : Ch) (kd : TravelKind) (x : Nat) (o : Origin) (b : Band) :
    (s.createTargeted n kd x o b).kept = s.kept := by
  unfold State.createTargeted
  split
  · split
    · exact complete_kept _ _
    · exact toStill_kept _ _
  · exact createTravel_kept _ _ _

theorem retarget_kept (s : State) (n : Ch) (t : Travel) (x : Nat) : (s.retarget n t x).kept = s.kept := by
  unfold State.retarget
  split
  · exact complete_kept _ _
  · exact setTravel_kept _ _ _

theorem setBand_kept (s : State) (n : Ch) (t : Travel) (b : Band) (o : Origin) : (s.setBand n t b o).kept = s.kept := by
  unfold State.setBand
  dsimp only
  split
  · exact setTravel_kept _ _ _
  · rw [askEval_kept]; exact setTravel_kept _ _ _

/-! ### Needs and the learn session -/

theorem loseNeed_kept (s : State) (n : Ch) (t : Travel) : (s.loseNeed n t).kept = s.kept := by
  unfold State.loseNeed
  split
  · split <;> first | exact toStill_kept _ _ | rfl
  · rfl

theorem createClose_kept (s : State) (n : Ch) (b : Band) (o : Origin) : (s.createClose n b o).kept = s.kept :=
  createTravel_kept _ _ _

theorem createReference_kept (s : State) (n : Ch) : (s.createReference n).kept = s.kept := createTravel_kept _ _ _

theorem needUnreferenced_kept (s : State) (n : Ch) : (s.needUnreferenced n).kept = s.kept := by
  unfold State.needUnreferenced
  split
  · rfl
  · exact loseNeed_kept _ _ _
  · exact createReference_kept _ _
  · split
    · exact setBand_kept _ _ _ _ _
    · rfl

theorem needClose_kept (s : State) (n : Ch) (b : Band) (o : Origin) : (s.needClose n b o).kept = s.kept := by
  unfold State.needClose
  split
  · exact createClose_kept _ _ _ _
  · split <;>
      first | exact createClose_kept _ _ _ _ | exact setBand_kept _ _ _ _ _ | exact loseNeed_kept _ _ _ | rfl

theorem needReduce_kept (s : State) (n : Ch) (x : Nat) : (s.needReduce n x).kept = s.kept := by
  unfold State.needReduce
  split
  · exact createTargeted_kept _ _ _ _ _ _
  · split
    · split
      · rfl
      · exact retarget_kept _ _ _ _
    · exact loseNeed_kept _ _ _
    · exact loseNeed_kept _ _ _
    · rfl

theorem applyNeed_kept (s : State) (n : Ch) : (s.applyNeed n).kept = s.kept := by
  unfold State.applyNeed
  split
  · split
    · split
      · exact needClose_kept _ _ _ _
      · exact needReduce_kept _ _ _
      · split
        · rfl
        · exact loseNeed_kept _ _ _
    · exact needUnreferenced_kept _ _
  · rfl

theorem endOpen_kept (s : State) (n : Ch) : (s.endOpen n).kept = s.kept := by
  unfold State.endOpen
  split
  · rfl
  · split
    · exact toStill_kept _ _
    · rfl

theorem clampOpen_kept (s : State) (n : Ch) : (s.clampOpen n).kept = s.kept := by
  unfold State.clampOpen
  split
  · split
    · dsimp only
      split
      · rfl
      · split
        · exact complete_kept _ _
        · exact retarget_kept _ _ _ _
    · rfl
  · rfl

theorem dropLearn_kept (s : State) (n : Ch) : (s.dropLearn n).kept = s.kept := by
  unfold State.dropLearn
  split
  · rfl
  · split
    · exact toStill_kept _ _
    · rfl

theorem stopLearn_kept (s : State) (n : Ch) : (s.stopLearn n).kept = s.kept := by
  unfold State.stopLearn
  dsimp only
  split
  · exact dropLearn_kept _ _
  · split
    · rw [setState_kept, dropLearn_kept]
    · rw [applyNeed_kept, dropLearn_kept]

theorem endSession_kept (s : State) : s.endSession.kept = s.kept := by
  unfold State.endSession
  split
  · rfl
  · dsimp only; rw [stopLearn_kept, judgeLamp_kept]; rfl

theorem abortLearn_kept (s : State) : s.abortLearn.kept = s.kept := by
  unfold State.abortLearn
  split
  · rfl
  · split
    · rfl
    · exact endSession_kept _

/-! ### Each channel in turn -/

/-- A step that keeps a projection keeps it over every channel. -/
theorem eachChannel_keeps {α : Type} (p : State → α) (f : Ch → State → State) (h : ∀ n s, p (f n s) = p s) (s : State) :
    p (s.eachChannel f) = p s := by
  simp [State.eachChannel, channels, h]

/-! ### The review -/

theorem handChannel_kept (n : Ch) (s : State) : (State.handChannel n s).kept = s.kept := by
  unfold State.handChannel
  dsimp only
  rw [applyNeed_kept, clampOpen_kept]
  split
  · exact endOpen_kept _ _
  · rfl

/-- A review keeps all that `State.kept` holds. -/
theorem review_kept (s : State) : s.review.kept = s.kept := by
  unfold State.review
  split
  · rfl
  · split
    · rfl
    · dsimp only
      rw [eachChannel_keeps State.kept _ handChannel_kept]
      split
      · rw [abortLearn_kept]; rfl
      · rfl

/-! ### The evaluation -/

theorem yieldChannel_kept (s : State) (n : Ch) : (s.yieldChannel n).kept = s.kept := by
  unfold State.yieldChannel
  split
  · exact setState_kept _ _ _
  · rfl

theorem yieldStep_kept (s : State) (c : RunCfg) : (s.yieldStep c).kept = s.kept := by
  unfold State.yieldStep
  split
  · split
    · rfl
    · split
      · rfl
      · rw [yieldChannel_kept]; rfl
  · rfl

theorem upgrades_kept (c : RunCfg) (l : List Ch) (s : State) : (State.upgrades c l s).kept = s.kept := by
  induction l generalizing s with
  | nil => rfl
  | cons n l ih =>
    unfold State.upgrades
    split
    · split
      · rw [ih, setTravel_kept]
      · rfl
    · rfl

theorem upgradeStep_kept (s : State) (c : RunCfg) : (s.upgradeStep c).kept = s.kept := by
  unfold State.upgradeStep
  split
  · exact upgrades_kept _ _ _
  · rfl

theorem admit_kept (s : State) (n : Ch) (t : Travel) : (s.admitChannel n t).kept = s.kept := by
  unfold State.admitChannel
  split
  · exact complete_kept _ _
  · exact setState_kept _ _ _

theorem admissions_kept (c : RunCfg) (aside : Option Ch) (l : List Ch) (s : State) :
    (State.admissions c aside l s).kept = s.kept := by
  induction l generalizing s with
  | nil => rfl
  | cons n l ih =>
    unfold State.admissions
    split
    · split
      · rw [ih, admit_kept]
      · rfl
    · rfl

theorem afterYield_kept (s : State) (c : RunCfg) (aside : Option Ch) :
    (s.afterYield c aside).kept = s.kept := by
  unfold State.afterYield State.admissionStep
  rw [checkDraw_kept, admissions_kept, upgradeStep_kept]

/-- An evaluation keeps all that `State.kept` holds. -/
theorem evaluate_kept (s : State) : s.evaluate.kept = s.kept := by
  unfold State.evaluate
  split
  · rfl
  · split
    · rfl
    · dsimp only
      split <;> simp only [afterYield_kept, clearEval_kept, yieldStep_kept]

/-! ### Running to rest -/

theorem settle_kept (k : Nat) (s : State) : (State.settle k s).kept = s.kept := by
  induction k generalizing s with
  | zero => rfl
  | succ k ih =>
    unfold State.settle
    split
    · rw [ih, review_kept]; rfl
    · split
      · rw [ih, evaluate_kept]
      · rfl

/-- The end of a command keeps all that `State.kept` holds. -/
theorem finish_kept (s : State) : s.finish.kept = s.kept := by
  unfold State.finish
  rw [checkDraw_kept, settle_kept]

/-! ### The end of LINE FAULT -/

/-- Clearing a flag at its place leaves nothing else changed but the notices and the lamp (R186, R188). -/
theorem clearAt_kept (s : State) (i : Fin 21) :
    (s.clearAt i).kept = (s.setFlag i { s.flags[i] with raised := false }).kept := by
  unfold State.clearAt
  split
  · rw [judgeLamp_kept]; exact submit_kept _ _ _
  · next h =>
    have : ({ s.flags[i] with raised := false } : Flag) = s.flags[i] := by
      cases hf : s.flags[i] with
      | mk r c => simp_all
    rw [this]
    unfold State.setFlag
    simp

/-- The end of the LINE FAULT condition clears its mark, the note, and the flag where it has been acknowledged (R132, R184). -/
theorem endLineFault_kept (s : State) :
    s.endLineFault.kept = (({ s with line := { s.line with faultAck := none } } : State).setFlag FlagId.lineFault.index
      { raised := (s.flag .lineFault).raised && !s.faultAcked, condition := false }).kept := by
  unfold State.endLineFault
  by_cases h : s.faultAcked = true
  · simp only [h, if_true, clearAt_kept]
    simp [State.endCondition, State.setCondition, State.setFlag]
  · simp only [h, if_false, Bool.false_eq_true]
    simp [State.endCondition, State.setCondition, State.setFlag, State.flag]

/-! ### What `State.kept` says of each field -/

section fields

variable {s t : State} (h : t.kept = s.kept)
include h

theorem kept_pending : t.pending = s.pending := congrArg (·.pending) h
theorem kept_now : t.now = s.now := congrArg (·.now) h
theorem kept_ownAddress : t.port.ownAddress = s.port.ownAddress := congrArg (·.port.ownAddress) h
theorem kept_read : t.port.read = s.port.read := congrArg (·.port.read) h
theorem kept_image : t.port.image = s.port.image := congrArg (·.port.image) h
theorem kept_config : t.port.config = s.port.config := congrArg (·.port.config) h
theorem kept_restart : t.port.restart = s.port.restart := congrArg (·.port.restart) h
theorem kept_rain : t.rain = s.rain := congrArg (·.rain) h
theorem kept_wind : t.wind = s.wind := congrArg (·.wind) h
theorem kept_vane : t.vane = s.vane := congrArg (·.vane) h
theorem kept_timer : t.eval.timer = s.eval.timer := congrArg (·.eval.timer) h
theorem kept_supply : t.arb.supply = s.arb.supply := congrArg (·.arb.supply) h
theorem kept_listening : t.arb.listening = s.arb.listening := congrArg (·.arb.listening) h
theorem kept_mode : t.line.mode = s.line.mode := congrArg (·.line.mode) h
theorem kept_faultAck : t.line.faultAck = s.line.faultAck := congrArg (·.line.faultAck) h
theorem kept_failures : t.line.failures = s.line.failures := congrArg (·.line.failures) h
theorem kept_idle : t.line.idle = s.line.idle := congrArg (·.line.idle) h
theorem kept_receiving : t.line.receiving = s.line.receiving := congrArg (·.line.receiving) h
theorem kept_tx : t.line.tx = s.line.tx := congrArg (·.line.tx) h
theorem kept_queue : t.line.queue = s.line.queue := congrArg (·.line.queue) h
theorem kept_inHand : t.handler.inHand = s.handler.inHand := congrArg (·.handler.inHand) h
theorem kept_peers : t.handler.peers = s.handler.peers := congrArg (·.handler.peers) h
theorem kept_isolated : t.handler.isolated = s.handler.isolated := congrArg (·.handler.isolated) h
theorem kept_isolation : t.handler.isolation = s.handler.isolation := congrArg (·.handler.isolation) h
theorem kept_lastOverflow : t.handler.lastOverflow = s.handler.lastOverflow := congrArg (·.handler.lastOverflow) h
theorem kept_overflow : t.handler.overflow = s.handler.overflow := congrArg (·.handler.overflow) h
theorem kept_refresh : t.handler.refresh = s.handler.refresh := congrArg (·.handler.refresh) h
theorem kept_gustTimer : t.handler.gustTimer = s.handler.gustTimer := congrArg (·.handler.gustTimer) h
theorem kept_lastGust : t.handler.lastGust = s.handler.lastGust := congrArg (·.handler.lastGust) h
theorem kept_active : t.panel.active = s.panel.active := congrArg (·.panel.active) h
theorem kept_levels : t.panel.levels = s.panel.levels := congrArg (·.panel.levels) h
theorem kept_refusal_pattern : t.panel.refusal = s.panel.refusal := congrArg (·.panel.refusal) h
theorem kept_judging : t.panel.judging = s.panel.judging := congrArg (·.panel.judging) h
theorem kept_flags : t.flags = s.flags := congrArg (·.flags) h

theorem kept_sensed (n : Ch) : t.units[n].sensed = s.units[n].sensed := by
  have := congrArg (fun x : State => x.units[n]) h
  simpa [State.kept] using this

theorem kept_count (n : Ch) : t.units[n].count = s.units[n].count := congrArg (·.count) (kept_sensed h n)

theorem kept_marks (n : Ch) : t.recs[n].marks = s.recs[n].marks := by
  have := congrArg (fun x : State => x.recs[n]) h
  simpa [State.kept] using this

theorem kept_referenced (n : Ch) : t.recs[n].referenced = s.recs[n].referenced :=
  congrArg (·.referenced) (kept_marks h n)

theorem kept_consoleHold (n : Ch) : t.recs[n].consoleHold = s.recs[n].consoleHold :=
  congrArg (·.consoleHold) (kept_marks h n)

theorem kept_refusal (n : Ch) : t.recs[n].refusal = s.recs[n].refusal := congrArg (·.refusal) (kept_marks h n)

theorem kept_chan (n : Ch) : t.chan? n = s.chan? n := by
  unfold State.chan?; rw [kept_config h]

end fields

end Sys2Proof.Machine
end

