-- ==== Sys2Proof/Laws/Pool.lean ====
section
/-! SUPPORT. The transmit pool: what placing, submitting and returning a notice do to the WAITING notices (R136 to R140). -/

namespace Sys2Proof.Machine

theorem poolInsert_length (e : PoolEntry) (w : List PoolEntry) : (poolInsert e w).length = w.length + 1 := by
  induction w with
  | nil => rfl
  | cons f w ih => unfold poolInsert; split <;> simp [ih]

/-- Placing a notice adds it and nothing else. -/
theorem mem_poolInsert (e f : PoolEntry) (w : List PoolEntry) : f ∈ poolInsert e w ↔ f = e ∨ f ∈ w := by
  induction w with
  | nil => simp [poolInsert]
  | cons g w ih =>
    unfold poolInsert
    split
    · simp
    · simp only [List.mem_cons, ih]; tauto

theorem lessUrgent_mem (e f : PoolEntry) : lessUrgent e f = e ∨ lessUrgent e f = f := by
  unfold lessUrgent; split <;> simp

theorem foldl_lessUrgent_mem (w : List PoolEntry) (e : PoolEntry) : w.foldl lessUrgent e ∈ e :: w := by
  induction w generalizing e with
  | nil => simp
  | cons f w ih =>
    have := ih (lessUrgent e f)
    rcases lessUrgent_mem e f with h | h <;> rw [List.foldl_cons] <;> rw [h] at this ⊢ <;>
      simp only [List.mem_cons] at this ⊢ <;> tauto

/-- The least urgent notice is one of the WAITING ones. -/
theorem leastUrgent_mem {w : List PoolEntry} {v : PoolEntry} (h : leastUrgent w = some v) : v ∈ w := by
  cases w with
  | nil => simp [leastUrgent] at h
  | cons e w => simp only [leastUrgent, Option.some.injEq] at h; rw [← h]; exact foldl_lessUrgent_mem w e

/-- A submission leaves a pool that was within its capacity within it (R136, R140). -/
theorem poolSubmit_length (locked : Nat) (e : PoolEntry) (w : List PoolEntry)
    (h : w.length + locked ≤ Config.poolCapacity) : (poolSubmit locked e w).length + locked ≤ Config.poolCapacity := by
  unfold poolSubmit
  split
  · rename_i old hold
    have hm := List.mem_of_find?_eq_some hold
    have := List.length_erase_of_mem hm
    have := List.length_pos_of_mem hm
    rw [poolInsert_length]; omega
  · split
    · rename_i hlt; rw [poolInsert_length]; omega
    · split
      · exact h
      · rename_i v hv
        split
        · have hm := leastUrgent_mem hv
          have := List.length_erase_of_mem hm
          have := List.length_pos_of_mem hm
          rw [poolInsert_length]; omega
        · exact h

/-- A submission leaves all of the line controller but the WAITING notices and their order counter. -/
theorem submit_line (s : State) (n : Notice) (r : Nat) :
    (s.submit n r).line = { s.line with
      nextSeq := (s.submit n r).line.nextSeq, waiting := (s.submit n r).line.waiting } := by
  unfold State.submit; split <;> rfl

theorem submit_poolSize (s : State) (n : Notice) (r : Nat) (h : s.line.poolSize ≤ Config.poolCapacity) :
    (s.submit n r).line.poolSize ≤ Config.poolCapacity := by
  unfold State.submit
  split
  · exact h
  · unfold LineCtl.poolSize at h ⊢
    exact poolSubmit_length _ _ _ h

theorem poolReturn_length (e : PoolEntry) (w : List PoolEntry) : (poolReturn e w).length ≤ w.length + 1 := by
  unfold poolReturn
  split
  · omega
  · rw [poolInsert_length]

/-! ### Bit times -/

/-- A bit time moves the transmitter on and may make the line BUSY; the notice it has LOCKED, and so the pool, stay. -/
theorem LineCtl.bitTime_eq (l : LineCtl) :
    l.bitTime = { l with tx := l.bitTime.tx, idle := l.bitTime.idle } ∧ l.bitTime.tx.locked? = l.tx.locked? ∧
      (l.bitTime.idle = true → l.idle = true) := by
  unfold LineCtl.bitTime
  split
  · exact ⟨rfl, rfl, id⟩
  · rename_i h
    refine ⟨rfl, by rw [h]; rfl, ?_⟩
    dsimp only
    split
    · intro h0; cases h0
    · exact id
  · rename_i h
    exact ⟨rfl, by rw [h]; rfl, id⟩

@[simp] theorem State.bitTime_line (s : State) : s.bitTime.line = s.line.bitTime := rfl

theorem State.bitTime_eq (s : State) : s.bitTime = s.setLine s.line.bitTime := rfl

end Sys2Proof.Machine
end

