-- ==== Sys2Proof/Laws/ChannelState.lean ====
section
/-! SUPPORT. What a change of a channel's state does (R15, R25): the records, the other channels' units, the evaluator's results,
the drive, the pool. -/

namespace Sys2Proof.Machine

/-! ### The reports -/

@[simp] theorem submitState_recs (s : State) (n : Ch) : (s.submitState n).recs = s.recs := by
  simp [State.submitState]

@[simp] theorem submitState_units (s : State) (n : Ch) : (s.submitState n).units = s.units := by
  simp [State.submitState]

@[simp] theorem submitState_eval (s : State) (n : Ch) : (s.submitState n).eval = s.eval := by
  simp [State.submitState]

@[simp] theorem submitState_port (s : State) (n : Ch) : (s.submitState n).port = s.port := by
  simp [State.submitState]

@[simp] theorem checkView_recs (s : State) (n : Ch) : (s.checkView n).recs = s.recs := by
  unfold State.checkView; split <;> simp

@[simp] theorem checkView_units (s : State) (n : Ch) : (s.checkView n).units = s.units := by
  unfold State.checkView; split <;> simp

@[simp] theorem checkView_eval (s : State) (n : Ch) : (s.checkView n).eval = s.eval := by
  unfold State.checkView; split <;> simp

@[simp] theorem checkView_port (s : State) (n : Ch) : (s.checkView n).port = s.port := by
  unfold State.checkView; split <;> simp

theorem submitState_poolSize (s : State) (n : Ch) (h : s.line.poolSize ≤ Config.poolCapacity) :
    (s.submitState n).line.poolSize ≤ Config.poolCapacity := submit_poolSize _ _ _ h

theorem checkView_poolSize (s : State) (n : Ch) (h : s.line.poolSize ≤ Config.poolCapacity) :
    (s.checkView n).line.poolSize ≤ Config.poolCapacity := by
  unfold State.checkView; split
  · exact submitState_poolSize _ _ h
  · exact h

/-- All that the end of a travel does for R117: nothing, or the final DRAW of a circuit whose DRAWs may be submitted. -/
theorem checkLastTravel_cases (s : State) (old : ChState) :
    (s.checkLastTravel old = s ∧ (old.travel?.isSome = true → s.anyTravel = false → s.drawCircuit? = none)) ∨
    ∃ c, old.travel?.isSome = true ∧ s.anyTravel = false ∧ s.drawCircuit? = some c ∧
      s.checkLastTravel old = s.submitFinalDraw c := by
  unfold State.checkLastTravel
  split
  · rename_i h
    simp only [Bool.and_eq_true, Bool.not_eq_true'] at h
    split
    · exact .inl ⟨rfl, fun _ _ => by assumption⟩
    · exact .inr ⟨_, h.1, h.2, by assumption, rfl⟩
  · rename_i h
    simp only [Bool.and_eq_true, Bool.not_eq_true', not_and, Bool.not_eq_false] at h
    exact .inl ⟨rfl, fun h1 h2 => by simp [h h1] at h2⟩

@[simp] theorem checkLastTravel_recs (s : State) (old : ChState) : (s.checkLastTravel old).recs = s.recs := by
  obtain ⟨h, -⟩ | ⟨c, -, -, -, h⟩ := checkLastTravel_cases s old <;> simp [h, State.submitFinalDraw, State.submitDraw]

@[simp] theorem checkLastTravel_units (s : State) (old : ChState) : (s.checkLastTravel old).units = s.units := by
  obtain ⟨h, -⟩ | ⟨c, -, -, -, h⟩ := checkLastTravel_cases s old <;> simp [h, State.submitFinalDraw, State.submitDraw]

@[simp] theorem checkLastTravel_eval (s : State) (old : ChState) : (s.checkLastTravel old).eval = s.eval := by
  obtain ⟨h, -⟩ | ⟨c, -, -, -, h⟩ := checkLastTravel_cases s old <;> simp [h, State.submitFinalDraw, State.submitDraw]

theorem checkLastTravel_poolSize (s : State) (old : ChState) (h : s.line.poolSize ≤ Config.poolCapacity) :
    (s.checkLastTravel old).line.poolSize ≤ Config.poolCapacity := by
  obtain ⟨e, -⟩ | ⟨c, -, -, -, e⟩ := checkLastTravel_cases s old
  · rw [e]; exact h
  · rw [e]; exact submit_poolSize _ _ _ h

/-! ### The drive -/

theorem driveOff_drive (u : ChanUnit) : u.driveOff.drive = .off := by
  unfold ChanUnit.driveOff
  split
  · assumption
  · rfl
  · rfl
  · rfl

@[simp] theorem recordIndex_recs (s : State) (n : Ch) : (s.recordIndex n).recs = s.recs := by
  unfold State.recordIndex
  split
  · dsimp only; split <;> simp
  · rfl

@[simp] theorem recordIndex_eval (s : State) (n : Ch) : (s.recordIndex n).eval = s.eval := by
  unfold State.recordIndex
  split
  · dsimp only; split <;> simp
  · rfl

@[simp] theorem recordIndex_line (s : State) (n : Ch) : (s.recordIndex n).line = s.line := by
  unfold State.recordIndex
  split
  · dsimp only; split <;> simp
  · rfl

theorem recordIndex_unit_ne (s : State) (n m : Ch) (h : m ≠ n) : (s.recordIndex n).units[m] = s.units[m] := by
  have h' : n.val ≠ m.val := fun hh => h (Fin.ext hh.symm)
  unfold State.recordIndex
  split
  · dsimp only
    split
    · simp [h']
    · rfl
  · rfl

theorem recordIndex_drive (s : State) (n m : Ch) : (s.recordIndex n).units[m].drive = s.units[m].drive := by
  unfold State.recordIndex
  split
  · dsimp only
    split
    · by_cases h : n.val = m.val
      · have : n = m := Fin.ext h
        subst this; simp
      · simp [h]
    · rfl
  · rfl

@[simp] theorem recordMeasure_recs (s : State) (n : Ch) : (s.recordMeasure n).recs = s.recs := by
  unfold State.recordMeasure; split <;> [skip; rfl]; split <;> [skip; rfl]; split <;> rfl

@[simp] theorem recordMeasure_units (s : State) (n : Ch) : (s.recordMeasure n).units = s.units := by
  unfold State.recordMeasure; split <;> [skip; rfl]; split <;> [skip; rfl]; split <;> rfl

@[simp] theorem recordMeasure_eval (s : State) (n : Ch) : (s.recordMeasure n).eval = s.eval := by
  unfold State.recordMeasure; split <;> [skip; rfl]; split <;> [skip; rfl]; split <;> rfl

@[simp] theorem recordMeasure_line (s : State) (n : Ch) : (s.recordMeasure n).line = s.line := by
  unfold State.recordMeasure; split <;> [skip; rfl]; split <;> [skip; rfl]; split <;> rfl

/-- A drive start puts the drive in RAMP (R15). -/
theorem driveStart_drive (s : State) (n : Ch) (d : Direction) : (s.driveStart n d).units[n].drive = .ramp d 0 := by
  simp only [State.driveStart, recordMeasure_units]
  rw [recordIndex_drive]
  simp [State.setUnit, ChanUnit.startDrive]

theorem driveStart_unit_ne (s : State) (n m : Ch) (d : Direction) (h : m ≠ n) :
    (s.driveStart n d).units[m] = s.units[m] := by
  have h' : n.val ≠ m.val := fun hh => h (Fin.ext hh.symm)
  simp only [State.driveStart, recordMeasure_units]
  rw [recordIndex_unit_ne _ _ _ h]
  simp [State.setUnit, h']

@[simp] theorem energise_recs (s : State) (n : Ch) (d : Direction) : (s.energise n d).recs = s.recs := by
  unfold State.energise State.driveStart; dsimp only; split <;> [rfl; split] <;> simp

@[simp] theorem energise_eval (s : State) (n : Ch) (d : Direction) : (s.energise n d).eval = s.eval := by
  unfold State.energise State.driveStart; dsimp only; split <;> [rfl; split] <;> simp

@[simp] theorem energise_line (s : State) (n : Ch) (d : Direction) : (s.energise n d).line = s.line := by
  unfold State.energise State.driveStart; dsimp only; split <;> [rfl; split] <;> simp

theorem energise_unit_ne (s : State) (n m : Ch) (d : Direction) (h : m ≠ n) :
    (s.energise n d).units[m] = s.units[m] := by
  have h' : n.val ≠ m.val := fun hh => h (Fin.ext hh.symm)
  unfold State.energise; dsimp only
  split
  · rfl
  · split
    · simp [h']
    · rw [driveStart_unit_ne _ _ _ _ h]; simp [State.setUnit, h']

/-- An energised drive runs, or waits in DEAD, in the direction given (R15, R17). -/
theorem energise_dir (s : State) (n : Ch) (d : Direction) : (s.energise n d).units[n].drive.dir? = some d := by
  unfold State.energise; dsimp only
  split
  · rename_i h
    unfold ChanUnit.readied at h
    have key : s.units[n].drive.driven? = some d := by
      split at h
      · rename_i d' hd
        split at h
        · exact h
        · rw [driveOff_drive] at h; simp [DriveState.driven?] at h
      · exact h
    revert key
    cases s.units[n].drive <;> simp [DriveState.driven?, DriveState.dir?]
  · split
    · simp [State.setUnit, DriveState.dir?]
    · rw [driveStart_drive]; rfl

@[simp] theorem removeDrive_recs (s : State) (n : Ch) : (s.removeDrive n).recs = s.recs := rfl
@[simp] theorem removeDrive_eval (s : State) (n : Ch) : (s.removeDrive n).eval = s.eval := rfl
@[simp] theorem removeDrive_line (s : State) (n : Ch) : (s.removeDrive n).line = s.line := rfl

theorem removeDrive_unit_ne (s : State) (n m : Ch) (h : m ≠ n) : (s.removeDrive n).units[m] = s.units[m] := by
  have h' : n.val ≠ m.val := fun hh => h (Fin.ext hh.symm)
  simp [State.removeDrive, h']

@[simp] theorem applyDrive_recs (s : State) (n : Ch) (o w : ChState) : (s.applyDrive n o w).recs = s.recs := by
  unfold State.applyDrive; split <;> [simp; simp; (split <;> simp)]

@[simp] theorem applyDrive_eval (s : State) (n : Ch) (o w : ChState) : (s.applyDrive n o w).eval = s.eval := by
  unfold State.applyDrive; split <;> [simp; simp; (split <;> simp)]

@[simp] theorem applyDrive_line (s : State) (n : Ch) (o w : ChState) : (s.applyDrive n o w).line = s.line := by
  unfold State.applyDrive; split <;> [simp; simp; (split <;> simp)]

theorem applyDrive_unit_ne (s : State) (n m : Ch) (o w : ChState) (h : m ≠ n) :
    (s.applyDrive n o w).units[m] = s.units[m] := by
  unfold State.applyDrive
  split
  · exact removeDrive_unit_ne _ _ _ h
  · exact energise_unit_ne _ _ _ _ h
  · split
    · rfl
    · exact energise_unit_ne _ _ _ _ h

/-- After a change of state the drive agrees with the new state, if it agreed with the old one (R15). -/
theorem applyDrive_dir (s : State) (n : Ch) (o w : ChState)
    (h : ∀ d, s.units[n].drive.dir? = some d → o.driveDir? = some d) :
    ∀ d, (s.applyDrive n o w).units[n].drive.dir? = some d → w.driveDir? = some d := by
  intro d
  unfold State.applyDrive
  split
  · rename_i hw
    intro hd
    simp only [State.removeDrive, State.setUnit, Fin.getElem_fin, Vector.getElem_set_self] at hd
    rw [driveOff_drive] at hd; simp [DriveState.dir?] at hd
  · rename_i ho hw
    rw [energise_dir, hw]; exact id
  · rename_i d' e ho hw
    split
    · rename_i hc
      intro hd
      have := h d hd
      simp only [Bool.and_eq_true, decide_eq_true_eq] at hc
      rw [ho] at this; rw [hw, ← hc.1]; exact this
    · rw [energise_dir, hw]; exact id

/-! ### The change of state -/

theorem setState_pre (s : State) (n : Ch) (new : ChState) :
    ∃ t : State, s.setState n new = ((t.checkView n).judgeLamp).checkLastTravel (s.stateOf n) ∧
      t.recs = s.recs.set n { s.recs[n] with state := new } ∧
      t.units = ((s.setRec n { s.recs[n] with state := new }).applyDrive n (s.stateOf n) new).units ∧
      t.eval = s.eval ∧ t.line = s.line := by
  refine ⟨_, rfl, ?_, ?_, ?_, ?_⟩ <;> dsimp only <;> split <;> split <;> split <;> simp

/-- The records after a change of state. -/
theorem setState_recs (s : State) (n : Ch) (new : ChState) :
    (s.setState n new).recs = s.recs.set n { s.recs[n] with state := new } := by
  obtain ⟨t, ht, hr, -⟩ := setState_pre s n new
  rw [ht]; simp [hr]

theorem setState_eval (s : State) (n : Ch) (new : ChState) : (s.setState n new).eval = s.eval := by
  obtain ⟨t, ht, -, -, he, -⟩ := setState_pre s n new
  rw [ht]; simp [he]

/-- The channel is in the new state. -/
theorem stateOf_setState (s : State) (n : Ch) (new : ChState) : (s.setState n new).stateOf n = new := by
  simp [State.stateOf, setState_recs]

/-- The other channels stay in theirs. -/
theorem stateOf_setState_ne (s : State) (n m : Ch) (new : ChState) (h : m ≠ n) :
    (s.setState n new).stateOf m = s.stateOf m := by
  have h' : n.val ≠ m.val := fun hh => h (Fin.ext hh.symm)
  simp [State.stateOf, setState_recs, h']

/-- The other channels' units are untouched. -/
theorem setState_unit_ne (s : State) (n m : Ch) (new : ChState) (h : m ≠ n) :
    (s.setState n new).units[m] = s.units[m] := by
  obtain ⟨t, ht, -, hu, -⟩ := setState_pre s n new
  rw [ht]
  simp only [checkLastTravel_units, State.judgeLamp_units, checkView_units, hu]
  rw [applyDrive_unit_ne _ _ _ _ _ h]
  rfl

/-- A change of state keeps every drive in agreement with its channel's state. -/
theorem setState_driveOk (s : State) (n : Ch) (new : ChState) (h : s.DriveOk) : (s.setState n new).DriveOk := by
  intro m d hd
  by_cases hm : m = n
  · subst hm
    rw [stateOf_setState]
    obtain ⟨t, ht, -, hu, -⟩ := setState_pre s m new
    rw [ht] at hd
    simp only [checkLastTravel_units, State.judgeLamp_units, checkView_units, hu] at hd
    refine applyDrive_dir _ m (s.stateOf m) new ?_ d hd
    intro e he
    exact h m e he
  · rw [stateOf_setState_ne _ _ _ _ hm]
    rw [setState_unit_ne _ _ _ _ hm] at hd
    exact h m d hd

theorem setState_poolSize (s : State) (n : Ch) (new : ChState) (h : s.line.poolSize ≤ Config.poolCapacity) :
    (s.setState n new).line.poolSize ≤ Config.poolCapacity := by
  obtain ⟨t, ht, -, -, -, hl⟩ := setState_pre s n new
  rw [ht]
  refine checkLastTravel_poolSize _ _ ?_
  simp only [State.judgeLamp_line]
  exact checkView_poolSize _ _ (by rw [hl]; exact h)

end Sys2Proof.Machine
end

