-- ==== Sys2Proof/Laws/Judged.lean ====
section
/-! SUPPORT. Needs, learn sessions and evaluations keep the evaluator's record; a review leaves it in agreement with the inputs
(R96), and running to rest keeps it so. -/

namespace Sys2Proof.Machine

/-! ### What keeps the evaluator's record -/

@[simp] theorem setTravel_eval (s : State) (n : Ch) (t : Travel) : (s.setTravel n t).eval = s.eval := setState_eval _ _ _

@[simp] theorem toStill_eval (s : State) (n : Ch) : (s.toStill n).eval = s.eval := setState_eval _ _ _

@[simp] theorem complete_eval (s : State) (n : Ch) : (s.complete n).eval = s.eval := by simp [State.complete]

@[simp] theorem createTravel_eval (s : State) (n : Ch) (t : Travel) : (s.createTravel n t).eval = s.eval := by
  simp [State.createTravel, setState_eval]

@[simp] theorem createTargeted_eval (s : State) (n : Ch) (kd : TravelKind) (x : Nat) (o : Origin) (b : Band) :
    (s.createTargeted n kd x o b).eval = s.eval := by
  unfold State.createTargeted
  split
  · split <;> simp
  · simp

@[simp] theorem retarget_eval (s : State) (n : Ch) (t : Travel) (x : Nat) : (s.retarget n t x).eval = s.eval := by
  unfold State.retarget; split <;> simp

@[simp] theorem setBand_eval (s : State) (n : Ch) (t : Travel) (b : Band) (o : Origin) :
    (s.setBand n t b o).eval = s.eval := by
  unfold State.setBand; dsimp only; split <;> simp

@[simp] theorem loseNeed_eval (s : State) (n : Ch) (t : Travel) : (s.loseNeed n t).eval = s.eval := by
  unfold State.loseNeed
  split
  · split <;> simp
  · rfl

@[simp] theorem createClose_eval (s : State) (n : Ch) (b : Band) (o : Origin) : (s.createClose n b o).eval = s.eval :=
  createTravel_eval _ _ _

@[simp] theorem createReference_eval (s : State) (n : Ch) : (s.createReference n).eval = s.eval := createTravel_eval _ _ _

@[simp] theorem needUnreferenced_eval (s : State) (n : Ch) : (s.needUnreferenced n).eval = s.eval := by
  unfold State.needUnreferenced
  split
  · rfl
  · simp
  · simp
  · split <;> simp

@[simp] theorem needClose_eval (s : State) (n : Ch) (b : Band) (o : Origin) : (s.needClose n b o).eval = s.eval := by
  unfold State.needClose
  split
  · simp
  · split <;> simp

@[simp] theorem needReduce_eval (s : State) (n : Ch) (x : Nat) : (s.needReduce n x).eval = s.eval := by
  unfold State.needReduce
  split
  · simp
  · split
    · split <;> simp
    · simp
    · simp
    · rfl

@[simp] theorem applyNeed_eval (s : State) (n : Ch) : (s.applyNeed n).eval = s.eval := by
  unfold State.applyNeed
  split
  · split
    · split
      · simp
      · simp
      · split <;> simp
    · simp
  · rfl

@[simp] theorem endOpen_eval (s : State) (n : Ch) : (s.endOpen n).eval = s.eval := by
  unfold State.endOpen
  split
  · rfl
  · split <;> simp

@[simp] theorem clampOpen_eval (s : State) (n : Ch) : (s.clampOpen n).eval = s.eval := by
  unfold State.clampOpen
  split
  · split
    · dsimp only
      split
      · rfl
      · split <;> simp
    · rfl
  · rfl

@[simp] theorem dropLearn_eval (s : State) (n : Ch) : (s.dropLearn n).eval = s.eval := by
  unfold State.dropLearn
  split
  · rfl
  · split <;> simp

@[simp] theorem stopLearn_eval (s : State) (n : Ch) : (s.stopLearn n).eval = s.eval := by
  unfold State.stopLearn
  dsimp only
  split
  · simp
  · split <;> simp [setState_eval]

@[simp] theorem endSession_eval (s : State) : s.endSession.eval = s.eval := by
  unfold State.endSession
  split
  · rfl
  · simp

@[simp] theorem abortLearn_eval (s : State) : s.abortLearn.eval = s.eval := by
  unfold State.abortLearn
  split
  · rfl
  · split <;> simp

@[simp] theorem handChannel_eval (n : Ch) (s : State) : (State.handChannel n s).eval = s.eval := by
  unfold State.handChannel
  dsimp only
  split <;> simp

@[simp] theorem submitDraw_eval (s : State) (c : DrawContent) (h : Nat) : (s.submitDraw c h).eval = s.eval := by
  simp [State.submitDraw]

@[simp] theorem checkDraw_eval (s : State) : s.checkDraw.eval = s.eval := by
  unfold State.checkDraw
  split
  · rfl
  · split
    · exact submitDraw_eval _ _ _
    · rfl

@[simp] theorem yieldStep_eval (s : State) (c : RunCfg) : (s.yieldStep c).eval = s.eval := by
  unfold State.yieldStep
  split
  · split
    · rfl
    · split
      · rfl
      · unfold State.yieldChannel
        split
        · rw [setState_eval]; rfl
        · rfl
  · rfl

@[simp] theorem upgrades_eval (c : RunCfg) (l : List Ch) (s : State) : (State.upgrades c l s).eval = s.eval := by
  induction l generalizing s with
  | nil => rfl
  | cons n l ih =>
    unfold State.upgrades
    split
    · split
      · rw [ih, setTravel_eval]
      · rfl
    · rfl

@[simp] theorem admissions_eval (c : RunCfg) (aside : Option Ch) (l : List Ch) (s : State) :
    (State.admissions c aside l s).eval = s.eval := by
  induction l generalizing s with
  | nil => rfl
  | cons n l ih =>
    unfold State.admissions
    split
    · split
      · rw [ih]
        unfold State.admitChannel
        split
        · simp
        · exact setState_eval _ _ _
      · rfl
    · rfl

@[simp] theorem afterYield_eval (s : State) (c : RunCfg) (aside : Option Ch) :
    (s.afterYield c aside).eval = s.eval := by
  unfold State.afterYield State.upgradeStep State.admissionStep
  rw [checkDraw_eval, admissions_eval]
  split
  · rw [upgrades_eval]
  · rfl

@[simp] theorem clearEval_eval (s : State) : s.clearEval.eval = s.eval := rfl

/-- An evaluation keeps the evaluator's record. -/
@[simp] theorem evaluate_eval (s : State) : s.evaluate.eval = s.eval := by
  unfold State.evaluate
  split
  · rfl
  · split
    · rfl
    · dsimp only
      split <;> simp only [afterYield_eval, clearEval_eval, yieldStep_eval]

/-! ### Agreement with the inputs -/

section agreement

variable {s t : State} (h : t.kept = s.kept)
include h

theorem kept_rereading : t.rereading = s.rereading := by
  unfold State.rereading; rw [kept_restart h, kept_read h]

theorem kept_deciding : t.deciding = s.deciding := by
  unfold State.deciding; rw [kept_config h, kept_rereading h]

theorem kept_closed (n : Ch) : t.closed n = s.closed n := by
  unfold State.closed; rw [kept_chan h, kept_referenced h, kept_count h]

theorem kept_workingWind : t.workingWind = s.workingWind := by
  unfold State.workingWind State.windSources State.reportOffered
  rw [kept_config h, kept_wind h, kept_vane h, kept_peers h]

theorem kept_threatArrival (c : RunCfg) (v d : Nat) : t.threatArrival c v d = s.threatArrival c v d := by
  unfold State.threatArrival State.peerArrivals
  rw [kept_rain h, kept_now h, kept_peers h]

theorem kept_evalChannel (n : Ch) (v : Nat) (a : Option Nat) : t.evalChannel n v a = s.evalChannel n v a := by
  unfold State.evalChannel State.needFor State.closeLevelActive State.isolationClose
  rw [kept_chan h, kept_closed h, kept_referenced h, kept_count h, kept_now h, kept_config h, kept_active h, kept_isolated h]

/-- Agreement is a matter of what `State.kept` holds and of the evaluator's record. -/
theorem judged_of_kept (he : t.eval = s.eval) (hs : s.Judged) : t.Judged := by
  intro c hc hr
  rw [kept_config h] at hc
  rw [kept_rereading h] at hr
  obtain ⟨h1, h2, h3, h4, h5⟩ := hs c hc hr
  rw [he, kept_workingWind h, kept_threatArrival h]
  exact ⟨h1, h2, h3, h4, fun n => by rw [kept_evalChannel h]; exact h5 n⟩

end agreement

/-- A review sets the evaluator's record, and what it hands on keeps it. -/
theorem review_eval (s : State) (c : RunCfg) (hc : s.port.config = some c) (hr : s.rereading = false) :
    s.review.eval = s.reviewed c := by
  unfold State.review
  simp only [hc, hr, Bool.false_eq_true, if_false]
  rw [eachChannel_keeps State.eval _ handChannel_eval]
  split <;> simp

/-- A review leaves the record in agreement with the inputs (R96). -/
theorem review_judged (s : State) : s.review.Judged := by
  intro c hc hr
  have hk := review_kept s
  rw [kept_config hk] at hc
  rw [kept_rereading hk] at hr
  rw [review_eval s c hc hr, kept_workingWind hk, kept_threatArrival hk]
  refine ⟨rfl, rfl, rfl, rfl, fun n => ?_⟩
  rw [kept_evalChannel hk]
  fin_cases n <;> rfl

theorem settle_judged (k : Nat) (s : State) (h : s.Judged) : (State.settle k s).Judged := by
  induction k generalizing s with
  | zero => exact h
  | succ k ih =>
    unfold State.settle
    split
    · exact ih _ (review_judged _)
    · split
      · exact ih _ (judged_of_kept (evaluate_kept s) (evaluate_eval s) h)
      · exact h

/-- Running to rest keeps agreement. -/
theorem finish_judged (s : State) (h : s.Judged) : s.finish.Judged :=
  judged_of_kept (checkDraw_kept _) (checkDraw_eval _) (settle_judged _ _ h)

/-- Running to rest with a review due gives agreement. -/
theorem finish_judged_of_due (s : State) (h : s.reviewDue = true) : s.finish.Judged := by
  refine judged_of_kept (checkDraw_kept _) (checkDraw_eval _) ?_
  show (State.settle (63 + 1) s).Judged
  unfold State.settle
  rw [if_pos h]
  exact settle_judged _ _ (review_judged _)

/-- A command that asks for a review last gives agreement, where reviews are made; where none are, there is nothing to agree. -/
theorem finish_askReview_judged (s : State) : s.askReview.finish.Judged := by
  by_cases hd : s.deciding = true
  · exact finish_judged_of_due _ (by simp [State.askReview, hd])
  · intro c hc hr
    have hk := (finish_kept s.askReview).trans (askReview_kept s)
    rw [kept_config hk] at hc
    rw [kept_rereading hk] at hr
    simp [State.deciding, hc, hr] at hd

end Sys2Proof.Machine
end

