-- ==== Sys2Proof/Laws/Memory.lean ====
section
/-! SUPPORT. The image buffer: a read after a write, and that every operation keeps the canonical form. -/

namespace Sys2Proof.Machine

theorem wfFrom_mono {lo lo' : Nat} {m : Memory} (h : m.wfFrom lo = true) (hl : lo' ≤ lo) : m.wfFrom lo' = true := by
  cases m with
  | nil => rfl
  | cons c m =>
    simp only [Memory.wfFrom, Bool.and_eq_true, decide_eq_true_eq] at h ⊢
    exact ⟨⟨by omega, h.1.2⟩, h.2⟩

/-- Below its first address a canonical image reads as unlisted. -/
theorem read_below {lo x : Nat} {m : Memory} (h : m.wfFrom lo = true) (hx : x < lo) : m.read x = Memory.unlisted := by
  cases m with
  | nil => rfl
  | cons c m =>
    simp only [Memory.wfFrom, Bool.and_eq_true, decide_eq_true_eq] at h
    simp only [Memory.read]
    rw [if_neg (by omega), if_pos (by omega)]

theorem write_wfFrom {lo x : Nat} {m : Memory} (v : Byte) (h : m.wfFrom lo = true) (hx : lo ≤ x) :
    (m.write x v).wfFrom lo = true := by
  induction m generalizing lo with
  | nil =>
    unfold Memory.write
    split
    · rfl
    · rename_i hv; simp [Memory.wfFrom, hx, hv]
  | cons c m ih =>
    obtain ⟨a, b⟩ := c
    have h0 := h
    simp only [Memory.wfFrom, Bool.and_eq_true, decide_eq_true_eq] at h
    obtain ⟨⟨hlo, hb⟩, hm⟩ := h
    unfold Memory.write
    split
    · rename_i hxa
      split
      · exact h0
      · rename_i hv
        simp only [Memory.wfFrom, Bool.and_eq_true, decide_eq_true_eq]
        exact ⟨⟨hx, hv⟩, ⟨by omega, hb⟩, hm⟩
    · split
      · rename_i hne heq
        subst heq
        split
        · exact wfFrom_mono hm (by omega)
        · rename_i hv
          simp only [Memory.wfFrom, Bool.and_eq_true, decide_eq_true_eq]
          exact ⟨⟨hx, hv⟩, hm⟩
      · rename_i hna hne
        simp only [Memory.wfFrom, Bool.and_eq_true, decide_eq_true_eq]
        exact ⟨⟨hlo, hb⟩, ih hm (by omega)⟩

/-- A write keeps the canonical form. -/
theorem write_wf {m : Memory} (h : m.wf = true) (x : Nat) (v : Byte) : (m.write x v).wf = true :=
  write_wfFrom v h (Nat.zero_le x)

theorem write16_wf {m : Memory} (h : m.wf = true) (x v : Nat) : (m.write16 x v).wf = true :=
  write_wf (write_wf h _ _) _ _

theorem applyLearned_wf {m : Memory} (h : m.wf = true) (n : Ch) (a b c : Nat) : (m.applyLearned n a b c).wf = true :=
  write16_wf (write16_wf (write16_wf (write16_wf h _ _) _ _) _ _) _ _

/-- A read after a write: the byte written at its address, and elsewhere what was there. -/
theorem read_write {lo : Nat} {m : Memory} (h : m.wfFrom lo = true) (x : Nat) (v : Byte) (y : Nat) :
    (m.write x v).read y = if y = x then v else m.read y := by
  induction m generalizing lo with
  | nil =>
    unfold Memory.write
    split
    · rename_i hv; simp [Memory.read, hv]
    · simp only [Memory.read]
      by_cases hy : y = x
      · simp [hy]
      · rw [if_neg hy, if_neg hy]; split <;> rfl
  | cons c m ih =>
    obtain ⟨a, b⟩ := c
    simp only [Memory.wfFrom, Bool.and_eq_true, decide_eq_true_eq] at h
    obtain ⟨⟨-, -⟩, hm⟩ := h
    unfold Memory.write
    split
    · rename_i hxa
      split
      · rename_i hv
        by_cases hy : y = x
        · subst hy; simp only [Memory.read]; rw [if_neg (by omega), if_pos hxa, hv]; simp
        · rw [if_neg hy]
      · by_cases hy : y = x
        · simp [Memory.read, hy]
        · rw [if_neg hy]
          simp only [Memory.read]
          rw [if_neg hy]
          by_cases hlt : y < x
          · rw [if_pos hlt, if_neg (by omega), if_pos (by omega)]
          · rw [if_neg hlt]
    · split
      · rename_i hna heq
        subst heq
        split
        · rename_i hv
          by_cases hy : y = x
          · subst hy; rw [read_below hm (by omega), hv]; simp
          · rw [if_neg hy]
            simp only [Memory.read]
            rw [if_neg hy]
            by_cases hlt : y < x
            · rw [if_pos hlt, read_below hm (by omega)]
            · rw [if_neg hlt]
        · by_cases hy : y = x
          · simp [Memory.read, hy]
          · simp only [Memory.read]; rw [if_neg hy, if_neg hy, if_neg hy]
      · rename_i hna hne
        simp only [Memory.read]
        by_cases hya : y = a
        · rw [if_pos hya, if_pos hya, if_neg (by omega)]
        · rw [if_neg hya, if_neg hya]
          by_cases hlt : y < a
          · rw [if_pos hlt, if_pos hlt, if_neg (by omega)]
          · rw [if_neg hlt, if_neg hlt]; exact ih hm

/-- The image a read gives has the canonical form. -/
theorem ofBytes_wfFrom (a : Nat) (bs : List Byte) : (Memory.ofBytes a bs).wfFrom a = true := by
  induction bs generalizing a with
  | nil => rfl
  | cons b bs ih =>
    unfold Memory.ofBytes
    split
    · exact wfFrom_mono (ih (a + 1)) (by omega)
    · rename_i hb
      simp only [Memory.wfFrom, Bool.and_eq_true, decide_eq_true_eq]
      exact ⟨⟨le_refl a, hb⟩, ih (a + 1)⟩

theorem ofBytes_wf (bs : List Byte) : (Memory.ofBytes 0 bs).wf = true := ofBytes_wfFrom 0 bs

/-- The image a read gives holds the bytes read, in address order. -/
theorem read_ofBytes (a : Nat) (bs : List Byte) (i : Nat) (h : i < bs.length) :
    (Memory.ofBytes a bs).read (a + i) = bs[i] := by
  induction bs generalizing a i with
  | nil => simp at h
  | cons b bs ih =>
    unfold Memory.ofBytes
    cases i with
    | zero =>
      split
      · rename_i hb; rw [read_below (ofBytes_wfFrom (a + 1) bs) (by omega)]; simp [hb]
      · simp [Memory.read]
    | succ i =>
      have := ih (a + 1) i (by simpa using h)
      rw [show a + 1 + i = a + (i + 1) by omega] at this
      split
      · simpa using this
      · simp only [Memory.read]; rw [if_neg (by omega), if_neg (by omega)]; simpa using this

/-! ### The bytes from an address on -/

theorem range_map_succ {α : Type} (f : Nat → α) (n : Nat) :
    (List.range (n + 1)).map f = f 0 :: (List.range n).map (fun i => f (i + 1)) := by
  rw [List.range_succ_eq_map, List.map_cons, List.map_map]
  rfl

theorem bytesAt_eq {a : Nat} {m : Memory} (h : m.wfFrom a = true) (n : Nat) :
    Memory.bytesAt n a m = (List.range n).map (fun i => m.read (a + i)) := by
  induction n generalizing a m with
  | zero => rfl
  | succ n ih =>
    rw [range_map_succ]
    have e : (fun i => m.read (a + (i + 1))) = fun i => m.read (a + 1 + i) := by
      funext i
      rw [Nat.add_right_comm, Nat.add_assoc]
    rw [e, Nat.add_zero]
    clear e
    match m, h with
    | [], _ =>
      unfold Memory.bytesAt
      rw [ih (m := []) rfl]
      rfl
    | (x, b) :: m, h =>
      simp only [Memory.wfFrom, Bool.and_eq_true, decide_eq_true_eq] at h
      unfold Memory.bytesAt
      split
      · rename_i hx
        subst hx
        rw [ih h.2]
        congr 1
        · simp [Memory.read]
        · apply List.map_congr_left
          intro i _
          simp only [Memory.read]
          rw [if_neg (by omega), if_neg (by omega)]
      · rename_i hx
        rw [ih (m := (x, b) :: m) (by simp only [Memory.wfFrom, Bool.and_eq_true, decide_eq_true_eq]; exact ⟨⟨by omega, h.1.2⟩, h.2⟩)]
        congr 1
        simp only [Memory.read]
        rw [if_neg (by omega), if_pos (by omega)]

theorem dropWhile_below {lo : Nat} {m : Memory} (h : m.wfFrom lo = true) (a : Nat) (ha : lo ≤ a) :
    Memory.wfFrom a (m.dropWhile (fun c => decide (c.1 < a))) = true ∧
      ∀ x, a ≤ x → Memory.read (m.dropWhile (fun c => decide (c.1 < a))) x = m.read x := by
  induction m generalizing lo with
  | nil => exact ⟨rfl, fun _ _ => rfl⟩
  | cons c m ih =>
    obtain ⟨y, b⟩ := c
    simp only [Memory.wfFrom, Bool.and_eq_true, decide_eq_true_eq] at h
    by_cases hy : y < a
    · rw [List.dropWhile_cons_of_pos (by simpa using hy)]
      obtain ⟨h1, h2⟩ := ih h.2 (by omega)
      refine ⟨h1, fun x hx => ?_⟩
      rw [h2 x hx]
      simp only [Memory.read]
      rw [if_neg (by omega), if_neg (by omega)]
    · rw [List.dropWhile_cons_of_neg (by simpa using hy)]
      refine ⟨?_, fun x hx => rfl⟩
      simp only [Memory.wfFrom, Bool.and_eq_true, decide_eq_true_eq]
      exact ⟨⟨by omega, h.1.2⟩, h.2⟩

/-- The bytes of an image from an address on are what its addresses read as. -/
theorem bytes_eq {m : Memory} (h : m.wf = true) (n a : Nat) :
    m.bytes n a = (List.range n).map (fun i => m.read (a + i)) := by
  obtain ⟨h1, h2⟩ := dropWhile_below (lo := 0) h a (by omega)
  unfold Memory.bytes
  rw [bytesAt_eq h1]
  exact List.map_congr_left (fun i _ => h2 _ (by omega))

end Sys2Proof.Machine
end

