-- ==== Sys2Proof/Laws/Peers.lean ====
section
/-! SUPPORT. The peer table: what placing and removing an entry do (R145, R146, R148). -/

namespace Sys2Proof.Machine

theorem mem_peerPut {e p : PeerEntry} {l : List PeerEntry} (h : p ∈ peerPut e l) : p = e ∨ p ∈ l := by
  induction l with
  | nil => simpa [peerPut] using h
  | cons q l ih =>
    unfold peerPut at h
    split at h
    · simpa using h
    · split at h
      · simp only [List.mem_cons] at h ⊢; tauto
      · simp only [List.mem_cons] at h ⊢
        rcases h with h | h
        · tauto
        · rcases ih h with h | h <;> tauto

/-- Placing an entry keeps the origins strictly rising. -/
theorem peerPut_sorted {e : PeerEntry} {l : List PeerEntry} (h : (l.map (·.origin)).Pairwise (· < ·)) :
    ((peerPut e l).map (·.origin)).Pairwise (· < ·) := by
  induction l with
  | nil => simp [peerPut]
  | cons q l ih =>
    simp only [List.map_cons, List.pairwise_cons, List.mem_map, forall_exists_index, and_imp,
      forall_apply_eq_imp_iff₂] at h
    unfold peerPut
    split
    · rename_i hlt
      simp only [List.map_cons, List.pairwise_cons, List.mem_cons, List.mem_map]
      refine ⟨?_, ?_, h.2⟩
      · rintro x (rfl | ⟨p, hp, rfl⟩)
        · exact hlt
        · exact lt_trans hlt (h.1 p hp)
      · rintro x ⟨p, hp, rfl⟩; exact h.1 p hp
    · split
      · rename_i hne heq
        simp only [List.map_cons, List.pairwise_cons, List.mem_map]
        refine ⟨?_, h.2⟩
        rintro x ⟨p, hp, rfl⟩; rw [heq]; exact h.1 p hp
      · rename_i hne hneq
        simp only [List.map_cons, List.pairwise_cons, List.mem_map]
        refine ⟨?_, ih h.2⟩
        rintro x ⟨p, hp, rfl⟩
        rcases mem_peerPut hp with rfl | hp
        · omega
        · exact h.1 p hp

/-- An entry of the same origin is replaced; else the table grows by one. -/
theorem peerPut_length (e : PeerEntry) (l : List PeerEntry) : (peerPut e l).length ≤ l.length + 1 := by
  induction l with
  | nil => simp [peerPut]
  | cons q l ih => unfold peerPut; split <;> [skip; split] <;> simp; omega

/-- Placing an entry for an origin the table holds leaves its length. -/
theorem peerPut_length_present {e : PeerEntry} {l : List PeerEntry} (hs : (l.map (·.origin)).Pairwise (· < ·))
    {p : PeerEntry} (hp : p ∈ l) (ho : p.origin = e.origin) : (peerPut e l).length = l.length := by
  induction l with
  | nil => simp at hp
  | cons q l ih =>
    simp only [List.map_cons, List.pairwise_cons, List.mem_map, forall_exists_index, and_imp,
      forall_apply_eq_imp_iff₂] at hs
    unfold peerPut
    rcases List.mem_cons.mp hp with rfl | hp
    · rw [if_neg (by omega), if_pos ho.symm]; rfl
    · have := hs.1 p hp
      rw [if_neg (by omega), if_neg (by omega)]
      simp [ih hs.2 hp]

theorem peerFind_mem {o : Nat} {l : List PeerEntry} {p : PeerEntry} (h : peerFind o l = some p) :
    p ∈ l ∧ p.origin = o := by
  refine ⟨List.mem_of_find?_eq_some h, ?_⟩
  have := List.find?_some h
  simpa using this

theorem foldl_evictFirst_mem (l : List PeerEntry) (p : PeerEntry) : l.foldl evictFirst p ∈ p :: l := by
  induction l generalizing p with
  | nil => simp
  | cons q l ih =>
    have := ih (evictFirst p q)
    have hq : evictFirst p q = p ∨ evictFirst p q = q := by unfold evictFirst; split <;> simp
    rcases hq with h | h <;> rw [List.foldl_cons] <;> rw [h] at this ⊢ <;>
      simp only [List.mem_cons] at this ⊢ <;> tauto

/-- The entry evicted is one of the table, and holds no live part (R148). -/
theorem evictee_spec {own : Option Nat} {l : List PeerEntry} {p : PeerEntry} (h : evictee own l = some p) :
    p ∈ l ∧ p.hasLive own = false := by
  unfold evictee at h
  split at h
  · simp at h
  · rename_i q ps hf
    simp only [Option.some.injEq] at h
    have := foldl_evictFirst_mem ps q
    rw [h, ← hf] at this
    simpa using this

/-- Room has been made: the table keeps its order and is below its capacity (R146, R148). -/
theorem makeRoom_spec {own : Option Nat} {l r : List PeerEntry} (hs : (l.map (·.origin)).Pairwise (· < ·))
    (hl : l.length ≤ Config.tableCapacity) (h : makeRoom own l = some r) :
    r.length < Config.tableCapacity ∧ (r.map (·.origin)).Pairwise (· < ·) ∧ ∀ p ∈ r, p ∈ l := by
  unfold makeRoom at h
  split at h
  · simp only [Option.some.injEq] at h; subst h; exact ⟨by assumption, hs, fun _ hp => hp⟩
  · rename_i hn
    cases he : evictee own l with
    | none => simp [he] at h
    | some p =>
      simp only [he, Option.map_some, Option.some.injEq] at h
      subst h
      have hm := (evictee_spec he).1
      refine ⟨?_, ?_, fun q hq => (List.mem_filter.mp hq).1⟩
      · have : (peerRemove p.origin l).length < l.length := by
          unfold peerRemove
          exact List.length_filter_lt_length_iff_exists.mpr ⟨p, hm, by simp⟩
        omega
      · exact hs.sublist (List.Sublist.map _ List.filter_sublist)

end Sys2Proof.Machine
end

