-- ==== Sys2Proof/Laws/PerInstr.lean ====
section
/-! SUPPORT. Statements made for each command of the table, one lemma per constructor. -/

/-! No word of the opcode table's bits spells a command: no row gives bits (log entry 7). -/

namespace Sys2Proof.Laws

/-- No word spells the command, so `withFetchWord` never queues it. -/
def Unspelled.Statement (i : Instr) : Prop := ∀ nbits w : Nat, decodeTableWord nbits w ≠ some i

theorem Unspelled.fullReset (straps : BitVec 7) (enc : Vector EncLevels 4) (panel : PanelLevels) (anem : Bool) :
    Unspelled.Statement (.fullReset straps enc panel anem) := fun _ _ h => nomatch h

theorem Unspelled.stationTimeStep : Unspelled.Statement (.stationTimeStep) := fun _ _ h => nomatch h

theorem Unspelled.readTryFailed : Unspelled.Statement (.readTryFailed) := fun _ _ h => nomatch h

theorem Unspelled.readRetryExpiry : Unspelled.Statement (.readRetryExpiry) := fun _ _ h => nomatch h

theorem Unspelled.configReadEnd (bytes : List Byte) (pins : PinSample) : Unspelled.Statement (.configReadEnd bytes pins) := fun _ _ h => nomatch h

theorem Unspelled.commandRestart : Unspelled.Statement (.commandRestart) := fun _ _ h => nomatch h

theorem Unspelled.warmRestart : Unspelled.Statement (.warmRestart) := fun _ _ h => nomatch h

theorem Unspelled.rereadEnd (bytes : List Byte) (pins : PinSample) : Unspelled.Statement (.rereadEnd bytes pins) := fun _ _ h => nomatch h

theorem Unspelled.encoderLevelAccepted (n : Ch) (a b i : LineRun) : Unspelled.Statement (.encoderLevelAccepted n a b i) := fun _ _ h => nomatch h

theorem Unspelled.pinch (n : Ch) (overcur stall : Bool) : Unspelled.Statement (.pinch n overcur stall) := fun _ _ h => nomatch h

theorem Unspelled.overcurrent (n : Ch) (pinch stall : Bool) : Unspelled.Statement (.overcurrent n pinch stall) := fun _ _ h => nomatch h

theorem Unspelled.stall (n : Ch) (pinch overcur : Bool) : Unspelled.Statement (.stall n pinch overcur) := fun _ _ h => nomatch h

theorem Unspelled.deadTimeEnd (n : Ch) : Unspelled.Statement (.deadTimeEnd n) := fun _ _ h => nomatch h

theorem Unspelled.rampEnd (n : Ch) : Unspelled.Statement (.rampEnd n) := fun _ _ h => nomatch h

theorem Unspelled.coastWindowClose (n : Ch) : Unspelled.Statement (.coastWindowClose n) := fun _ _ h => nomatch h

theorem Unspelled.pauseExpiry (n : Ch) : Unspelled.Statement (.pauseExpiry n) := fun _ _ h => nomatch h

theorem Unspelled.msgoodLow : Unspelled.Statement (.msgoodLow) := fun _ _ h => nomatch h

theorem Unspelled.msgoodHigh : Unspelled.Statement (.msgoodHigh) := fun _ _ h => nomatch h

theorem Unspelled.supplyRecoveryExpiry : Unspelled.Statement (.supplyRecoveryExpiry) := fun _ _ h => nomatch h

theorem Unspelled.timedReview : Unspelled.Statement (.timedReview) := fun _ _ h => nomatch h

theorem Unspelled.reopenHoldExpiry : Unspelled.Statement (.reopenHoldExpiry) := fun _ _ h => nomatch h

theorem Unspelled.holdOnExpiry (n : Ch) : Unspelled.Statement (.holdOnExpiry n) := fun _ _ h => nomatch h

theorem Unspelled.listeningIntervalEnd : Unspelled.Statement (.listeningIntervalEnd) := fun _ _ h => nomatch h

theorem Unspelled.drawPeriodExpiry : Unspelled.Statement (.drawPeriodExpiry) := fun _ _ h => nomatch h

theorem Unspelled.rainReading (reading : Fin 1024) : Unspelled.Statement (.rainReading reading) := fun _ _ h => nomatch h

theorem Unspelled.captureRetryExpiry : Unspelled.Statement (.captureRetryExpiry) := fun _ _ h => nomatch h

theorem Unspelled.wetnessRefreshExpiry : Unspelled.Statement (.wetnessRefreshExpiry) := fun _ _ h => nomatch h

theorem Unspelled.anemPulse (heldUs : Nat) : Unspelled.Statement (.anemPulse heldUs) := fun _ _ h => nomatch h

theorem Unspelled.windowEnd : Unspelled.Statement (.windowEnd) := fun _ _ h => nomatch h

theorem Unspelled.vaneSample (van2 van1 van0 : Bool) : Unspelled.Statement (.vaneSample van2 van1 van0) := fun _ _ h => nomatch h

theorem Unspelled.sectorAccepted : Unspelled.Statement (.sectorAccepted) := fun _ _ h => nomatch h

theorem Unspelled.anemSilenceExpiry : Unspelled.Statement (.anemSilenceExpiry) := fun _ _ h => nomatch h

theorem Unspelled.gustPeriodExpiry : Unspelled.Statement (.gustPeriodExpiry) := fun _ _ h => nomatch h

theorem Unspelled.transmissionStart : Unspelled.Statement (.transmissionStart) := fun _ _ h => nomatch h

theorem Unspelled.frameSuccess : Unspelled.Statement (.frameSuccess) := fun _ _ h => nomatch h

theorem Unspelled.arbitrationLoss (pos : Nat) : Unspelled.Statement (.arbitrationLoss pos) := fun _ _ h => nomatch h

theorem Unspelled.bitError (pos : Nat) : Unspelled.Statement (.bitError pos) := fun _ _ h => nomatch h

theorem Unspelled.bitErrorHoldEnd (dominantRead : Bool) : Unspelled.Statement (.bitErrorHoldEnd dominantRead) := fun _ _ h => nomatch h

theorem Unspelled.listenOnlyExpiry : Unspelled.Statement (.listenOnlyExpiry) := fun _ _ h => nomatch h

theorem Unspelled.frameArrival (bits : List Bool) : Unspelled.Statement (.frameArrival bits) := fun _ _ h => nomatch h

theorem Unspelled.isolationExpiry : Unspelled.Statement (.isolationExpiry) := fun _ _ h => nomatch h

theorem Unspelled.fileWetness : Unspelled.Statement (.fileWetness) := fun _ _ h => nomatch h

theorem Unspelled.fileGust : Unspelled.Statement (.fileGust) := fun _ _ h => nomatch h

theorem Unspelled.fileDraw : Unspelled.Statement (.fileDraw) := fun _ _ h => nomatch h

theorem Unspelled.overflowConditionEnd : Unspelled.Statement (.overflowConditionEnd) := fun _ _ h => nomatch h

theorem Unspelled.partExpiry (origin : Nat) (part : PartKind) : Unspelled.Statement (.partExpiry origin part) := fun _ _ h => nomatch h

theorem Unspelled.commandOpen : Unspelled.Statement (.commandOpen) := fun _ _ h => nomatch h

theorem Unspelled.commandClose : Unspelled.Statement (.commandClose) := fun _ _ h => nomatch h

theorem Unspelled.commandStop : Unspelled.Statement (.commandStop) := fun _ _ h => nomatch h

theorem Unspelled.commandHold : Unspelled.Statement (.commandHold) := fun _ _ h => nomatch h

theorem Unspelled.commandRelease : Unspelled.Statement (.commandRelease) := fun _ _ h => nomatch h

theorem Unspelled.commandAcknowledge : Unspelled.Statement (.commandAcknowledge) := fun _ _ h => nomatch h

theorem Unspelled.commandReport : Unspelled.Statement (.commandReport) := fun _ _ h => nomatch h

theorem Unspelled.statePeriodExpiry (n : Ch) : Unspelled.Statement (.statePeriodExpiry n) := fun _ _ h => nomatch h

theorem Unspelled.panelInputChange (input : PanelInput) (level : Bool) (heldMs : Nat) : Unspelled.Statement (.panelInputChange input level heldMs) := fun _ _ h => nomatch h

theorem Unspelled.learnHoldExpiry : Unspelled.Statement (.learnHoldExpiry) := fun _ _ h => nomatch h

theorem Unspelled.ackHoldExpiry : Unspelled.Statement (.ackHoldExpiry) := fun _ _ h => nomatch h

theorem Unspelled.refusalPatternEnd : Unspelled.Statement (.refusalPatternEnd) := fun _ _ h => nomatch h

theorem Unspelled.confirmDeadline : Unspelled.Statement (.confirmDeadline) := fun _ _ h => nomatch h

theorem Unspelled.pageWriteEnd (acked : Bool) : Unspelled.Statement (.pageWriteEnd acked) := fun _ _ h => nomatch h

theorem Unspelled.pollExpiry (acked : Bool) : Unspelled.Statement (.pollExpiry acked) := fun _ _ h => nomatch h

theorem Unspelled.lineIdle : Unspelled.Statement (.lineIdle) := fun _ _ h => nomatch h

theorem Unspelled.startBitFromAnotherStation : Unspelled.Statement (.startBitFromAnotherStation) := fun _ _ h => nomatch h

theorem Unspelled.frameAbandoned (bits : List Bool) : Unspelled.Statement (.frameAbandoned bits) := fun _ _ h => nomatch h

theorem Unspelled.noticeNotFiled : Unspelled.Statement (.noticeNotFiled) := fun _ _ h => nomatch h

theorem Unspelled.currentConversion (n : Ch) (reading : Fin 1024) : Unspelled.Statement (.currentConversion n reading) := fun _ _ h => nomatch h

theorem Unspelled.anemLevelFall (heldUs : Nat) : Unspelled.Statement (.anemLevelFall heldUs) := fun _ _ h => nomatch h

end Sys2Proof.Laws
end

