-- ==== Sys2Proof/WellFormed.lean ====
section
/-! DEFINITION. Which commands are well formed: the ranges of the operands that a type does not bound. `exec` is total and
needs none of it; an ill-formed command is one the outside cannot send. -/

namespace Sys2Proof

/-- An address a station may bear (00_scope.md, Names and numbering). -/
def Instr.addressOk (a : Nat) : Bool := decide (1 ≤ a ∧ a ≤ 126)

/-- The longest frame as sent (R123, R125): 108 bits from the start bit to the check with at most 26 stuff bits, and the end
field of 3. -/
def Instr.maxFrameBits : Nat := 137

/-- Bits read on the line from a start bit on. -/
def Instr.bitsOk (bits : List Bool) : Bool := bits.head? = some false && decide (bits.length ≤ Instr.maxFrameBits)

/-- The operands of a command lie in their ranges. -/
def Instr.wellFormed : Instr → Bool
  | .fullReset _ _ _ _ => true
  | .stationTimeStep => true
  | .readTryFailed => true
  | .readRetryExpiry => true
  | .configReadEnd bytes _ => bytes.length = Config.imageBytes
  | .commandRestart => true
  | .warmRestart => true
  | .rereadEnd bytes _ => bytes.length = Config.imageBytes
  | .encoderLevelAccepted _ _ _ _ => true
  | .pinch _ _ _ => true
  | .overcurrent _ _ _ => true
  | .stall _ _ _ => true
  | .deadTimeEnd _ => true
  | .rampEnd _ => true
  | .coastWindowClose _ => true
  | .pauseExpiry _ => true
  | .msgoodLow => true
  | .msgoodHigh => true
  | .supplyRecoveryExpiry => true
  | .timedReview => true
  | .reopenHoldExpiry => true
  | .holdOnExpiry _ => true
  | .listeningIntervalEnd => true
  | .drawPeriodExpiry => true
  | .rainReading _ => true
  | .captureRetryExpiry => true
  | .wetnessRefreshExpiry => true
  | .anemPulse _ => true
  | .windowEnd => true
  | .vaneSample _ _ _ => true
  | .sectorAccepted => true
  | .anemSilenceExpiry => true
  | .gustPeriodExpiry => true
  | .transmissionStart => true
  | .frameSuccess => true
  | .arbitrationLoss pos => decide (1 ≤ pos ∧ pos < Instr.maxFrameBits)
  | .bitError pos => decide (pos < Instr.maxFrameBits)
  | .bitErrorHoldEnd _ => true
  | .listenOnlyExpiry => true
  | .frameArrival bits => bitsOk bits
  | .isolationExpiry => true
  | .fileWetness => true
  | .fileGust => true
  | .fileDraw => true
  | .overflowConditionEnd => true
  | .partExpiry origin _ => addressOk origin
  | .commandOpen => true
  | .commandClose => true
  | .commandStop => true
  | .commandHold => true
  | .commandRelease => true
  | .commandAcknowledge => true
  | .commandReport => true
  | .statePeriodExpiry _ => true
  | .panelInputChange _ _ _ => true
  | .learnHoldExpiry => true
  | .ackHoldExpiry => true
  | .refusalPatternEnd => true
  | .confirmDeadline => true
  | .pageWriteEnd _ => true
  | .pollExpiry _ => true
  | .lineIdle => true
  | .startBitFromAnotherStation => true
  | .frameAbandoned bits => bitsOk bits
  | .noticeNotFiled => true
  | .currentConversion _ _ => true
  | .anemLevelFall _ => true

end Sys2Proof
end

