-- ==== Sys2Proof/Tests/Slice0.lean ====
section
/-! SUPPORT. Tests: ill-formed commands that WellFormed refuses, worked examples of the manual, and for each statement with
hypotheses a witness: concrete states and operands that meet them, clause by clause at a bound of its range. -/

namespace Sys2Proof.Tests
open Sys2Proof Sys2Proof.Machine

/-! ### A small station -/

/-- A channel: C = 100, S = 6000, close tolerance 20, reversal 200, two retries, Wr = 80, Wc = 140. -/
def chan0 : ChanCfg :=
  { mode := .x4, swap := false, debounceUs := 5, indexMode := .off, phaseA := true, phaseB := true, indexTol := 5
    closeTol := 20, c := 100, span := 6000, reversal := 200, retries := 2, guardS := 30, wr := 80, wc := 140
    normal := { duty := 60, draw := 20, limit := 60, speed := 180 }
    storm := { duty := 100, draw := 45, limit := 90, speed := 360 } }

/-- Own circuit 3, budget 200, reserve 50; rain, anemometer and vane fitted; peer 41 mapped at 500 m in every sector. -/
def cfg0 : RunCfg :=
  { circuit := 3, budget := 200, reserve := 50, unmappedLagS := 60, reopenHoldS := 900, isolationS := 120
    policyClose := true, closeLevel := false, polOpn := true, polCls := true, polMaint := true, polLearn := true
    maintSet := #v[false, true, false, false], mask := Vector.replicate 11 false, console1 := 100, console2 := 0
    rainFitted := true, onsetConfirmS := 5, onsetDelta := 64, ceaseDelta := 32, dryHoldS := 300, wetFloor := 600
    anemFitted := true, k := 7, vaneFitted := true, vaneOffset := 0
    map := [{ peer := 41, leads := Vector.replicate 8 (some 500) }]
    chans := #v[.fitted chan0, .fitted chan0, .fitted chan0, .unfitted] }

/-- A station at address 23 at work: supply GOOD, every channel referenced at its closed count, the sensor DRY. -/
def base : State :=
  { State.reset with
    now := 5000
    port := { Port.reset with ownAddress := some 23, read := .ended, config := some cfg0, image := some [] }
    units := Vector.replicate 4 { ChanUnit.reset { a := false, b := false, i := false } with count := 100 }
    recs := Vector.replicate 4 { ChanRec.reset with referenced := true }
    rain := { RainFront.reset with state := some .dry, reference := some 200 }
    arb := { Arbiter.reset with supply := .good }
    panel := { Panel.reset PanelLevels.allLow with judging := true }
    eval := { Evaluator.reset with chans := Vector.replicate 4 { ChanEval.reset with ceiling := 6000 } } }

/-- The station with channel 1's unit and state as given. -/
def with1 (s : State) (u : ChanUnit) (c : ChState) : State :=
  (s.setUnit 0 u).setRec 0 { s.recs[(0 : Ch)] with state := c }

/-- A CLOSE travel of origin THREAT. -/
def closing : Travel := newTravel .close none .closing .threat 0 .storm

/-- An OPEN travel of the console. -/
def opening : Travel := newTravel .opn (some 3000) .opening .console 5 .normal

/-- Channel 1's unit driven since 8 ds, its last step 6 ds ago. -/
def driven (d : Direction) (count : Nat) : ChanUnit :=
  { base.units[(0 : Ch)] with
    count := count, drive := .full d, lastDir := some d, overLimit := some 2
    watch := some { sinceStart := 8, sinceStep := 6 }, lastStepTime := 4994, lastStepCount := count }

/-- A test of the state a command leaves. -/
def leaves (c : Instr) (s : State) (p : State → Bool) : Bool :=
  match exec c s with
  | .next t => p t
  | _ => false

def run (level : Bool) : LineRun := { level := level, heldUs := 6 }

/-! ### Well-formedness -/

theorem test_configReadEnd_needs_2048_bytes :
    (Instr.configReadEnd [] PinSample.blank).wellFormed = false := by decide

theorem test_rereadEnd_needs_2048_bytes : (Instr.rereadEnd [0] PinSample.blank).wellFormed = false := by decide

theorem test_partExpiry_needs_an_address :
    (Instr.partExpiry 0 .wind).wellFormed = false ∧ (Instr.partExpiry 127 .wind).wellFormed = false ∧
      (Instr.partExpiry 126 .wind).wellFormed = true := by decide

theorem test_frameArrival_needs_a_start_bit :
    (Instr.frameArrival []).wellFormed = false ∧ (Instr.frameArrival [true]).wellFormed = false := by decide

theorem test_frameAbandoned_needs_a_frames_length :
    (Instr.frameAbandoned (false :: List.replicate 137 true)).wellFormed = false ∧
      (Instr.frameAbandoned (false :: List.replicate 136 true)).wellFormed = true := by decide +kernel

theorem test_arbitrationLoss_is_after_the_start_bit :
    (Instr.arbitrationLoss 0).wellFormed = false ∧ (Instr.arbitrationLoss 137).wellFormed = false := by decide

theorem test_bitError_is_in_the_frame :
    (Instr.bitError 137).wellFormed = false ∧ (Instr.bitError 136).wellFormed = true := by decide

/-! ### Worked examples of the manual -/

/-- No row of the opcode table gives bits (log entry 7). -/
theorem test_no_word_spells_a_command : decodeTableWord 0 0 = none ∧ base.withFetchWord 8 255 = base := ⟨rfl, rfl⟩

/-- R68: 60 pulses with K = 7 give 140; 10 pulses with K = 255 give 850, held at 600. -/
theorem test_window_speed : windowSpeed 60 7 = 140 ∧ windowSpeed 10 255 = 600 := by decide

/-- R65: a reading of 510 above a reference of 120 with an onset delta of 40 gives intensity 6. -/
theorem test_intensity : intensityOf (120 + 40) 510 = 6 := by decide

/-- R88: a deadline 20000 ds ahead and a travel time of 210 give a rain slack of 19790. -/
theorem test_rain_slack : rainSlack chan0 (some 20300) 0 210 = some 19790 := by decide

/-- R4, X4: from 00 to 10 counts up by one and holds the new pair. -/
theorem test_encoder_counts_up :
    leaves (.encoderLevelAccepted 0 (run true) (run false) (run false)) base
      (fun t => t.units[(0 : Ch)].count = 101 && t.units[(0 : Ch)].heldA) = true := by decide +kernel

/-- R32: a pinch at 400 of a closing travel with retries left backs off to 600. -/
theorem test_pinch_backs_off :
    leaves (.pinch 0 false false) (with1 base (driven .closing 400) (.running closing))
      (fun t => t.stateOf 0 = .backing { closing with origin := .threat } 600) = true := by decide +kernel

/-- R161, R162: an OPEN of the console at channel 1 is accepted, and at the unfitted channel 4 refused with CONFIG. -/
theorem test_console_open :
    leaves .commandOpen { base with handler := { base.handler with
        inHand := some { origin := 100, kind := 6, payload := [23, 9, 1, 50], receipt := 5000, age := 0 } } }
      (fun t => t.recs[(0 : Ch)].refusal = .accepted && t.recs[(3 : Ch)].refusal = .config &&
        t.recs[(1 : Ch)].refusal = .accepted && (t.travel? 0).any (fun x => x.target = some 3100)) = true := by
  decide +kernel

/-- R133: a frame of rank 7 from the address 127 is abandoned at the last bit of its origin, before the stuff bit owed there. -/
theorem test_origin_127_is_abandoned_at_its_last_bit :
    receive ((frameBits 7 127 1 [0, 0, 0, 1]).take 13) = .fault .badOrigin := by decide +kernel

/-- R203: the bytes of a page above the cells an image lists first. -/
theorem test_page_of_the_image :
    ({ base with port := { base.port with
        image := some [(0, 1), (63, 9), (64, 7), (79, 8), (80, 5)], store := some (storePages 0) } } : State).storeBytes
      = 7 :: List.replicate 14 0 ++ [8] := by decide

/-- R15, R16: the STORM duty at half a ramp and at full, and BACKING on NORMAL. -/
theorem test_outputs_take_the_duty_of_the_profile :
    (with1 base { driven .closing 400 with drive := .ramp .closing 1 } (.running closing)).bridge 0 50 = (0, 100 * 150) ∧
      (with1 base (driven .closing 400) (.running closing)).bridge 0 0 = (0, 100 * 300) ∧
      (with1 base (driven .opening 400) (.backing closing 600)).bridge 0 0 = (60 * 300, 0) := by decide

/-! ### Witnesses: the machine as a whole -/

/-- Station in which the evaluator holds what a review gives. -/
def settled (s : State) (c : RunCfg) : State := { s with eval := s.reviewed c }

theorem settled_judged (s : State) (c : RunCfg) (h : s.port.config = some c) : (settled s c).Judged := by
  intro c' hc _
  have e : c' = c := Option.some.inj (hc.symm.trans h)
  subst e
  refine ⟨rfl, rfl, rfl, rfl, fun n => ?_⟩
  fin_cases n <;> rfl

theorem all_some {α : Type} {o : Option α} {p : α → Bool} (h : o.all p = true) : ∀ x, o = some x → p x = true := by
  rintro x rfl; exact h

/-- The station with channel 1's record replaced. -/
def tuned (s : State) (k : ChanCfg) : State :=
  { s with port := { s.port with config := some { cfg0 with chans := cfg0.chans.set 0 (.fitted k) } } }

def entryOf (n : Notice) (rank seq : Nat) : PoolEntry := { notice := n, rank := rank, seq := seq }

/-- A full pool in its order: eight notices. -/
def full : State :=
  { base with line := { base.line with
      nextSeq := 20
      waiting := [entryOf (.wetness 0 0 1) 0 9, entryOf (.draw (.final 3) 0) 7 3, entryOf (.gust 100 90 2) 8 12,
        entryOf (.alarm 1 1 true) 11 4, entryOf (.alarm 1 2 true) 11 8, entryOf (.state 0 View.reset) 12 1,
        entryOf (.state 1 View.reset) 12 5, entryOf (.state 3 View.reset) 12 19] } }

/-- A peer with every part live. -/
def peer (origin : Nat) : PeerEntry :=
  { origin := origin, lastHeard := 4000, circuit := some 3, claim := some { draw := 45, least := some 3, left := 100 }
    waiting := some { band := 1, left := 90 }, wetness := some { onset := 4900, left := 1000 }
    wind := some { assessment := 120, sector := 3, left := 900 } }

/-- Peers 41 and 99 known, a frame of 41 waiting. -/
def peered : State :=
  { base with
    handler := { base.handler with peers := [peer 41, peer 99] }
    line := { base.line with queue := [{ origin := 41, kind := 4, payload := [], receipt := 4998, age := 2 }] } }

/-- One command in front. -/
def tickNext (s : State) : State := { s with pending := [.stationTimeStep] }

theorem witness_StepRunsFrontCommand : base.pending = [] := rfl

theorem witness_FullResetLeaves :
    (1 ≤ (1#7).toNat ∧ (1#7).toNat ≤ 126) ∧ (1 ≤ (126#7).toNat ∧ (126#7).toNat ≤ 126) ∧ (0#7).toNat = 0 ∧
      (127#7).toNat = 127 := by decide

/-- R136: at the bound, eight notices. -/
theorem witness_PoolKept : (∃ t, step (tickNext full) = .next t) ∧ (tickNext full).PoolBounded ∧
    (tickNext full).line.poolSize = 8 ∧ (tickNext full).PoolOrdered := by
  refine ⟨⟨_, rfl⟩, by unfold State.PoolBounded; decide, by decide, by decide, by decide, ?_⟩
  intro e he
  cases he

theorem witness_QueueAndTableKept : (tickNext peered).TableOk ∧ ∃ t, step (tickNext peered) = .next t := by
  refine ⟨⟨by decide, by decide, by decide, ?_⟩, _, rfl⟩
  intro a ha
  have e : a = 23 := (Option.some.inj ha).symm
  subst e
  refine ⟨by decide, by decide, ?_⟩
  intro f hf
  cases hf

/-- R1, R2: at the greatest station time and the greatest count. -/
theorem witness_CountsKept :
    ((tickNext (with1 { base with now := 4294967295 } (driven .opening 65535) (.running opening))).CountsOk) ∧
      ∃ t, step (tickNext (with1 { base with now := 4294967295 } (driven .opening 65535) (.running opening))) = .next t := by
  refine ⟨⟨by decide, by decide, ?_⟩, _, rfl⟩
  intro n k h
  have := all_some (p := fun k => decide (k.c ≤ Config.maxCount)) (by clear h; revert n; decide) k h
  exact of_decide_eq_true this

theorem witness_DriveFollowsState :
    (tickNext (with1 base (driven .closing 400) (.running closing))).DriveOk ∧
      ∃ t, step (tickNext (with1 base (driven .closing 400) (.running closing))) = .next t := by
  refine ⟨?_, _, rfl⟩
  intro n d h
  have := all_some (p := fun d =>
    decide (((tickNext (with1 base (driven .closing 400) (.running closing))).stateOf n).driveDir? = some d))
    (by clear h; revert n; decide) d h
  exact of_decide_eq_true this

/-- R45: with threat known, while a CLOSE travel runs. -/
theorem witness_NoOpenWhileBarred :
    (tickNext (with1 { base with eval := { base.eval with threat := true } } (driven .closing 400) (.running closing))).OpenOk ∧
      (with1 { base with eval := { base.eval with threat := true } } (driven .closing 400) (.running closing)).openBarred
        = true := by
  refine ⟨?_, rfl⟩
  intro _ n t h
  have := all_some (p := fun t => decide (t.kind ≠ .opn)) (by clear h; revert n; decide) t h
  exact of_decide_eq_true this

/-- The start-up read, and a reread, at their first try: no running configuration, and the one in force. -/
def booting : State := { State.reset with port := { Port.reset with ownAddress := some 23, read := .reading 1 false } }

def rereadingBase : State := { base with port := { base.port with read := .reading 1 false, restart := true } }

theorem witness_ConditionsKept :
    (∀ s : State, s = base ∨ s = booting ∨ s = rereadingBase → (tickNext s).FlagsOk ∧ ∃ t, step (tickNext s) = .next t) := by
  rintro s (rfl | rfl | rfl) <;>
    refine ⟨⟨⟨by decide, fun k w h => ?_⟩, by decide, by decide, by decide, by decide, by decide, by decide, by decide, by decide,
      by decide, by decide, by decide⟩, _, rfl⟩
  · cases h
  · exact ⟨by decide, by decide⟩
  · exact ⟨by decide, by decide⟩

/-- At the bounds: 16 failures, 65535 pulses, 19 windows, 5 peaks, sector 8, a candidate of 7, the third try. -/
def bounded : State :=
  { base with
    line := { base.line with failures := 16, tx := .sending (entryOf (.wetness 0 0 1) 0 9) [false, true] 2 }
    wind := { base.wind with count := 65535, done := 19, gusts := [1, 2, 3, 4, 5] }
    vane := { sector := 8, candidate := some (7, 29) }
    port := { base.port with read := .reading 3 true, image := some [(0, 1), (2047, 255)] } }

/-- What holds of the travel each channel may have holds of every travel (R23). -/
theorem targetsOk_of (s : State)
    (h : ∀ n : Ch, (s.travel? n).all (fun t => t.target.isSome = decide (t.kind = .opn ∨ t.kind = .reduce)) = true) :
    s.TargetsOk := by
  intro n t ht
  have := all_some (h n) t ht
  simp only [decide_eq_true_eq] at this
  rw [this, decide_eq_true_eq]

/-- An OPEN travel to its target, and a CLOSE travel, on two channels. -/
theorem witness_TargetsKept :
    (tickNext ((with1 base (driven .closing 400) (.running closing)).setRec 1 { base.recs[(1 : Ch)] with state := .running opening })).TargetsOk :=
  targetsOk_of _ (by decide)

theorem witness_ImageAndRangesKept : (tickNext bounded).ImageOk ∧ (tickNext bounded).RangesOk ∧
    ∃ t, step (tickNext bounded) = .next t := by
  refine ⟨fun m h => ?_, ⟨by decide, by decide, by decide, by decide, by decide, ?_, ?_, ?_, ?_⟩, _, rfl⟩
  · cases h; decide
  · intro d a h; cases h; decide
  · intro e f k h; cases h; decide
  · intro e k h; cases h
  · intro k w h; cases h; decide

theorem witness_FaultedWaitsForAcknowledge :
    (∃ t, exec .stationTimeStep (with1 base (driven .closing 100) (.faulted true false)) = .next t) ∧
      (with1 base (driven .closing 100) (.faulted true false)).stateOf 0 = .faulted true false := ⟨⟨_, rfl⟩, rfl⟩

/-- A command that moves a count, one that sets it, one that leaves it. -/
theorem witness_CountMovesOnlyByItsChannel :
    (∃ t, exec (.encoderLevelAccepted 0 (run true) (run false) (run false)) base = .next t) ∧
      (∃ t, exec (.stall 0 false false) (with1 base (driven .closing 110) (.running closing)) = .next t) ∧
      ∃ t, exec .stationTimeStep base = .next t := ⟨⟨_, rfl⟩, ⟨_, rfl⟩, _, rfl⟩

/-- LISTEN-ONLY at its expiry, LINE FAULT raised, an acknowledge noted at this time. -/
def lineFaulted (ack : Option Nat) : State :=
  ({ base with line := { base.line with mode := .listenOnly 0, faultAck := ack } } : State).setFlag FlagId.lineFault.index
    { raised := true, condition := true }

/-- R132, R189: an acknowledged LINE FAULT clears at the expiry, with its notice; at the acknowledge's own time it stays. -/
theorem test_acknowledged_line_fault_clears :
    leaves .listenOnlyExpiry (lineFaulted (some 4999)) (fun t => !(t.flag .lineFault).raised &&
        t.line.waiting.any (fun e => e.notice = .alarm 6 0 false)) = true ∧
      leaves .listenOnlyExpiry (lineFaulted (some 5000)) (fun t => (t.flag .lineFault).raised &&
        t.line.waiting.all (fun e => e.notice ≠ .alarm 6 0 false)) = true ∧
      leaves .ackHoldExpiry { lineFaulted none with panel := { base.panel with ackTimer := some 0 } }
        (fun t => t.line.faultAck = some 5000 && (t.flag .lineFault).raised) = true := by decide +kernel

theorem witness_RaisedFlagsStayAndReport :
    (∃ t, exec .stationTimeStep (base.raise (.obstruction 0)) = .next t) ∧
      (base.raise (.obstruction 0)).flags[(0 : Fin 21)].raised = true ∧
      (lineFaulted (some 4999)).flags[FlagId.lineFault.index].raised = true ∧ (lineFaulted (some 4999)).faultAcked = true ∧
      (lineFaulted (some 5000)).faultAcked = false := by
  refine ⟨⟨_, rfl⟩, by decide +kernel, by decide, by decide, by decide⟩

theorem witness_ConfigurationChangesAtReads :
    (∃ t, exec .readTryFailed base = .next t) ∧ ∃ t, exec .stationTimeStep base = .next t := ⟨⟨_, rfl⟩, _, rfl⟩

/-! ### Witnesses: frames, reads, restart -/

theorem witness_FrameRoundTrip :
    (0 < 16 ∧ 1 ≤ 1 ∧ 1 ≤ 126) ∧ (15 < 16 ∧ 1 ≤ 126 ∧ 126 ≤ 126) ∧
      kindLength 3 = some (Notice.payload (.draw (.final 15) 6000)).length ∧
      kindLength 5 = some (Notice.payload (.alarm 11 0 true)).length := by decide

theorem witness_OwnNoticesPassChecks :
    (65535 ≤ 65535 ∧ (1 ≤ 1 ∧ 1 ≤ 7 ∧ 7 ≤ 7 ∨ 1 = 2 ∧ 7 = 0)) ∧ (2 ≤ 1 ∧ 1 ≤ 0 ∧ 0 ≤ 7 ∨ 2 = 2 ∧ 0 = 0) ∧
      (600 ≤ 600 ∧ 8 ≤ 8) ∧ cfg0.circuit ≤ 15 ∧
      (with1 base (driven .closing 400) (.running closing)).ownDraw ≤ 8000 ∧
      (with1 base (driven .closing 400) (.running closing)).ownDraw = 45 ∧ 6000 ≤ 6000 := by decide

/-- The station while it reads, at this try; `again` says whether it is a reread. -/
def reads (s : State) (k : Nat) (waits again : Bool) : State :=
  { s with port := { s.port with read := .reading k waits, restart := again } }

theorem witness_ReadTries :
    ((reads base 1 false false).port.read = .reading 1 false ∧ 1 < 3) ∧
      (reads base 2 false true).port.read = .reading 2 false ∧ (reads base 3 true false).port.read = .reading 3 true ∧
      (reads base 3 false true).port.read = .reading 3 false ∧ 3 ≤ 3 := by decide

/-- A fitted channel's record in an image: X4, index OFF, C = 100, S = 6000. -/
def recordCells (a : Nat) : Memory :=
  [(a, 1), (a + 1, 2), (a + 3, 1), (a + 6, 5), (a + 7, 20), (a + 9, 100), (a + 10, 0x17), (a + 11, 0x70), (a + 13, 200),
    (a + 14, 2), (a + 17, 30), (a + 19, 80), (a + 21, 140), (a + 22, 60), (a + 23, 100), (a + 25, 20), (a + 27, 60),
    (a + 29, 180), (a + 31, 45), (a + 33, 90), (a + 34, 1), (a + 35, 0x68)]

/-- The sensors: rain with the onset delta 64 and the wet floor 600, the anemometer with K = 7, the vane. -/
def sensorCells : Memory :=
  [(0x12, 1), (0x13, 5), (0x15, 64), (0x17, 32), (0x18, 1), (0x19, 44), (0x1A, 2), (0x1B, 88), (0x1C, 1), (0x1D, 7), (0x1E, 1)]

/-- An image with channel 1 fitted, channel 2 in error and every sensor, without its check. -/
def bareImage : Memory :=
  [(0, 1), (1, 3), (3, 200), (5, 50), (7, 60), (8, 3), (9, 0x84), (11, 120), (12, 0xF0), (16, 100)] ++
    sensorCells ++ recordCells 0x40 ++ [(0x80, 1)]

/-- The image with its check (R209). -/
def image : Memory := bareImage ++ [(0x7FE, 88), (0x7FF, 227)]

def imageBytes : List Byte := image.bytes 2048 0

/-- `g c`, with `c` reduced to a numeral first. -/
def force {α : Type} (c : Nat) (g : Nat → α) : α :=
  match c with
  | 0 => g 0
  | k + 1 => g (k + 1)

/-- The CRC of R126, reduced bit by bit. -/
def crcForced : Nat → List Bool → Nat
  | c, [] => c
  | c, b :: l => force (crcStep (BitVec.ofNat 16 c) b).toNat (fun d => crcForced d l)

theorem crcForced_eq (l : List Bool) (c : BitVec 16) : crcForced c.toNat l = (l.foldl crcStep c).toNat := by
  induction l generalizing c with
  | nil => rfl
  | cons b l ih =>
    have h : crcForced c.toNat (b :: l) = crcForced (crcStep c b).toNat l := by
      simp only [crcForced, BitVec.ofNat_toNat, BitVec.setWidth_eq]
      generalize (crcStep c b).toNat = x
      cases x <;> rfl
    rw [h, ih]
    rfl

/-- R209: the image bears its check. -/
theorem image_check : image.check = 22755 := by
  have h : crcForced (0xFFFF#16).toNat (byteBits (image.bytes 0x7FE 0)) = 22755 := by decide +kernel
  rw [crcForced_eq] at h
  exact h

/-- R209: the image is VALID at address 23. -/
theorem image_valid : judgeImage 23 image = some image.runCfg := by
  unfold judgeImage
  rw [image_check]
  rw [if_pos (by decide +kernel)]

theorem image_channel : image.runCfg.chans[(0 : Ch)] = .fitted (image.chanAt 0x40) := by decide +kernel

theorem image_rest : image.runCfg.chans[(1 : Ch)] = .inError ∧ image.runCfg.anemFitted = true ∧
    image.runCfg.vaneFitted = true ∧ (image.chanAt 0x40).mode ≠ .single := by decide +kernel

theorem image_bytes : Memory.ofBytes 0 imageBytes = image ∧ imageBytes.length = 2048 ∧ image.wf = true := by decide +kernel

/-- R208: an image of zeros, which is INVALID (R209). -/
def zeros : List Byte := Memory.bytes 2048 0 []

theorem zeros_invalid : zeros.length = 2048 ∧ judgeImage 23 (Memory.ofBytes 0 zeros) = none := by decide +kernel

theorem image_read : judgeImage 23 (Memory.ofBytes 0 imageBytes) = some image.runCfg := by
  rw [image_bytes.1]
  exact image_valid

/-- R209: with the VALID image above, and with an image of zeros that is INVALID. -/
theorem witness_ConfigReadEnds :
    (reads base 3 false false).port.ownAddress = some 23 ∧ (reads base 3 false false).port.read = .reading 3 false ∧
      (reads base 3 false false).port.restart = false ∧ imageBytes.length = 2048 ∧
      (∃ c, judgeImage 23 (Memory.ofBytes 0 imageBytes) = some c ∧ c.chans[(0 : Ch)] = .fitted (image.chanAt 0x40) ∧
        c.chans[(1 : Ch)] = .inError ∧ c.anemFitted = true ∧ c.vaneFitted = true ∧ (image.chanAt 0x40).mode ≠ .single) ∧
      zeros.length = 2048 ∧ judgeImage 23 (Memory.ofBytes 0 zeros) = none :=
  ⟨rfl, rfl, rfl, image_bytes.2.1, ⟨_, image_read, image_channel, image_rest⟩, zeros_invalid⟩

/-- With a travel, a LISTEN-ONLY line and a FAULTED channel in the state the restart finds. -/
def restarting : State :=
  { (with1 base (driven .closing 400) (.running closing)) with
    port := { base.port with restart := true }
    line := { base.line with mode := .listenOnly 100 } }

theorem witness_WarmRestartTakesEffect :
    restarting.port.restart = true ∧ restarting.port.read = .ended ∧ restarting.line.tx = .notSending ∧
      restarting.DriveOk := by
  refine ⟨rfl, rfl, rfl, ?_⟩
  intro n d h
  have := all_some (p := fun d => decide ((restarting.stateOf n).driveDir? = some d)) (by clear h; revert n; decide) d h
  exact of_decide_eq_true this

theorem witness_RereadEnds :
    (reads base 1 false true).port.ownAddress = some 23 ∧ (reads base 1 false true).port.read = .reading 1 false ∧
      (reads base 1 false true).port.restart = true ∧ imageBytes.length = 2048 ∧
      (reads base 1 false true).port.session = none ∧
      (∃ c, judgeImage 23 (Memory.ofBytes 0 imageBytes) = some c) ∧
      zeros.length = 2048 ∧ judgeImage 23 (Memory.ofBytes 0 zeros) = none :=
  ⟨rfl, rfl, rfl, image_bytes.2.1, rfl, ⟨_, image_read⟩, zeros_invalid⟩

/-! ### Witnesses: position sensing -/

/-- Channel 1 with this count and held and accepted pair, its record as given. -/
def atPair (k : ChanCfg) (count : Nat) (a b : Bool) : State :=
  with1 (tuned base k) { base.units[(0 : Ch)] with count := count, accA := a, accB := b, heldA := a, heldB := b } .still

/-- R4: a step up to the greatest count, one down to 0, a transition X1 does not count, an illegal one. -/
theorem witness_QuadratureSteps :
    DecodeMode.x4 ≠ .single ∧ (atPair chan0 65534 false false).chan? 0 = some chan0 ∧ chan0.mode ≠ .single ∧
      chan0.indexMode = .off ∧ true = debounce 5 false (run true) ∧ false = debounce 5 false (run false) ∧
      ((quadStep .x4 false false true false).swapped false = .up ∧ (atPair chan0 65534 false false).units[(0 : Ch)].count < 65535) ∧
      ((quadStep .x4 false false false true).swapped false = .down ∧ 0 < (atPair chan0 1 false false).units[(0 : Ch)].count) ∧
      ((quadStep .x4 false false true false).swapped true = .down) ∧
      (quadStep .x1 false false false true).swapped false = .none ∧
      (quadStep .x4 false false true true).swapped false = .illegal ∧ (atPair chan0 7 false false).travel? 0 = none := by
  decide

/-- A SINGLE mode channel. -/
def single0 : ChanCfg := { chan0 with mode := .single }

/-- A unit in SINGLE mode at its count, with this drive and coast window. -/
def coasting (count : Nat) (d : DriveState) (coast : Option Nat) (last : Option Direction) : State :=
  with1 (tuned base single0) { base.units[(0 : Ch)] with count := count, drive := d, coast := coast, lastDir := last } .still

theorem witness_SingleModeSteps :
    (coasting 5 .off none none).chan? 0 = some single0 ∧ single0.mode = .single ∧ single0.indexMode = .off ∧
      debounce 5 false (run false) = false ∧ debounce 5 false (run true) = true ∧
      ((coasting 5 .off none none).units[(0 : Ch)].drive.driven? = none ∧ (coasting 5 .off none none).units[(0 : Ch)].coast = none) ∧
      ((coasting 65534 (.full .opening) none (some .opening)).units[(0 : Ch)].drive.driven? = some .opening ∧
        (coasting 65534 (.full .opening) none (some .opening)).units[(0 : Ch)].count < 65535) ∧
      ((coasting 1 .off (some 2) (some .closing)).units[(0 : Ch)].drive.driven? = none ∧
        (coasting 1 .off (some 2) (some .closing)).units[(0 : Ch)].coast ≠ none ∧
        (coasting 1 .off (some 2) (some .closing)).units[(0 : Ch)].lastDir = some .closing ∧
        0 < (coasting 1 .off (some 2) (some .closing)).units[(0 : Ch)].count) := by decide

/-- The fourth illegal transition of a travel is near. -/
def nearFault : State :=
  with1 (tuned base chan0) { driven .closing 400 with illegal := 3 } (.running closing)

theorem witness_EncoderFaults :
    ((atPair chan0 65535 false false).chan? 0 = some chan0 ∧ chan0.mode ≠ .single ∧
      debounce 5 false (run false) = false ∧ (atPair chan0 65535 false false).units[(0 : Ch)].accI = false ∧
      debounce 5 false (run true) = true) ∧
      ((quadStep .x4 false false true false).swapped false = .up ∧ 65535 ≤ (atPair chan0 65535 false false).units[(0 : Ch)].count) ∧
      ((quadStep .x4 false false false true).swapped false = .down ∧ (atPair chan0 0 false false).units[(0 : Ch)].count = 0) ∧
      (atPair chan0 0 false false).recs[(0 : Ch)].referenced = true ∧ (atPair chan0 0 false false).stateOf 0 = .still ∧
      ({ atPair chan0 0 false false with recs := Vector.replicate 4 ChanRec.reset } : State).recs[(0 : Ch)].referenced = false ∧
      ((quadStep .x4 false false true true).swapped false = .illegal ∧ nearFault.travel? 0 ≠ none ∧
        nearFault.units[(0 : Ch)].illegal = 3 ∧ nearFault.stateOf 0 = .running closing) ∧
      ((coasting 65535 (.full .opening) none (some .opening)).chan? 0 = some single0 ∧ single0.mode = .single ∧
        (coasting 65535 (.full .opening) none (some .opening)).units[(0 : Ch)].singleDir = some .opening ∧
        (coasting 65535 (.full .opening) none (some .opening)).units[(0 : Ch)].accA = false ∧
        (coasting 65535 (.full .opening) none (some .opening)).recs[(0 : Ch)].referenced = true ∧
        (coasting 0 (.full .closing) none (some .closing)).units[(0 : Ch)].singleDir = some .closing ∧
        (coasting 0 (.full .closing) none (some .closing)).units[(0 : Ch)].count = 0) := by decide

/-- Channel 1 as `atPair` has it, with this accepted index level and state. -/
def atIndex (k : ChanCfg) (count : Nat) (a b i : Bool) (c : ChState) : State :=
  with1 (atPair k count a b) { (atPair k count a b).units[(0 : Ch)] with accI := i } c

theorem witness_IndexEvents :
    ((atPair chan0 100 true true).units[(0 : Ch)].accA = chan0.phaseA ∧ (atPair chan0 100 true true).units[(0 : Ch)].accB = chan0.phaseB ∧
      debounce 5 true (run true) = true ∧ (atPair chan0 100 true true).units[(0 : Ch)].accI = false ∧
      debounce 5 false (run true) = true ∧ chan0.indexMode = .off ∧ chan0.mode ≠ .single) ∧
      (atPair { chan0 with indexMode := .reload } 100 true true).chan? 0 = some { chan0 with indexMode := .reload } ∧
      ((atPair { chan0 with indexMode := .check } 105 true true).chan? 0 = some { chan0 with indexMode := .check } ∧
        (atPair { chan0 with indexMode := .check } 105 true true).recs[(0 : Ch)].referenced = true ∧
        (atPair { chan0 with indexMode := .check } 105 true true).referencing 0 = false ∧ 105 ≤ 100 + 5 ∧ 100 ≤ 105 + 5) ∧
      (¬(106 ≤ 100 + 5) ∧ (atPair { chan0 with indexMode := .check } 106 true true).stateOf 0 = .still) ∧
      ¬(100 ≤ 94 + 5) ∧
      (chan0.indexMet false true true = false ∧ chan0.indexMet true true true = true ∧
        (quadStep .x4 false true true true).swapped false = .down ∧
        (atIndex { chan0 with indexMode := .check } 1 false true true .still).units[(0 : Ch)].accI = true ∧
        0 < (atIndex { chan0 with indexMode := .check } 1 false true true .still).units[(0 : Ch)].count ∧
        (atIndex { chan0 with indexMode := .reload } 101 false true true .still).chan? 0
          = some { chan0 with indexMode := .reload }) ∧
      ((atIndex { chan0 with indexMode := .check } 94 true true false (.faulted true true)).stateOf 0 = .faulted true true) ∧
      (single0.indexMet false false true = false ∧ single0.indexMet true false true = true ∧
        (atIndex single0 5 false false true .still).units[(0 : Ch)].singleDir = none ∧
        (coasting 65534 (.full .opening) none (some .opening)).units[(0 : Ch)].singleDir = some .opening) := by decide

/-! ### Witnesses: drives and stops -/

theorem witness_DriveTiming :
    intervalOver (some 3) = true ∧ intervalOver none = true ∧ intervalOver (some 2) = false ∧
      (with1 base { driven .closing 400 with drive := .dead .closing, deadTime := some 3 } (.running closing)).units[(0 : Ch)].drive
        = .dead .closing ∧
      (∀ d, base.units[(0 : Ch)].drive ≠ .dead d) ∧
      (with1 base { driven .closing 400 with drive := .ramp .closing 3 } (.running closing)).units[(0 : Ch)].drive = .ramp .closing 3 ∧
      (with1 base (driven .closing 400) (.running closing)).units[(0 : Ch)].drive.driven? ≠ none ∧
      (with1 base (driven .closing 400) (.running closing)).activeLimit? 0 = some 90 ∧
      ((with1 base (driven .closing 400) (.running closing)).chan? 0 = some chan0 ∧ closing.profile = .storm ∧
        ((with1 base (driven .closing 400) (.running closing)).stateOf 0).moving = true) ∧
      ((with1 base (driven .opening 400) (.backing closing 600)).stateOf 0).moving = true := by
  refine ⟨by decide, by decide, by decide, by decide, ?_, by decide, by decide, by decide, by decide, by decide⟩
  intro d h
  cases h

/-- A travel in RELOAD mode that has run from above the zone and met no index. -/
def indexlessRun (t : Travel) : State :=
  with1 (tuned base { chan0 with indexMode := .reload })
    { driven .closing 120 with indexRecord := some { wasReferenced := true, wasAbove := true } } (.running t)

def indexless : State := indexlessRun closing

/-- A station whose channel 1 runs this travel, driven this way, at this count. -/
def runs (t : Travel) (d : Direction) (count : Nat) : State := with1 base (driven d count) (.running t)

/-- Channel 1 at a count, its held and accepted pair 00, in a state with a channel record of its own. -/
def stepping (k : ChanCfg) (d : Direction) (count : Nat) (c : ChState) : State := with1 (tuned base k) (driven d count) c

/-- R30, R33: a step up ends an OPEN travel at its target, and a backing at its end. -/
theorem test_step_ends_travels :
    leaves (.encoderLevelAccepted 0 (run true) (run false) (run false)) (stepping chan0 .opening 2999 (.running opening))
        (fun t => t.stateOf 0 = .still && t.units[(0 : Ch)].count = 3000) = true ∧
      leaves (.encoderLevelAccepted 0 (run true) (run false) (run false)) (stepping chan0 .opening 599 (.backing closing 600))
        (fun t => t.stateOf 0 = .paused closing 50) = true := by decide +kernel

/-- R13, R31: an index event in RELOAD sets the mark of a closing travel, and ends a REFERENCE travel. -/
theorem test_index_event_marks_and_ends :
    leaves (.encoderLevelAccepted 0 (run true) (run true) (run true))
        (atIndex { chan0 with indexMode := .reload } 400 true true false (.running { closing with kind := .reference }))
        (fun t => t.stateOf 0 = .still && t.units[(0 : Ch)].count = 100) = true ∧
      leaves (.encoderLevelAccepted 0 (run true) (run true) (run true))
        (with1 (atIndex { chan0 with indexMode := .reload } 400 true true false .still)
          { (atIndex { chan0 with indexMode := .reload } 400 true true false .still).units[(0 : Ch)] with
            indexRecord := some { wasReferenced := true, wasAbove := true } } (.running closing))
        (fun t => t.units[(0 : Ch)].indexSeen && t.units[(0 : Ch)].count = 100) = true := by decide +kernel

/-- The clauses on steps and the index: travels and backings one step from their end, and two. -/
theorem witness_steps_and_index :
    ((stepping chan0 .opening 2999 (.running opening)).stateOf 0 = .running opening ∧ opening.target = some 3000 ∧
      opening.direction = .opening ∧ (stepping chan0 .opening 2999 (.running opening)).isLearnChannel 0 = false) ∧
      ((stepping chan0 .opening 599 (.backing closing 600)).stateOf 0 = .backing closing 600 ∧ closing.kind = .close) ∧
      ((stepping chan0 .opening 2998 (.running opening)).reviewDue = false ∧
        (stepping chan0 .opening 2998 (.running opening)).evalDue = false) ∧
      ((atIndex { chan0 with indexMode := .reload } 400 true true false (.running { closing with kind := .reference })).stateOf 0
          = .running { closing with kind := .reference } ∧
        (indexless.travel? 0 = some closing ∧ closing.target = none ∧ indexless.units[(0 : Ch)].indexRecord ≠ none ∧
          indexless.recs[(0 : Ch)].referenced = true ∧ indexless.reviewDue = false)) := by decide

/-- The states of `IndexEvents` meet R23: no travel, a referencing one, a closing one. -/
theorem witness_IndexEvents_targets :
    (atPair { chan0 with indexMode := .check } 105 true true).TargetsOk ∧ indexless.TargetsOk ∧
      (atIndex { chan0 with indexMode := .check } 400 true true false (.running { closing with kind := .reference })).TargetsOk :=
  ⟨targetsOk_of _ (by decide), targetsOk_of _ (by decide), targetsOk_of _ (by decide)⟩

/-- Channel 1 at the end of the pause of a CLOSE travel, the evaluator in agreement with its inputs. -/
def pauses (rain : RainState) : State :=
  settled { (with1 base { base.units[(0 : Ch)] with count := 400 } (.paused closing 0)) with
    rain := { base.rain with state := some rain, wetTime := some 4000 } } cfg0

theorem witness_ObstructionOfClosing :
    (runs closing .closing 65534).stopBy (.pinch 0 false false) 0 [.pinch] ∧
      (runs closing .closing 400).stopBy (.stall 0 false true) 0 [.overcurrent, .stall] ∧
      (runs closing .closing 400).chan? 0 = some chan0 ∧ (runs closing .closing 400).stateOf 0 = .running closing ∧
      (runs closing .closing 400).port.session = none ∧ closing.kind = .close ∧ (runs closing .closing 121).closed 0 = false ∧
      (closing.retries < chan0.retries ∧ 0 < chan0.reversal ∧ (runs closing .closing 65534).units[(0 : Ch)].count < 65535) ∧
      chan0.retries ≤ ({ closing with retries := 2 } : Travel).retries ∧
      (runs { closing with kind := .reference } .closing 400).stopBy (.overcurrent 0 false false) 0 [.overcurrent] ∧
      (with1 base base.units[(0 : Ch)] (.paused { closing with origin := .console } 0)).stateOf 0
        = .paused { closing with origin := .console } 0 ∧
      Origin.isRequest .console = true ∧
      ((runs closing .closing 65535).stopBy (.pinch 0 false false) 0 [.pinch] ∧
        65535 ≤ (runs closing .closing 65535).units[(0 : Ch)].count ∧ ({ chan0 with reversal := 0 } : ChanCfg).reversal = 0) ∧
      ((pauses .wet).Judged ∧ (pauses .wet).stateOf 0 = .paused closing 0 ∧ closing.origin.isRequest = false ∧
        ((pauses .wet).needOf 0).asks .close (pauses .wet).recs[(0 : Ch)].referenced = true) ∧
      ((pauses .dry).Judged ∧ ((pauses .dry).needOf 0).asks .close (pauses .dry).recs[(0 : Ch)].referenced = false) := by
  refine ⟨.inl ⟨_, _, rfl, by decide, by decide⟩, .inr (.inr ⟨_, _, rfl, by decide, by decide⟩), by decide, by decide,
    by decide, by decide, by decide, by decide, by decide, .inr (.inl ⟨_, _, rfl, by decide, by decide⟩), by decide,
    by decide, ⟨.inl ⟨_, _, rfl, by decide, by decide⟩, by decide, rfl⟩,
    ⟨settled_judged _ _ rfl, by decide, by decide, by decide +kernel⟩, settled_judged _ _ rfl, by decide +kernel⟩

theorem witness_ObstructionOfOpening :
    (runs opening .opening 400).stopBy (.overcurrent 0 false false) 0 [.overcurrent] ∧
      (runs opening .opening 400).stateOf 0 = .running opening ∧ opening.kind = .opn ∧ opening.direction = .opening ∧
      (runs { opening with kind := .reduce, direction := .closing } .closing 400).stopBy (.pinch 0 false false) 0 [.pinch] ∧
      (runs opening .opening 400).chan? 0 = some chan0 ∧ (runs opening .opening 400).isLearnChannel 0 = false :=
  ⟨.inr (.inl ⟨_, _, rfl, by decide, by decide⟩), by decide, by decide, by decide, .inl ⟨_, _, rfl, by decide, by decide⟩,
    by decide, by decide⟩

/-- R33, R36, R31: a stall of the opening drive of a backing, of an OPEN travel, and of one that closes into the zone. -/
theorem witness_StopsWithoutObstruction :
    ((with1 base (driven .opening 400) (.backing closing 600)).stopBy (.stall 0 false false) 0 [.stall] ∧
      (with1 base (driven .opening 400) (.backing closing 600)).stateOf 0 = .backing closing 600 ∧
      (with1 base (driven .opening 400) (.backing closing 600)).chan? 0 = some chan0 ∧
      (with1 base (driven .opening 400) (.backing closing 600)).isLearnChannel 0 = false) ∧
      ((runs opening .opening 400).stopBy (.stall 0 false false) 0 [.stall] ∧
        StopSignal.pinch ∉ [StopSignal.stall] ∧ StopSignal.overcurrent ∉ [StopSignal.stall]) ∧
      (runs { opening with direction := .closing } .closing 120).stopBy (.overcurrent 0 false false) 0 [.overcurrent] ∧
      (runs { opening with direction := .closing } .closing 120).closed 0 = true :=
  ⟨⟨.inr (.inr ⟨_, _, rfl, by decide, by decide⟩), by decide, by decide, by decide⟩,
    ⟨.inr (.inr ⟨_, _, rfl, by decide, by decide⟩), by decide, by decide⟩, .inr (.inl ⟨_, _, rfl, by decide, by decide⟩), by decide⟩

theorem witness_StopsAtTheClosedEnd :
    ((runs { closing with kind := .reference } .closing 400).stopBy (.stall 0 false false) 0 [.stall] ∧
      StopSignal.pinch ∉ [StopSignal.stall] ∧ StopSignal.overcurrent ∉ [StopSignal.stall] ∧
      (runs { closing with kind := .reference } .closing 400).port.session = none) ∧
      ((runs closing .closing 120).stopBy (.overcurrent 0 false false) 0 [.overcurrent] ∧ (runs closing .closing 120).closed 0 = true ∧
        (runs closing .closing 120).indexMissing 0 chan0 closing = false) ∧
      (indexless.stopBy (.stall 0 false false) 0 [.stall] ∧ indexless.closed 0 = true ∧
        indexless.chan? 0 = some { chan0 with indexMode := .reload } ∧
        indexless.indexMissing 0 { chan0 with indexMode := .reload } closing = true) ∧
      ((indexlessRun (learnTravel .learnClose)).stopBy (.overcurrent 0 false false) 0 [.overcurrent] ∧
        StopSignal.stall ∉ [StopSignal.overcurrent] ∧ (indexlessRun (learnTravel .learnClose)).closed 0 = true ∧
        (indexlessRun (learnTravel .learnClose)).indexMissing 0 { chan0 with indexMode := .reload } (learnTravel .learnClose) = true) ∧
      ((indexlessRun (learnTravel .learnTimed)).stopBy (.stall 0 false false) 0 [.stall] ∧
        (indexlessRun (learnTravel .learnTimed)).indexMissing 0 { chan0 with indexMode := .reload } (learnTravel .learnTimed) = true) := by
  refine ⟨⟨.inr (.inr ⟨_, _, rfl, by decide, by decide⟩), by decide, by decide, by decide⟩,
    ⟨.inr (.inl ⟨_, _, rfl, by decide, by decide⟩), by decide, by decide⟩,
    ⟨.inr (.inr ⟨_, _, rfl, by decide, by decide⟩), by decide, by decide, by decide⟩,
    ⟨.inr (.inl ⟨_, _, rfl, by decide, by decide⟩), by decide, by decide, by decide⟩,
    .inr (.inr ⟨_, _, rfl, by decide, by decide⟩), by decide⟩

/-- A learn session on channel 1 in this phase. -/
def learning (phase : LearnPhase) : Session :=
  { Session.fresh 0 with
    phase := phase, measureStart := some 6000, openingStart := some 4900, timedStart := some 4900
    measuredSpan := some 200, normalSpeed := some 5000 }

/-- A learn run: the travel, the last step's count, and the evaluator in agreement with its inputs. -/
def learns (kind : TravelKind) (p : Session) (count : Nat) : State :=
  settled { (runs (learnTravel kind) (learnTravel kind).direction count) with
    port := { base.port with session := some p } } cfg0

theorem witness_LearnRunMeasures :
    ((learns .learnOpen { learning .opening with measureStart := some 6100 } 6100).stopBy (.stall 0 false false) 0 [.stall] ∧
      (learns .learnOpen { learning .opening with measureStart := some 6100 } 6100).Judged ∧
      (learns .learnOpen { learning .opening with measureStart := some 6100 } 6100).deciding = true ∧
      (learns .learnOpen { learning .opening with measureStart := some 6100 } 6100).learnBar 0 = false ∧
      4900 < (learns .learnOpen (learning .opening) 6100).units[(0 : Ch)].lastStepTime ∧
      6100 ≤ (learns .learnOpen (learning .opening) 6100).units[(0 : Ch)].lastStepCount) ∧
      ((learns .learnTimed (learning .timedClosing) 120).stopBy (.stall 0 false false) 0 [.stall] ∧
        (learns .learnTimed (learning .timedClosing) 120).Judged ∧
        (learns .learnTimed (learning .timedClosing) 120).closed 0 = true ∧
        (learns .learnTimed (learning .timedClosing) 120).learnBar 0 = false ∧
        (learns .learnTimed (learning .timedClosing) 120).indexMissing 0 chan0 (learnTravel .learnTimed) = false ∧
        (learns .learnTimed (learning .timedClosing) 120).stateOf 0 = .running (learnTravel .learnTimed)) ∧
      (rangeCheck 100 200 5000 ((6000 - 120) * 10 / 94) = true ∧ rangeCheck 100 199 5000 ((6000 - 120) * 10 / 94) = false) ∧
      ((learns .learnClose (learning .closing) 400).stopBy (.stall 0 false false) 0 [.stall] ∧
        (learns .learnClose (learning .closing) 400).Judged ∧ (learns .learnClose (learning .closing) 400).deciding = true ∧
        (learns .learnClose (learning .closing) 400).learnBar 0 = false) ∧
      ((learns .learnClose (learning .closing) 120).stopBy (.overcurrent 0 false false) 0 [.overcurrent] ∧
        (learns .learnClose (learning .closing) 120).Judged ∧ (learns .learnClose (learning .closing) 120).learnBar 0 = false ∧
        (learns .learnClose (learning .closing) 120).closed 0 = true ∧
        (learns .learnClose (learning .closing) 120).indexMissing 0 chan0 (learnTravel .learnClose) = false) ∧
      (learns .learnTimed (learning .timedClosing) 120).stopBy (.overcurrent 0 false false) 0 [.overcurrent] ∧
      (learns .learnOpen (learning .opening) 400).stopBy (.overcurrent 0 false true) 0 [.overcurrent, .stall] ∧
      ((learns .learnTimed (learning .timedClosing) 121).stopBy (.stall 0 false false) 0 [.stall] ∧
        (learns .learnTimed (learning .timedClosing) 121).closed 0 = false) := by
  refine ⟨⟨.inr (.inr ⟨_, _, rfl, by decide, by decide⟩), settled_judged _ _ rfl, by decide, by decide +kernel, by decide,
    by decide⟩, ⟨.inr (.inr ⟨_, _, rfl, by decide, by decide⟩), settled_judged _ _ rfl, by decide, by decide +kernel,
    by decide, by decide⟩, by decide, ⟨.inr (.inr ⟨_, _, rfl, by decide, by decide⟩), settled_judged _ _ rfl, by decide,
    by decide +kernel⟩, ⟨.inr (.inl ⟨_, _, rfl, by decide, by decide⟩), settled_judged _ _ rfl, by decide +kernel, by decide,
    by decide⟩, .inr (.inl ⟨_, _, rfl, by decide, by decide⟩), .inr (.inl ⟨_, _, rfl, by decide, by decide⟩),
    .inr (.inr ⟨_, _, rfl, by decide, by decide⟩), by decide⟩

/-! ### Witnesses: clock, supply, evaluator, arbiter, weather -/

/-- R1: a pause, a recovery and a LISTEN-ONLY time to step, a channel that is not paused, and a peer's parts. -/
theorem witness_StationTimeSteps :
    (with1 { peered with arb := { peered.arb with supply := .recovering 1 }, line := { peered.line with mode := .listenOnly 1 } }
        base.units[(0 : Ch)] (.paused closing 1)).arb.supply = .recovering 1 ∧
      (with1 peered base.units[(0 : Ch)] (.paused closing 1)).stateOf 0 = .paused closing 1 ∧
      (∀ c l, base.stateOf 1 ≠ .paused c l) ∧ peer 41 ∈ peered.handler.peers ∧
      (with1 base { driven .closing 400 with drive := .ramp .closing 2 } (.running closing)).units[(0 : Ch)].drive = .ramp .closing 2 ∧
      (∀ d r, base.units[(1 : Ch)].drive ≠ .ramp d r) ∧
      ({ base with rain := { base.rain with capture := .retryWait 1 } } : State).rain.capture = .retryWait 1 ∧
      ({ base with rain := { base.rain with capture := .collecting 0 1023 0 0 9 } } : State).rain.capture
        = .collecting 0 1023 0 0 9 := by
  refine ⟨by decide, by decide, ?_, by decide, by decide, ?_, by decide, by decide⟩
  · intro c l h
    cases h
  · intro d r h
    cases h

/-- Channel 1 closes as the rain asks, and backs off as a request's travel while no need is in force. -/
def needed : State :=
  settled { runs closing .closing 400 with rain := { base.rain with state := some .wet, wetTime := some 4000 } } cfg0

def requested : State := settled (with1 base (driven .opening 400) (.backing { closing with origin := .console } 600)) cfg0

theorem witness_SupplyFollowsMsgood :
    (base.arb.supply ≠ .low ∧ (base.setSupply .low).arb.supply = .low ∧ (base.setSupply .unset).arb.supply = .unset ∧
      (base.setSupply (.recovering 0)).arb.supply = .recovering 0) ∧
      (needed.arb.supply ≠ .low ∧ needed.deciding = true ∧ needed.isLearnChannel 0 = false ∧
        needed.needOf 0 = .close closing.band closing.origin ∧ needed.recs[(0 : Ch)].referenced = true ∧
        needed.stateOf 0 = .running closing) ∧
      (requested.arb.supply ≠ .low ∧ requested.deciding = true ∧ requested.needOf 0 = .none ∧
        requested.stateOf 0 = .backing { closing with origin := .console } 600) ∧ needed.Judged ∧ requested.Judged := by
  refine ⟨by decide, by decide +kernel, by decide +kernel, settled_judged _ _ rfl, settled_judged _ _ rfl⟩

/-- R28: a low supply sets both aside, and counts a retry of the backing. -/
theorem test_low_supply_sets_aside :
    leaves .msgoodLow needed (fun t => t.stateOf 0 = .yielded closing) = true ∧
      leaves .msgoodLow requested (fun t => t.stateOf 0 = .yielded { closing with origin := .console, retries := 1 }) = true := by
  decide +kernel

theorem witness_ReviewsRecomputeAndAct :
    base.deciding = true ∧ (reads base 1 false true).deciding = false ∧
      ({ base with eval := { base.eval with timer := some 0 } } : State).eval.timer = some 0 ∧
      ({ base with eval := { base.eval with reopen := some 0 } } : State).eval.reopen = some 0 ∧ base.eval.threat = false := by
  decide

theorem witness_ArbiterTimersAndDraws :
    ({ base with arb := { base.arb with listening := some 0 } } : State).arb.listening = some 0 ∧
      (({ runs closing .closing 400 with arb := { base.arb with holdOn := base.arb.holdOn.set 0 (some 0) } } : State).arb.holdOn[(0 : Ch)]
        = some 0 ∧ ((runs closing .closing 400).stateOf 0).isRunning = true ∧ (runs closing .closing 400).deciding = true) ∧
      (({ runs closing .closing 400 with arb := { base.arb with drawTimer := some 0 } } : State).arb.drawTimer = some 0 ∧
        (runs closing .closing 400).port.config = some cfg0 ∧ (runs closing .closing 400).rereading = false ∧
        (runs closing .closing 400).anyTravel = true) ∧
      ((runs closing .closing 400).fitted 0 = true ∧ ((runs closing .closing 400).travel? 0).isSome = true ∧
        (∀ m : Ch, m ≠ 0 → (runs closing .closing 400).travel? m = none) ∧ ChState.still.travel? = none ∧
        (runs closing .closing 400).port.ownAddress.isSome = true ∧
        (runs closing .closing 400).line.poolSize + 2 ≤ Config.poolCapacity) := by decide

/-- R117: the last own travel ends, though no DRAW has reported it. -/
theorem test_unreported_travel_ends_with_the_final_draw :
    (with1 base base.units[(0 : Ch)] (.waiting closing)).arb.drawTimer = none ∧
      (((with1 base base.units[(0 : Ch)] (.waiting closing)).toStill 0).line.waiting.any
        (fun e => e.notice = .draw (.final 3) 0 && e.rank = 7)) = true := by decide

/-- The station with its rain sensor as given. -/
def raining (f : RainFront) : State := { base with rain := f }

theorem witness_RainStartsAndCeases :
    (cfg0.rainFitted = true ∧ base.rereading = false ∧ base.port.config = some cfg0 ∧ base.rain.faultRun = none) ∧
      ((raining { base.rain with onsetRun := some 50 }).rain.state = some .dry ∧
        (raining { base.rain with onsetRun := some 50 }).rain.onsetThreshold cfg0 ≤ (264 : Fin 1024).val ∧ 10 * cfg0.onsetConfirmS ≤ 50) ∧
      ((raining { base.rain with state := some .wet, ceaseRun := some 3000 }).rain.capture = .idle ∧
        (231 : Fin 1024).val < (raining { base.rain with state := some .wet, ceaseRun := some 3000 }).rain.ceaseThreshold cfg0 ∧
        10 * cfg0.dryHoldS ≤ 3000) := by decide

theorem witness_RainFaults :
    ((raining { base.rain with faultRun := some 50 }).rain.state ≠ none ∧
      (raining { base.rain with faultRun := some 50 }).rain.state ≠ some .fault ∧ (2 : Fin 1024).val ≤ 2 ∧ 1021 ≤ (1021 : Fin 1024).val) ∧
      ((raining { base.rain with state := some .fault, inRangeRun := some 50 }).rain.capture = .idle ∧ 3 ≤ (3 : Fin 1024).val ∧
        (1020 : Fin 1024).val ≤ 1020 ∧ 50 ≤ 50) := by decide

/-- A capture with this many readings. -/
def capturing (count : Nat) : RainFront :=
  { base.rain with state := some .capturing, reference := none, capture := .collecting count 200 210 1400 10 }

theorem witness_CapturesReference :
    ((raining (capturing 7)).rain.state = some .capturing ∧ 3 ≤ (216 : Fin 1024).val ∧ (216 : Fin 1024).val ≤ 1020 ∧
      (216 : Fin 1024).val < (raining (capturing 7)).rain.onsetThreshold cfg0 ∧ (216 : Fin 1024).val < cfg0.wetFloor ∧
      (raining (capturing 7)).rain.capture = .collecting 7 200 210 1400 10 ∧ max 210 216 - min 200 216 ≤ 16) ∧
      ((raining (capturing 6)).rain.capture = .collecting 6 200 210 1400 10 ∧ 6 < 7) ∧ 16 < max 210 217 - min 200 217 ∧
      ((raining { base.rain with reference := some 600, owed := true, capture := .collecting 2 200 210 400 10 }).rain.state = some .dry ∧
        cfg0.wetFloor ≤ (600 : Fin 1024).val ∧
        (600 : Fin 1024).val <
          (raining { base.rain with reference := some 600, owed := true, capture := .collecting 2 200 210 400 10 }).rain.onsetThreshold cfg0) ∧
      (raining { capturing 0 with capture := .retryWait 0, latest := some 600, latestNow := true }).rain.wantsCapture = true ∧
      (raining { base.rain with capture := .retryWait 0 }).rain.wantsCapture = false ∧
      ((raining (capturing 2)).rain.onsetThreshold cfg0 ≤ (600 : Fin 1024).val ∧ cfg0.wetFloor ≤ (600 : Fin 1024).val ∧
        1 ≤ cfg0.onsetConfirmS ∧ (raining (capturing 2)).rain.onsetRun = none ∧
        (raining { capturing 2 with onsetRun := some 49 }).rain.onsetRun = some 49 ∧ 49 < 10 * cfg0.onsetConfirmS) := by decide

/-- A window is over with this count, the last GUST 0 from this sector. -/
def windowOver (count sector : Nat) : State :=
  { base with
    wind := { base.wind with window := some 0, count := count }
    handler := { base.handler with lastGust := some (0, sector) } }

theorem witness_WeatherTimersAndSamples :
    (({ raining { base.rain with state := some .wet } with handler := { base.handler with refresh := some 0 } } : State).handler.refresh
        = some 0 ∧ (raining { base.rain with state := some .wet }).rain.state = some .wet) ∧
      (({ base with handler := { base.handler with gustTimer := some 0 } } : State).handler.gustTimer = some 0 ∧
        base.reportOffered = true) ∧
      (cfg0.anemFitted = true ∧ ({ base with wind := { base.wind with level := true } } : State).wind.level = true) ∧
      (cfg0.vaneFitted = true ∧ 7 = (rawSector true false false + cfg0.vaneOffset) % 8) ∧
      (({ base with vane := { sector := 8, candidate := some (7, 30) } } : State).vane.candidate = some (7, 30) ∧ 30 ≤ 30 ∧
        base.wind.excluded = false ∧
        ({ base with handler := { base.handler with lastGust := some (0, 8) } } : State).handler.lastGust = some (0, 8) ∧ 8 ≠ 7 ∧
        ({ base with wind := { base.wind with excluded := true } } : State).wind.excluded = true) ∧
      (leaves .windowEnd (windowOver 0 8) (fun t => t.wind.assessment < 0 + 10 && t.vane.sector = 8) = true ∧
        leaves .windowEnd (windowOver 5 8) (fun t => 0 + 10 ≤ t.wind.assessment && t.vane.sector = 8) = true ∧
        (windowOver 5 8).wind.window = some 0 ∧ (windowOver 5 8).handler.lastGust = some (0, 8)) := by decide +kernel

theorem witness_SilentAnemometerIsExcluded :
    (base.port.config = some cfg0 ∧ cfg0.anemFitted = true ∧ base.wind.level = false ∧ 1000 ≤ 1000 ∧ base.wind.excluded = false ∧
      ({ base with wind := { base.wind with excluded := true } } : State).wind.excluded = true) ∧
      (({ peered with wind := { base.wind with silence := some 0 } } : State).wind.silence = some 0 ∧ peered.peerWindy = true ∧
        peered.wind.excluded = false ∧ base.peerWindy = false) := by decide

theorem witness_WindowEndsFillTheGustRecord :
    (({ base with wind := { base.wind with window := some 0, count := 65535, done := 19 } } : State).wind.window = some 0 ∧
      600 = min 600 (65535 * cfg0.k / 3) ∧ 19 + 1 = 20 ∧ base.port.config = some cfg0 ∧ cfg0.anemFitted = true) ∧
      (0 = min 600 (0 * cfg0.k / 3) ∧ 18 + 1 ≠ 20 ∧ base.wind.excluded = false ∧ base.rereading = false) ∧
      ∃ t, exec .stationTimeStep base = .next t := ⟨by decide, by decide, _, rfl⟩

/-! ### Witnesses: line and peer table -/

/-- A notice of rank 9 and its frame from address 23. -/
def queued : PoolEntry := entryOf (.wetness 1 100 3) 9 4

/-- The station sends it, `k` bits of its frame on the line. -/
def sends (idle : Bool) (k : Nat) : State :=
  { base with line := { base.line with idle := idle, tx := .sending queued (queued.frame 23) k, waiting := [] } }

/-- The station holds dominant since `k` bit times, with 15 failures behind it. -/
def heldDominant (k : Nat) : State :=
  { base with line := { base.line with tx := .holding queued k, failures := 15 } }

theorem witness_TransmitterFollowsTheLine :
    (({ base with line := { base.line with idle := true, waiting := [queued] } } : State).line.waiting = [queued] ∧
      base.port.ownAddress = some 23 ∧ base.line.tx = .notSending ∧ base.line.mode = .normal) ∧
      ((sends true 2).line.tx = .sending queued (queued.frame 23) 2 ∧ 1 ≤ 1 ∧ 1 < arbitrationEnd 9 23 ∧
        (queued.frame 23)[1]? = some true ∧ arbitrationEnd 9 23 = 12 ∧ (queued.frame 23)[11]? = some true) ∧
      ((queued.frame 23)[0]? = some false ∧ (queued.frame 23)[2]? = some false ∧ (queued.frame 23)[12]?.isSome = true) ∧
      ((sends true 0).line.idle = true ∧ (sends false (queued.frame 23).length).line.tx
        = .sending queued (queued.frame 23) (queued.frame 23).length) ∧ receive [false, true, true, true, true, true, true] = .fault .stuffViolation ∧
      ((heldDominant 8).line.tx = .holding queued 8 ∧ (heldDominant 7).line.tx = .holding queued 7 ∧ 7 < 8 ∧
        15 < 16 ∧ 14 < 15) ∧
      ((lineFaulted none).line.mode = .listenOnly 0 ∧ (lineFaulted (some 4999)).line.faultAck = some 4999 ∧
        4999 < (lineFaulted (some 4999)).now ∧ ((lineFaulted (some 4999)).flag .lineFault).raised = true) := by decide +kernel

/-- The station while it receives. -/
def listens (s : State) : State := { s with line := { s.line with receiving := true } }

theorem witness_FramesArrive :
    (receive (frameBits 9 41 1 [1, 0, 100, 3]) = .frame 41 1 [1, 0, 100, 3] ∧ 41 ≠ 23 ∧
      (listens base).port.ownAddress = some 23 ∧ (listens base).line.tx = .notSending ∧ (listens base).line.receiving = true ∧
      (listens base).handler.inHand = none ∧ (listens base).filing = true ∧ (listens base).port.config = some cfg0) ∧
      receive (frameBits 9 23 1 [1, 0, 100, 3]) = .frame 23 1 [1, 0, 100, 3] ∧
      ({ listens base with port := { base.port with config := none, read := .reading 1 false } } : State).filing = false ∧
      ({ base with line := { base.line with mode := .listenOnly 3 } } : State).line.mode ≠ .normal ∧
      ({ base with handler := { base.handler with isolated := true } } : State).handler.isolated = true := by decide +kernel

theorem witness_IsolationBegins :
    base.port.config = some cfg0 ∧ base.handler.isolated = false ∧ cfg0.policyClose = true ∧ base.rereading = false ∧
      ({ base with handler := { base.handler with isolation := some 0 } } : State).handler.isolation = some 0 := by decide

/-- The frame in hand. -/
def holds (s : State) (origin kind : Nat) (payload : List Byte) (age : Nat) : State :=
  { s with handler := { s.handler with
      inHand := some { origin := origin, kind := kind, payload := payload, receipt := 5000 - age, age := age } } }

theorem witness_NoticesAreFiled :
    ((holds peered 41 1 [0, 0, 0, 1] 2).handler.inHand = some { origin := 41, kind := 1, payload := [0, 0, 0, 1], receipt := 4998, age := 2 } ∧
      peerFind 41 peered.handler.peers = some (peer 41)) ∧
      (peerFind 60 peered.handler.peers = none ∧ peered.handler.peers.length < 48) ∧
      wetnessFields [0, 0, 0, 1] = some { phase := 0, age := 0 } ∧
      wetnessFields [1, 0xFF, 0xFF, 7] = some { phase := 1, age := 65535 } ∧
      wetnessFields [2, 0, 9, 0] = some { phase := 2, age := 9 } ∧
      gustFields [2, 0x58, 2, 0x58, 8] = some { assessment := 600, sector := 8 } ∧
      drawFields [3, 0, 45, 0x17, 0x70, 2, 3, 15, 0] =
        some { circuit := 3, draw := 45, hold := 6000, runLeast := some 3, waitMost := none } ∧ (0 < 45 ∧ 2 < 6000) := by
  decide

/-- Forty-eight peers, each with a live part. -/
def crowded : State :=
  { base with handler := { base.handler with peers := (List.range 48).map (fun k => peer (k + 40)) } }

/-- The same, but for one entry without a live part. -/
def crowdedOnce : State :=
  { base with handler := { base.handler with
      peers := (List.range 47).map (fun k => peer (k + 40)) ++ [PeerEntry.fresh 87 3000] } }

theorem witness_FullTableEvicts :
    (crowded.handler.peers.map (·.origin)).Pairwise (· < ·) ∧
      (holds crowded 5 2 [0, 60, 0, 60, 1] 0).handler.inHand =
        some { origin := 5, kind := 2, payload := [0, 60, 0, 60, 1], receipt := 5000, age := 0 } ∧
      gustFields [0, 60, 0, 60, 1] = some { assessment := 60, sector := 1 } ∧ peerFind 5 crowded.handler.peers = none ∧
      48 ≤ crowded.handler.peers.length ∧ (∀ p ∈ crowded.handler.peers, p.hasLive crowded.circuit? = true) ∧
      evictee crowdedOnce.circuit? crowdedOnce.handler.peers = some (PeerEntry.fresh 87 3000) ∧
      48 ≤ crowdedOnce.handler.peers.length ∧ peerFind 5 crowdedOnce.handler.peers = none ∧
      wetnessFields [1, 0, 100, 3] = some { phase := 1, age := 100 } ∧
      drawFields [3, 0, 0, 0, 0, 0, 15, 4, 1] =
        some { circuit := 3, draw := 0, hold := 0, runLeast := none, waitMost := some 4 } := by decide +kernel

/-- R148, R149: a WETNESS refresh and a DRAW that gives a waiting part overflow a table of live entries. -/
theorem test_full_table_overflows :
    leaves .fileWetness (holds crowded 5 1 [1, 0, 100, 3] 0) (fun t => t.handler.overflow = some 600 &&
        t.handler.peers = crowded.handler.peers && (t.flag .peerOverflow).raised) = true ∧
      leaves .fileDraw (holds crowded 5 3 [3, 0, 0, 0, 0, 0, 15, 4, 1] 0) (fun t => t.handler.overflow = some 600 &&
        t.handler.peers = crowded.handler.peers && (t.flag .peerOverflow).raised) = true := by decide +kernel

theorem witness_HandlerTimersAndStates :
    ((holds base 41 4 [1, 0, 0, 255, 15, 0] 1).handler.inHand.isSome = true ∧
      (holds base 41 6 [23, 1, 1, 50] 1).obeyed { origin := 41, kind := 6, payload := [23, 1, 1, 50], receipt := 4999, age := 1 } = none) ∧
      (peerFind 41 [{ peer 41 with wetness := some { onset := 4000, left := 0 } }] =
          some { peer 41 with wetness := some { onset := 4000, left := 0 } } ∧
        ({ peer 41 with wetness := some { onset := 4000, left := 0 } } : PeerEntry).partLeft .wetness = some 0) ∧
      ({ base with handler := { base.handler with overflow := some 0 } } : State).handler.overflow = some 0 ∧
      ({ base with handler := { base.handler with stateTimers := Vector.replicate 4 (some 0) } } : State).handler.stateTimers[(3 : Ch)]
        = some 0 := by decide

/-! ### Witnesses: console -/

/-- A COMMAND of the console in hand: its mask, action and argument. -/
def ordered (s : State) (mask action argument : Byte) : State := holds s 100 6 [23, mask, action, argument] 0

theorem witness_ChannelActionsAreJudged :
    (ordered base 9 1 50).requestBy .commandOpen { mask := 9, action := .opn, argument := 50 } (.opn 50) ∧
      (ordered base 15 2 0).requestBy .commandClose { mask := 15, action := .close, argument := 0 } .close ∧
      (ordered base 0 3 0).requestBy .commandStop { mask := 0, action := .stop, argument := 0 } .stop ∧
      (ordered base 1 4 0).requestBy .commandHold { mask := 1, action := .hold, argument := 0 } .hold ∧
      (ordered base 8 5 0).requestBy .commandRelease { mask := 8, action := .release, argument := 0 } .release ∧
      (9 : Nat).testBit (0 : Ch).val = true ∧ (9 : Nat).testBit (1 : Ch).val = false ∧
      (ordered base 1 4 0).judge 0 .hold = .accepted ∧ (ordered base 8 5 0).judge 3 .release = .config := by
  refine ⟨.inl ⟨rfl, by decide, rfl⟩, .inr (.inl ⟨rfl, by decide, rfl⟩), .inr (.inr (.inl ⟨rfl, by decide, rfl⟩)),
    .inr (.inr (.inr (.inl ⟨rfl, by decide, rfl⟩))), .inr (.inr (.inr (.inr ⟨rfl, by decide, rfl⟩))), by decide, by decide,
    by decide, by decide⟩

/-- The same with the evaluator in agreement with its inputs. -/
def orders (s : State) (mask action argument : Byte) : State := settled (ordered s mask action argument) cfg0

/-- Accepted requests of a settled station, on a channel at rest and over an OPEN, a REDUCE and a CLOSE travel. -/
theorem witness_CarriedOut :
    (∀ s : State, s = orders base 1 1 50 ∨ s = orders (runs opening .opening 400) 1 2 0 ∨
        s = orders (runs { opening with kind := .reduce } .opening 400) 1 2 0 ∨ s = orders (runs closing .closing 400) 1 2 0 ∨
        s = orders (runs opening .opening 400) 1 3 0 →
      s.Judged ∧ s.deciding = true ∧ s.chan? 0 = some chan0 ∧ s.judge 0 (.opn 50) = .accepted ∧ s.judge 0 .close = .accepted ∧
        s.judge 0 .stop = .accepted ∧ s.recs[(0 : Ch)].referenced = true) ∧ chan0.wr < chan0.wc ∧
      (orders base 1 2 0).closed 0 = true ∧ (orders (with1 base (driven .closing 400) .still) 1 2 0).closed 0 = false ∧
      (orders (runs closing .closing 400) 1 2 0).needOf 0 = .none ∧ closing.origin.isRequest = false ∧ closing.target = none := by
  refine ⟨?_, by decide, by decide, by decide, by decide +kernel, by decide, by decide⟩
  rintro s (rfl | rfl | rfl | rfl | rfl) <;> exact ⟨settled_judged _ _ rfl, by decide +kernel⟩

/-- R47, R48, R162: an OPEN order makes its travel, and a CLOSE order replaces an OPEN travel and adopts one without its need. -/
theorem test_orders_are_carried_out :
    leaves .commandOpen (orders base 1 1 50) (fun t => (t.travel? 0).any (fun x => x.target = some 3100 && x.origin = .console)) = true ∧
      leaves .commandClose (orders (runs opening .opening 400) 1 2 0)
        (fun t => (t.travel? 0).any (fun x => x.kind = .close && x.band = 4 && x.origin = .console)) = true ∧
      leaves .commandClose (orders (runs closing .closing 400) 1 2 0)
        (fun t => (t.travel? 0).any (fun x => x.kind = .close && x.band = 4 && x.origin = .console && x.profile = .storm)) = true := by
  decide +kernel

theorem witness_RequestsAreJudgedAndCarriedOut :
    (base.chan? 0 = some chan0 ∧ base.travel? 0 = none ∧
      3100 = min (chan0.c + chan0.span * 50 / 100) (chan0.c + base.eval.chans[(0 : Ch)].ceiling) ∧
      base.units[(0 : Ch)].count ≠ 3100 ∧ base.units[(0 : Ch)].count = min (chan0.c + chan0.span * 0 / 100) (chan0.c + 6000)) ∧
      ((runs opening .opening 400).stateOf 0 = .running opening ∧ opening.kind = .opn ∧ opening.direction = .opening ∧
        (runs opening .opening 400).units[(0 : Ch)].count < 3100) ∧
      (base.recs[(0 : Ch)].referenced = true ∧ base.closed 0 = true ∧
        (with1 base (driven .closing 400) .still).closed 0 = false ∧
        ({ base with recs := Vector.replicate 4 ChanRec.reset } : State).recs[(0 : Ch)].referenced = false ∧
        base.needOf 0 = .none) ∧
      ((runs closing .closing 400).travel? 0 = some closing ∧ closing.stoppable = false) ∧ base.fitted 3 = false ∧
      ({ base with eval := { base.eval with threat := true } } : State).judge 0 (.opn 50) = .threat := by decide

theorem witness_StationActions :
    ((with1 (ordered base 0 6 0) (driven .closing 100) (.faulted true true)).orderInHand .acknowledge
        = some { mask := 0, action := .acknowledge, argument := 0 } ∧
      (with1 (ordered base 0 6 0) (driven .closing 100) (.faulted true true)).stateOf 0 = .faulted true true) ∧
      ({ base with panel := { base.panel with ackTimer := some 0 } } : State).panel.ackTimer = some 0 ∧
      ((ordered base 5 8 0).orderInHand .report = some { mask := 5, action := .report, argument := 0 } ∧
        (5 : Nat).testBit (2 : Ch).val = true ∧ (ordered base 5 8 0).reviewDue = false ∧ (ordered base 5 8 0).evalDue = false) ∧
      (ordered base 0 7 0).orderInHand .restart = some { mask := 0, action := .restart, argument := 0 } := by decide

/-! ### Witnesses: panel, learning and the store -/

/-- The station with these accepted levels, all inputs ACTIVE-HIGH, and what is active among them. -/
def pressed (s : State) (l : PanelLevels) : State := { s with panel := { s.panel with levels := l, active := l } }

theorem witness_PressesAndChord :
    (levelOf base.panel.levels .opn = false ∧ 49 < 50 ∧ levelOf base.panel.levels .cls ≠ true ∧ 50 ≤ 50 ∧
      ({ base with panel := Panel.reset PanelLevels.allLow } : State).panel.judging = false) ∧
      (base.port.config = some cfg0 ∧ base.panel.judging = true ∧ base.panel.levels.opn = !cfg0.polOpn ∧
        base.panel.active.cls = false ∧ (pressed base { PanelLevels.allLow with cls := true }).panel.active.cls = true) ∧
      ((pressed base { PanelLevels.allLow with opn := true }).panel.levels.opn = cfg0.polOpn ∧
        ({ base with panel := { base.panel with armedOpn := true } } : State).panel.armedOpn = true ∧ base.panel.armedOpn = false) ∧
      (base.fitted 0 = true ∧ base.maintHolds 0 = false ∧ base.judge 0 (.opn 100) = .accepted) ∧
      ({ base with eval := { base.eval with threat := true } } : State).judge 2 (.opn 100) ≠ .accepted ∧
      (cfg0.closeLevel = false ∧ levelOf base.panel.levels .cls = !levelOf cfg0.polarity .cls ∧
        levelOf (pressed base { PanelLevels.allLow with cls := true }).panel.levels .cls = levelOf cfg0.polarity .cls ∧
        ({ base with panel := { base.panel with armedCls := true } } : State).panel.armed .cls = true ∧
        levelOf (pressed base { PanelLevels.allLow with opn := true }).panel.active .opn = true ∧
        base.judge 0 .close = .accepted ∧ (with1 base (driven .closing 100) (.faulted true false)).judge 0 .close ≠ .accepted) := by
  decide

/-- CLOSE in LEVEL mode. -/
def levelled : State := { base with port := { base.port with config := some { cfg0 with closeLevel := true } } }

theorem witness_MaintLearnAndCloseLevels :
    (base.port.config = some cfg0 ∧ base.panel.judging = true ∧ base.panel.levels.maint = !cfg0.polMaint ∧ base.fitted 1 = true ∧
      cfg0.maintSet[(1 : Ch)] = true ∧ base.isLearnChannel 1 = false ∧ base.stateOf 1 = .still) ∧
      (pressed base { PanelLevels.allLow with maint := true }).panel.levels.maint = cfg0.polMaint ∧
      (base.panel.levels.learn = !cfg0.polLearn ∧ base.panel.active.maint = false ∧
        (pressed base { PanelLevels.allLow with maint := true }).panel.active.maint = true) ∧
      (levelled.port.config = some { cfg0 with closeLevel := true } ∧ levelled.panel.levels.cls = !cfg0.polCls ∧
        (pressed levelled { PanelLevels.allLow with cls := true }).panel.levels.cls = cfg0.polCls ∧
        (pressed levelled { PanelLevels.allLow with opn := true }).panel.active.opn = true ∧ levelled.rereading = false) := by decide

/-- LEARN armed under MAINT, with a session or none, the evaluator in agreement with its inputs. -/
def learnArmed (p : Option Session) : State :=
  settled { (pressed base { PanelLevels.allLow with maint := true, learn := true }) with
    port := { base.port with session := p }
    panel := { (pressed base { PanelLevels.allLow with maint := true, learn := true }).panel with
      learnArmed := true, learnTimer := some 0 } } cfg0

theorem witness_LearnPresses :
    ((learnArmed none).port.config = some cfg0 ∧ (learnArmed none).panel.judging = true ∧
      (learnArmed none).panel.levels.learn = cfg0.polLearn ∧ (learnArmed none).panel.learnArmed = true ∧
      (learnArmed none).rereading = false) ∧
      ((learnArmed none).port.session = none ∧ (learnArmed none).fitted 0 = true ∧
        (∀ m : Ch, m < 0 → (learnArmed none).fitted m = false) ∧ (learnArmed none).Judged ∧ (learnArmed none).learnBar 0 = false) ∧
      ({ learnArmed none with arb := Arbiter.reset } : State).learnBar 0 = true ∧
      ({ learnArmed none with arb := Arbiter.reset } : State).Judged ∧
      ((learnArmed (some { learning .awaitingConfirm with stormSpeed := some 300 })).port.session
          = some { learning .awaitingConfirm with stormSpeed := some 300 } ∧
        (learning .awaitingConfirm).phase = .awaitingConfirm) := by
  refine ⟨by decide, ⟨rfl, by decide, by decide, settled_judged _ _ rfl, by decide +kernel⟩, by decide +kernel, ?_, by decide⟩
  exact settled_judged { (pressed base { PanelLevels.allLow with maint := true, learn := true }) with
    arb := Arbiter.reset
    panel := { (pressed base { PanelLevels.allLow with maint := true, learn := true }).panel with
      learnArmed := true, learnTimer := some 0 } } cfg0 rfl

theorem witness_LearnTimersAndLamp :
    ((learnArmed (some (Session.fresh 0))).panel.learnTimer = some 0 ∧ (learnArmed (some (Session.fresh 0))).panel.learnArmed = true ∧
      (learnArmed (some (Session.fresh 0))).port.session = some (Session.fresh 0) ∧ (Session.fresh 0).phase = .selecting) ∧
      (((learnArmed (some (Session.fresh 0))).stateOf 0).isFaulted = false ∧
        (learnArmed (some (Session.fresh 0))).learnBar 0 = false ∧ (learnArmed (some (Session.fresh 0))).travel? 0 = none ∧
        (learnArmed (some (Session.fresh 0))).deciding = true ∧ (learnArmed (some (Session.fresh 0))).Judged) ∧
      ({ learnArmed (some (Session.fresh 0)) with arb := Arbiter.reset } : State).learnBar 0 = true ∧
      ({ learning .awaitingConfirm with confirm := some 0 } : Session).confirm = some 0 ∧
      ({ base with panel := { base.panel with refusal := some 15 } } : State).panel.refusal = some 15 := by
  refine ⟨by decide, ⟨by decide, by decide +kernel, by decide, by decide, settled_judged _ _ rfl⟩, by decide +kernel, by decide,
    by decide⟩

/-- A store on its first page, polling or not, with this many polls. -/
def storing (x : Store) : State := { base with port := { base.port with session := some (learning .storing), store := some x } }

theorem witness_StoreWritesItsPages :
    ((storing (storePages 0)).port.store = some (storePages 0) ∧ (storing (storePages 0)).port.session = some (learning .storing) ∧
      (learning .storing).phase = .storing ∧ (storePages 0).polling = false) ∧
      (({ storePages 0 with polling := true, polls := 3 } : Store).polling = true ∧ 3 < 4 ∧ 4 ≤ 4) ∧
      (({ storePages 0 with rest := [] } : Store).rest = [] ∧ (storePages 3).rest = [0x110, 0x120, 0x130, 0x7F0]) := by decide

theorem witness_LearnedImageReadsBack :
    image.wf = true ∧ (∃ c, judgeImage 23 image = some c ∧ c.chans[(0 : Ch)] = .fitted (image.chanAt 0x40)) ∧
      rangeCheck (image.chanAt 0x40).c 200 1 5000 = true ∧ rangeCheck (image.chanAt 0x40).c 60000 5000 1 = true :=
  ⟨image_bytes.2.2, ⟨_, image_valid, image_channel⟩, by decide, by decide⟩

/-! ### Witnesses: deciding -/

theorem witness_EvaluationUpgradesWithinBudget :
    (runs closing .closing 400).port.config = some cfg0 ∧ (runs closing .closing 400).believed cfg0 ≤ cfg0.budget := by decide

/-- Channel 1 waits to close, under LISTEN-ONLY: the one-travel limit applies. -/
def waits : State :=
  { (with1 base base.units[(0 : Ch)] (.waiting closing)) with line := { base.line with mode := .listenOnly 50 } }

theorem witness_AdmissionObeysItsBars :
    (waits.stateOf 0).moving = false ∧ ((waits.admissionStep cfg0 none).stateOf 0).moving = true ∧
      ((waits.admissionStep cfg0 (some 1)).stateOf 0).moving = true ∧ waits.limited = true := by decide +kernel

/-- Channel 1 waits at a band beside a peer that claims this draw; B is 200, Rv 50, the draw of the storm profile 45. -/
def besideClaim (band : Band) (draw : Nat) : State :=
  { (with1 base base.units[(0 : Ch)] (.waiting { closing with band := band })) with
    handler := { base.handler with peers := [{ peer 20 with claim := some { draw := draw, least := none, left := 100 },
                                                            waiting := none }] } }

/-- R106: exactly B − Rv at band 1, B at band 0, and one unit more of either is not admitted. -/
theorem witness_AdmissionObeysItsBars_reserve :
    (((besideClaim 1 105).admissionStep cfg0 none).stateOf 0).moving = true ∧
      (((besideClaim 1 106).admissionStep cfg0 none).stateOf 0).moving = false ∧
      (((besideClaim 0 155).admissionStep cfg0 none).stateOf 0).moving = true ∧
      (((besideClaim 0 156).admissionStep cfg0 none).stateOf 0).moving = false ∧
      (besideClaim 1 105).believed cfg0 = 105 ∧ ((besideClaim 1 105).admissionStep cfg0 none).believed cfg0 = 150 := by
  decide +kernel

/-- The own circuit over its budget by the claims of three peers, this station the yielder. -/
def overBudget (holdOn : Timer) : State :=
  { (runs { closing with band := 4 } .closing 400) with
    handler := { base.handler with
      peers := [{ peer 20 with claim := some { draw := 170, least := some 3, left := 100 } }, peer 22] }
    arb := { base.arb with holdOn := base.arb.holdOn.set 0 holdOn } }

/-- Under its budget, but at band 4 while a peer of the circuit waits at band 1; channel 2 waits at band 1 on NORMAL. -/
def outbid : State :=
  { ((runs { closing with band := 4 } .closing 400).setRec 1
      { base.recs[(1 : Ch)] with state := .waiting { closing with band := 1, profile := .normal } }) with
    handler := { base.handler with peers := [peer 20] } }

/-- R104, R114: the evaluation that the yield's departure starts upgrades the travel its pass has admitted. -/
theorem test_departure_upgrades_the_admitted :
    outbid.evaluate.stateOf 0 = .yielded { closing with band := 4 } ∧
      outbid.evaluate.stateOf 1 = .running { closing with band := 1, profile := .storm, admission := some 5000 } := by
  decide +kernel

/-- Channel 1 runs at band 1, channel 2 backs off at band 4, and a peer of the circuit waits at band 1. -/
def asideAtBand1 : State :=
  { ((runs { closing with band := 1 } .closing 400).setRec 1
      { base.recs[(1 : Ch)] with state := .backing { closing with band := 4 } 600 }) with
    handler := { base.handler with peers := [peer 20] } }

/-- R114: the travel yielded for the band of a backing one is not readmitted by the evaluation that yields it. -/
theorem test_yielded_is_not_readmitted :
    asideAtBand1.yields cfg0 = some 0 ∧ asideAtBand1.evaluate.stateOf 0 = .yielded { closing with band := 1 } := by decide +kernel

theorem witness_YieldSetsOneChannelAside :
    ((overBudget none).yields cfg0 = some 0 ∧ (overBudget none).rereading = false ∧ (overBudget none).port.config = some cfg0) ∧
    (overBudget none).yieldDecided cfg0 = true ∧ (overBudget none).yieldChoice = some 0 ∧
      (overBudget none).stateOf 0 = .running { closing with band := 4 } ∧ inHoldOn (overBudget none).arb.holdOn[(0 : Ch)] = false ∧
      inHoldOn (overBudget (some 1)).arb.holdOn[(0 : Ch)] = true ∧ inHoldOn (overBudget (some 0)).arb.holdOn[(0 : Ch)] = false ∧
      ((4, 23) ∈ (overBudget none).runningBands cfg0 ∧ (3, 20) ∈ (overBudget none).runningBands cfg0) ∧
      cfg0.budget < (overBudget none).believed cfg0 ∧ (outbid.yieldDecided cfg0 = true ∧ outbid.believed cfg0 ≤ cfg0.budget) ∧
      base.yieldDecided cfg0 = false ∧ base.yieldChoice = none ∧ yielder [(3, 20), (4, 23), (4, 22)] = some (4, 23) := by
  decide +kernel

/-- R136, R138, R140: into a pool of eight, seven with the LOCKED one, and one that holds the key. -/
theorem witness_SubmissionsCoalesceOrDrop :
    full.line.waiting.Pairwise (fun f g => f.seq ≠ g.seq) ∧
      (full.line.waiting.find? (fun f => sameKey (.gust 7 7 1) f.notice) = some (entryOf (.gust 100 90 2) 8 12)) ∧
      ((∀ f ∈ full.line.waiting, sameKey (.alarm 9 0 true) f.notice = false) ∧ 8 ≤ full.line.waiting.length + 0 ∧
        full.line.waiting ≠ []) ∧
      (full.line.waiting.drop 2).length + 1 < 8 := by decide

theorem witness_LeadsAndLags :
    cfg0.map.find? (fun x => x.peer = 41) = some { peer := 41, leads := Vector.replicate 8 (some 500) } ∧
      ({ peer := 41, leads := Vector.replicate 8 (some 500) } : MapEntry).lead 8 = some 500 ∧ 500 ≤ 2000 ∧
      ({ peer := 41, leads := Vector.replicate 8 (some 0) } : MapEntry).lead 3 = some 0 ∧
      ({ peer := 41, leads := Vector.replicate 8 none } : MapEntry).lead 8 = none ∧
      ({ base with handler := { base.handler with peers := [peer 41] } } : State).handler.peers = [peer 41] ∧
      ({ cfg0 with map := [{ peer := 41, leads := Vector.replicate 8 none }] } : RunCfg).lag 100 8 41 = none := by decide

/-- Channel 1 open under an active CLOSE input in LEVEL mode, and under isolation-close. -/
def closeLevel : State :=
  { (with1 base (driven .closing 400) .still) with
    port := { base.port with config := some { cfg0 with closeLevel := true } }
    panel := { base.panel with active := { base.panel.active with cls := true } } }

def isolatedClose : State :=
  { (with1 base (driven .closing 400) .still) with
    port := { base.port with config := some { cfg0 with policyClose := true } }
    handler := { base.handler with isolated := true } }

theorem witness_ReviewsFollowTheirTables :
    base.windSources ≠ [] ∧ ({ base with port := { base.port with config := none } } : State).windSources = [] ∧
      base.reportOffered = true ∧ base.wind.assessment = base.workingWind.1 ∧ peered.rain.countsWet = false ∧
      peered.threatArrival cfg0 100 8 = some 5400 ∧ base.chan? 0 = some chan0 ∧ base.closed 0 = true ∧
      (with1 base (driven .closing 400) .still).closed 0 = false ∧
      ((with1 base (driven .closing 400) .still).evalChannel 0 140 none).slack = some (-19) ∧
      ((with1 base (driven .closing 400) .still).evalChannel 0 140 none).slackOrigin = some .wind ∧ chan0.wc ≤ 140 ∧ 139 < chan0.wc ∧
      base.closeLevelActive = false ∧ base.isolationClose = false ∧
      (closeLevel.closed 0 = false ∧ closeLevel.closeLevelActive = true ∧ isolatedClose.closed 0 = false ∧
        isolatedClose.closeLevelActive = false ∧ isolatedClose.isolationClose = true) ∧
      (base.recs[(0 : Ch)].referenced = true ∧ 400 - chan0.c = 300 ∧ (300 * 10 + chan0.storm.speed - 1) / chan0.storm.speed + 10 = 19) ∧
      ((5400 - 10 * chan0.guardS : Nat) : Int) - (base.now : Int) - 19 = 81 ∧ ¬((81 : Int) ≤ -19) ∧
      ((5281 - 10 * chan0.guardS : Nat) : Int) - (base.now : Int) - 19 = -38 ∧ ((-38 : Int) ≤ -19) := by decide +kernel

/-! ### Witnesses: what a review, an evaluation and a report do -/

/-- Channel 1 STILL at 400, the review timer at its expiry. -/
def dueReview (s : State) : State :=
  { (with1 s { base.units[(0 : Ch)] with count := 400 } .still) with eval := { s.eval with timer := some 0 } }

/-- A wind of 139 against Wr 80 and Wc 140: the ceiling is 100. -/
def windy : State := { base with wind := { base.wind with peak := 139 } }

/-- R39, R40, R41, R93: wet, a CLOSE travel; windy, a REDUCE travel to C plus the ceiling; unreferenced, a REFERENCE travel; an
OPEN travel is replaced. -/
theorem witness_ReviewsRecomputeAndAct_needs :
    leaves .timedReview (dueReview (raining { base.rain with state := some .wet, wetTime := some 4990 }))
        (fun t => t.needReaches 0 && t.needOf 0 = .close 0 .threat && (t.travel? 0).any (fun y => y.kind = .close)) = true ∧
      leaves .timedReview (dueReview { windy with units := base.units })
        (fun t => t.needReaches 0 && t.recs[(0 : Ch)].referenced && t.needOf 0 = .reduce 200) = true ∧
      leaves .timedReview { dueReview base with recs := Vector.replicate 4 ChanRec.reset }
        (fun t => t.needReaches 0 && !t.recs[(0 : Ch)].referenced && t.needOf 0 = .reference) = true ∧
      (with1 windy base.units[(0 : Ch)] (.running { opening with kind := .reduce })).travel? 0
        = some { opening with kind := .reduce } ∧ opening.target ≠ some 200 ∧
      (with1 base base.units[(0 : Ch)] (.waiting closing)).stateOf 0 = .waiting closing ∧ closing.origin.isNeed = true := by
  decide +kernel

theorem besideClaim_first (b : Band) (x : Nat) : (besideClaim b x).FirstOf ChState.Waits 0 := by
  refine ⟨rfl, ⟨{ closing with band := b }, .inl rfl⟩, fun m hm _ hw => ?_⟩
  obtain ⟨t, h⟩ := hw
  have : ∀ m : Ch, m ≠ 0 → (besideClaim b x).stateOf m = .still := by
    intro m hm; fin_cases m <;> first | exact absurd rfl hm | rfl
  rw [this m hm] at h
  rcases h with h | h <;> cases h

/-- R26, R106: the one candidate, with room to the last unit and with none. -/
theorem witness_AdmissionObeysItsBars_first :
    (besideClaim 1 105).FirstOf ChState.Waits 0 ∧ (besideClaim 1 105).chan? 0 = some chan0 ∧
      (besideClaim 1 105).travel? 0 = some { closing with band := 1 } ∧ closing.target = none ∧
      (besideClaim 1 105).Unbarred cfg0 chan0 { closing with band := 1 } ∧
      ¬ (besideClaim 1 106).Unbarred cfg0 chan0 { closing with band := 1 } ∧
      (opening.target = some 3000 ∧ opening.direction = .opening ∧ 3000 ≤ 3000) := by
  refine ⟨besideClaim_first 1 105, rfl, rfl, rfl, ⟨rfl, ?_, .inl rfl, by decide, ?_⟩, ?_, rfl, rfl, Nat.le_refl _⟩
  · intro h; rcases h with h | h
    · cases h
    · exact absurd rfl h
  · intro b h; rw [show (besideClaim 1 105).peerWaits cfg0 = [] from rfl] at h; cases h
  · intro h; exact absurd h.2.2.2.1 (by decide)

/-- Channel 1 runs at band 1 on NORMAL beside a claim: the upgrade costs 25, and B − Rv is 150. -/
def upgrading (claim : Nat) : State :=
  { (runs { closing with band := 1, profile := .normal } .closing 400) with handler := (besideClaim 1 claim).handler }

theorem upgrading_first (x : Nat) : (upgrading x).FirstOf ChState.Upgrades 0 := by
  refine ⟨rfl, ⟨_, rfl, by decide, rfl, nofun, nofun, nofun⟩, fun m hm _ hw => ?_⟩
  obtain ⟨t, h, -⟩ := hw
  have : ∀ m : Ch, m ≠ 0 → (upgrading x).stateOf m = .still := by
    intro m hm; fin_cases m <;> first | exact absurd rfl hm | rfl
  rw [this m hm] at h
  cases h

/-- R110: to the last unit, and one more. -/
theorem witness_EvaluationUpgradesWithinBudget_upgrade :
    (upgrading 105).FirstOf ChState.Upgrades 0 ∧ (upgrading 105).chan? 0 = some chan0 ∧ (upgrading 105).arb.supply = .good ∧
      (upgrading 105).believed cfg0 + chan0.storm.draw ≤ cfg0.budget - cfg0.reserve + chan0.normal.draw ∧
      cfg0.budget - cfg0.reserve + chan0.normal.draw < (upgrading 106).believed cfg0 + chan0.storm.draw ∧
      (upgrading 105).port.config = some cfg0 ∧ (upgrading 105).rereading = false ∧ (upgrading 105).yieldDecided cfg0 = false ∧
      ((upgrading 105).upgradeStep cfg0).stateOf 0 = .running { closing with band := 1, profile := .storm } :=
  ⟨upgrading_first 105, rfl, rfl, by decide, by decide, rfl, rfl, by decide, by decide +kernel⟩

/-- R79, R83, R84: a live wind part and a live wetness part, a peer that is not mapped, the own wet time. -/
theorem witness_ReviewsFollowTheirTables_sources :
    (120, 3) ∈ peered.windSources ∧ (∀ e ∈ cfg0.map, e.peer ≠ 99) ∧ cfg0.lag 100 8 99 = some 600 ∧
      (raining { base.rain with state := some .wet, wetTime := some 4990 }).rain.countsWet = true ∧
      base.rain.countsWet = false ∧ base.threatArrival cfg0 100 8 = none := by decide +kernel

/-- R154, R140: an onset with a place in the pool, and into a full one over a less urgent notice; a cease with a place. -/
theorem witness_RainStartsAndCeases_notices :
    leaves (.rainReading 300) (raining { base.rain with onsetRun := some 50 })
        (fun t => t.line.waiting.any (fun e => e.notice = .wetness 0 0 1 && e.rank = 0)) = true ∧
      leaves (.rainReading 231) (raining { base.rain with state := some .wet, ceaseRun := some 3000, wetTime := some 4000 })
        (fun t => decide (t.line.poolSize < Config.poolCapacity) &&
          t.line.waiting.any (fun e => e.notice = .wetness 2 1000 0 && e.rank = 9)) = true := by decide +kernel

/-- A station that has reported its views and its draw. -/
def reported : State :=
  { base with handler := { base.handler with lastState := #v[base.view 0, base.view 1, base.view 2, base.view 3] }
              arb := { base.arb with lastDraw := DrawContent.final 3 } }

/-- R117, R156, R177: the reports agree in a station at rest, and a command that changes them leaves the pool with room. -/
theorem witness_reports_agree :
    reported.DrawReported ∧ reported.ViewsReported ∧ reported.judgeLamp.panel.standing = reported.judgeLamp.standing ∧
      leaves .msgoodLow
        { with1 reported (driven .closing 400) (.running closing) with
          rain := { base.rain with state := some .wet, wetTime := some 4990 } }
        (fun t => t.port.ownAddress.isSome && decide (t.line.poolSize < Config.poolCapacity) &&
          decide (t.arb.lastDraw ≠ reported.arb.lastDraw) && decide (t.handler.lastState[(0 : Ch)] ≠ reported.handler.lastState[(0 : Ch)]) &&
          (t.flag .supplyLow).raised &&
          t.line.waiting.any (fun e => e.notice = .alarm 10 0 true && e.rank = 10)) = true := by
  refine ⟨?_, ?_, ?_, ?_⟩
  · intro c hc _ _; cases hc; decide
  · intro n; fin_cases n <;> decide
  · decide
  · decide +kernel

/-- R178, R179: LEARN(3) lights its third blink and not a fourth; the refusal pattern its third and not a fourth. -/
theorem witness_LearnTimersAndLamp_lamp :
    ({ base.panel with standing := .learn 2, patternAge := 11 } : Panel).lamp 99 = true ∧
      ({ base.panel with standing := .learn 2, patternAge := 15 } : Panel).lamp 0 = false ∧
      ({ base.panel with refusal := some 6 } : Panel).lamp 99 = true ∧
      ({ base.panel with refusal := some 9 } : Panel).lamp 0 = false := by decide

/-- R6, R13, R15, R17, R197: an illegal transition below the fourth, a drive start owed a dead time and one that is not, and one
that takes the index record. -/
theorem witness_counts_and_drive_starts :
    ((quadStep .x4 false false true true).swapped false = .illegal ∧
        (with1 base { base.units[(0 : Ch)] with illegal := 2 } (.waiting closing)).travel? 0 ≠ none ∧
        (with1 base { base.units[(0 : Ch)] with illegal := 2 } (.waiting closing)).reviewDue = false ∧
        (with1 base { base.units[(0 : Ch)] with illegal := 2 } (.waiting closing)).evalDue = false) ∧
      ((ChState.running closing).driveDir? = some .closing ∧ (ChState.waiting closing).driveDir? = none ∧
        ChState.still.driveDir? = none ∧ (ChState.backing closing 600).driveDir? = some .opening ∧
        base.units[(0 : Ch)].drive = .off ∧ Direction.closing ≠ .opening) ∧
      (with1 base { base.units[(0 : Ch)] with lastDir := some .opening, deadTime := some 1 } (.waiting closing)).units[(0 : Ch)].deadTime
        ≠ none ∧
      ((with1 base (driven .closing 400) (.running closing)).units[(0 : Ch)].drive.driven? = some .closing ∧
        (with1 base (driven .closing 400) (.running closing)).units[(0 : Ch)].lastDir = some .closing) ∧
      (((with1 (tuned base { chan0 with indexMode := .reload }) { base.units[(0 : Ch)] with count := 121 }
          (.waiting closing)).setState 0 (.running closing)).units[(0 : Ch)].indexRecord
        = some { wasReferenced := true, wasAbove := true }) := by decide +kernel

end Sys2Proof.Tests
end

namespace Sys2Proof.Machine

-- The kernel evaluations of the tests above fill the memory limit with waiting threads; these proofs open no more of them.
set_option Elab.async false

/-! ### The anemometer's record through the station's operations

R68 gives the last window speed one writer, the window end. What follows says of each operation that it leaves the
anemometer's record as it was, or, of the few that write in that record, that they leave its last window speed. -/

section operations

variable (s : State)

/-- A fold of a step that keeps a projection keeps it. -/
theorem foldl_keeps {α β : Type} (p : State → β) (f : State → α → State) (h : ∀ s a, p (f s a) = p s) (l : List α) :
    p (l.foldl f s) = p s := by
  induction l generalizing s with
  | nil => rfl
  | cons a l ih => rw [List.foldl_cons, ih, h]

/-! #### Operations that keep `State.kept` -/

@[simp] theorem submitState_wind (n : Ch) : (s.submitState n).wind = s.wind := kept_wind (submitState_kept s n)

@[simp] theorem checkView_wind (n : Ch) : (s.checkView n).wind = s.wind := kept_wind (checkView_kept s n)

@[simp] theorem submitDraw_wind (c : DrawContent) (h : Nat) : (s.submitDraw c h).wind = s.wind :=
  kept_wind (submitDraw_kept s c h)

@[simp] theorem driveStart_wind (n : Ch) (d : Direction) : (s.driveStart n d).wind = s.wind :=
  kept_wind (driveStart_kept s n d)

@[simp] theorem setState_wind (n : Ch) (c : ChState) : (s.setState n c).wind = s.wind := kept_wind (setState_kept s n c)

@[simp] theorem setTravel_wind (n : Ch) (t : Travel) : (s.setTravel n t).wind = s.wind := kept_wind (setTravel_kept s n t)

@[simp] theorem toStill_wind (n : Ch) : (s.toStill n).wind = s.wind := kept_wind (toStill_kept s n)

@[simp] theorem complete_wind (n : Ch) : (s.complete n).wind = s.wind := kept_wind (complete_kept s n)

@[simp] theorem createTravel_wind (n : Ch) (t : Travel) : (s.createTravel n t).wind = s.wind :=
  kept_wind (createTravel_kept s n t)

@[simp] theorem createTargeted_wind (n : Ch) (k : TravelKind) (x : Nat) (o : Origin) (b : Band) :
    (s.createTargeted n k x o b).wind = s.wind := kept_wind (createTargeted_kept s n k x o b)

@[simp] theorem createClose_wind (n : Ch) (b : Band) (o : Origin) : (s.createClose n b o).wind = s.wind :=
  kept_wind (createClose_kept s n b o)

@[simp] theorem createReference_wind (n : Ch) : (s.createReference n).wind = s.wind :=
  kept_wind (createReference_kept s n)

@[simp] theorem applyNeed_wind (n : Ch) : (s.applyNeed n).wind = s.wind := kept_wind (applyNeed_kept s n)

@[simp] theorem endOpen_wind (n : Ch) : (s.endOpen n).wind = s.wind := kept_wind (endOpen_kept s n)

@[simp] theorem stopLearn_wind (n : Ch) : (s.stopLearn n).wind = s.wind := kept_wind (stopLearn_kept s n)

@[simp] theorem endSession_wind : s.endSession.wind = s.wind := kept_wind (endSession_kept s)

@[simp] theorem abortLearn_wind : s.abortLearn.wind = s.wind := kept_wind (abortLearn_kept s)

@[simp] theorem finish_wind : s.finish.wind = s.wind := kept_wind (finish_kept s)

/-- A step that keeps the anemometer's record keeps it over every channel. -/
theorem eachChannel_wind (f : Ch → State → State) (h : ∀ n s, (f n s).wind = s.wind) : (s.eachChannel f).wind = s.wind :=
  eachChannel_keeps State.wind f h s

/-! #### Alarm flags -/

@[simp] theorem raiseAt_wind (i : Fin 21) : (s.raiseAt i).wind = s.wind := by
  unfold State.raiseAt State.submitAlarm
  split <;> simp

@[simp] theorem clearAt_wind (i : Fin 21) : (s.clearAt i).wind = s.wind := kept_wind (s := s.setFlag i _) (clearAt_kept s i)

@[simp] theorem raise_wind (f : FlagId) : (s.raise f).wind = s.wind := raiseAt_wind s f.index

@[simp] theorem setCondition_wind (f : FlagId) (b : Bool) : (s.setCondition f b).wind = s.wind := rfl

@[simp] theorem endCondition_wind (f : FlagId) : (s.endCondition f).wind = s.wind := rfl

@[simp] theorem beginCondition_wind (f : FlagId) : (s.beginCondition f).wind = s.wind := by
  unfold State.beginCondition
  split <;> simp

@[simp] theorem clearEnded_wind : s.clearEnded.wind = s.wind :=
  foldl_keeps s State.wind _ (fun s i => by split <;> simp) _

@[simp] theorem clearAll_wind : s.clearAll.wind = s.wind := foldl_keeps s State.wind _ clearAt_wind _

@[simp] theorem raiseHolding_wind : s.raiseHolding.wind = s.wind :=
  foldl_keeps s State.wind _ (fun s i => by split <;> simp) _

@[simp] theorem noteFaultAck_wind : s.noteFaultAck.wind = s.wind := by rw [State.noteFaultAck_eq]

@[simp] theorem endLineFault_wind : s.endLineFault.wind = s.wind := by
  have kept := kept_wind (endLineFault_kept s)
  simpa using kept

/-! #### WETNESS and GUST notices -/

@[simp] theorem submitWetness_wind (p a i : Nat) : (s.submitWetness p a i).wind = s.wind := State.submit_wind s _ _

@[simp] theorem submitGust_wind : s.submitGust.wind = s.wind := State.submit_wind s _ _

@[simp] theorem submitGust_vane : s.submitGust.vane = s.vane := State.submit_vane s _ _

@[simp] theorem submitGust_rain : s.submitGust.rain = s.rain := State.submit_rain s _ _

@[simp] theorem submitGust_flags : s.submitGust.flags = s.flags := State.submit_flags s _ _

@[simp] theorem withdrawGust_wind : s.withdrawGust.wind = s.wind := rfl

/-- Handing the report (R72): nothing, a review asked for, or a review and a GUST. -/
theorem handReport_cases : s.handReport = s ∨ s.handReport = s.askReview ∨ s.handReport = s.askReview.submitGust := by
  unfold State.handReport
  split
  · dsimp only
    split
    · exact .inr (.inl rfl)
    · split
      · exact .inr (.inr rfl)
      · exact .inr (.inl rfl)
  · exact .inl rfl

@[simp] theorem handReport_wind : s.handReport.wind = s.wind := by
  obtain h | h | h := handReport_cases s <;> simp [h]

@[simp] theorem handReport_vane : s.handReport.vane = s.vane := by
  obtain h | h | h := handReport_cases s <;> simp [h]

@[simp] theorem handReport_rain : s.handReport.rain = s.rain := by
  obtain h | h | h := handReport_cases s <;> simp [h]

@[simp] theorem handReport_flags : s.handReport.flags = s.flags := by
  obtain h | h | h := handReport_cases s <;> simp [h]

/-! #### Count, reference and stops -/

@[simp] theorem setReferenced_wind (n : Ch) (b : Bool) : (s.setReferenced n b).wind = s.wind := by
  unfold State.setReferenced
  split <;> simp

@[simp] theorem setCount_wind (n : Ch) (c : Nat) : (s.setCount n c).wind = s.wind := by
  simp [State.setCount]

@[simp] theorem encoderFault_wind (n : Ch) : (s.encoderFault n).wind = s.wind := by
  have abort (x : State) : (if x.isLearnChannel n then x.abortLearn else x).wind = x.wind := by split <;> simp
  unfold State.encoderFault
  dsimp only
  rw [abort]
  split <;> simp

@[simp] theorem learnTimedDone_wind (p : Session) (k : ChanCfg) (u : ChanUnit) :
    (s.learnTimedDone p k u).wind = s.wind := by
  unfold State.learnTimedDone
  dsimp only
  split <;> simp

@[simp] theorem learnAdvance_wind (n : Ch) (k : TravelKind) (u : ChanUnit) : (s.learnAdvance n k u).wind = s.wind := by
  unfold State.learnAdvance State.learnCloseDone State.learnOpenDone
  split
  · split
    · split <;> simp
    · rfl
  · rfl

@[simp] theorem completeTravel_wind (n : Ch) (t : Travel) : (s.completeTravel n t).wind = s.wind := by
  unfold State.completeTravel
  dsimp only
  split <;> simp

@[simp] theorem closedEndStop_wind (n : Ch) (k : ChanCfg) (t : Travel) : (s.closedEndStop n k t).wind = s.wind := by
  unfold State.closedEndStop
  split
  · simp
  · split <;> simp

@[simp] theorem referencingStall_wind (n : Ch) (k : ChanCfg) (t : Travel) :
    (s.referencingStall n k t).wind = s.wind := by
  simp [State.referencingStall]

@[simp] theorem enterPause_wind (n : Ch) : (s.enterPause n).wind = s.wind := by
  unfold State.enterPause
  split <;> simp

@[simp] theorem enterBacking_wind (n : Ch) (k : ChanCfg) (t : Travel) : (s.enterBacking n k t).wind = s.wind := by
  unfold State.enterBacking
  dsimp only
  split <;> simp

@[simp] theorem obstructed_wind (n : Ch) (k : ChanCfg) (t : Travel) : (s.obstructed n k t).wind = s.wind := by
  unfold State.obstructed
  split
  · split <;> simp
  · split <;> simp
  · simp

@[simp] theorem takeStop_wind (n : Ch) (k : ChanCfg) (t : Travel) (c : StopClass) :
    (s.takeStop n k t c).wind = s.wind := by
  cases c <;> simp [State.takeStop]

@[simp] theorem deliverStops_wind (n : Ch) (l : List StopSignal) : (s.deliverStops n l).wind = s.wind := by
  unfold State.deliverStops
  split
  · simp
  · split <;> simp
  · rfl

@[simp] theorem stopMoment_wind (n : Ch) (p o st : Bool) : (s.stopMoment n p o st).wind = s.wind := by
  unfold State.stopMoment State.cutDrive
  split <;> simp

/-! #### Requests, maintenance hold and the learn channel -/

@[simp] theorem openRequest_wind (n : Ch) (p : Nat) (o : Origin) : (s.openRequest n p o).wind = s.wind := by
  unfold State.openRequest
  split
  · rfl
  · dsimp only
    split
    · split <;> simp
    · simp

@[simp] theorem closeRequest_wind (n : Ch) (o : Origin) : (s.closeRequest n o).wind = s.wind := by
  unfold State.closeRequest
  split
  · split
    · split <;> simp
    · split
      · simp
      · simp
      · split
        · rfl
        · split
          · rfl
          · dsimp only
            split <;> simp
      · rfl
  · split <;> simp

@[simp] theorem stopRequest_wind (n : Ch) : (s.stopRequest n).wind = s.wind := by
  unfold State.stopRequest
  split
  · rfl
  · split <;> simp

@[simp] theorem setHold_wind (n : Ch) (b : Bool) : (s.setHold n b).wind = s.wind := by
  simp [State.setHold]

@[simp] theorem holdRequest_wind (n : Ch) : (s.holdRequest n).wind = s.wind := by
  unfold State.holdRequest
  dsimp only
  split
  · simp
  · split <;> simp

@[simp] theorem request_wind (n : Ch) (r : Request) (o : Origin) : (s.request n r o).wind = s.wind := by
  unfold State.request
  dsimp only
  split
  · cases r <;> simp [State.carryOut]
  · simp

@[simp] theorem holdForMaint_wind (n : Ch) : (s.holdForMaint n).wind = s.wind := by
  unfold State.holdForMaint
  split
  · split <;> simp
  · rfl

@[simp] theorem releaseFromMaint_wind (n : Ch) : (s.releaseFromMaint n).wind = s.wind := by
  unfold State.releaseFromMaint
  split <;> simp

@[simp] theorem becomeLearn_wind (n : Ch) : (s.becomeLearn n).wind = s.wind := by
  unfold State.becomeLearn
  split <;> simp

@[simp] theorem supplyYield_wind (n : Ch) : (State.supplyYield n s).wind = s.wind := by
  unfold State.supplyYield
  split <;> simp

/-! #### Decoder and index -/

@[simp] theorem compareStep_wind (n : Ch) : (s.compareStep n).wind = s.wind := by
  unfold State.compareStep
  split
  · split <;> simp
  · split <;> simp
  · rfl

@[simp] theorem stepCount_wind (n : Ch) (up : Bool) : (s.stepCount n up).wind = s.wind := by
  unfold State.stepCount
  split
  · split <;> simp
  · simp

@[simp] theorem illegalTransition_wind (n : Ch) : (s.illegalTransition n).wind = s.wind := by
  unfold State.illegalTransition
  split
  · dsimp only
    split <;> simp
  · rfl

@[simp] theorem quadTransition_wind (n : Ch) (k : ChanCfg) (a b : Bool) : (s.quadTransition n k a b).wind = s.wind := by
  unfold State.quadTransition
  dsimp only
  split <;> simp

@[simp] theorem singleEdge_wind (n : Ch) : (s.singleEdge n).wind = s.wind := by
  unfold State.singleEdge
  split <;> simp

@[simp] theorem decode_wind (n : Ch) (k : ChanCfg) (old : ChanUnit) (a b : Bool) :
    (s.decode n k old a b).wind = s.wind := by
  unfold State.decode
  split
  · split <;> simp
  · split <;> simp

@[simp] theorem deliverIndex_wind (n : Ch) : (s.deliverIndex n).wind = s.wind := by
  unfold State.deliverIndex
  split
  · split <;> simp
  · rfl

@[simp] theorem reference_wind (n : Ch) (c : Nat) : (s.reference n c).wind = s.wind := by
  simp [State.reference]

@[simp] theorem indexEvent_wind (n : Ch) (k : ChanCfg) : (s.indexEvent n k).wind = s.wind := by
  unfold State.indexEvent
  dsimp only
  split
  · rfl
  · simp
  · split
    · simp
    · split <;> simp

/-! #### Weather -/

@[simp] theorem rainReport_wind (e : RainEvent) : (s.rainReport e).wind = s.wind := by
  cases e <;> simp [State.rainReport]

@[simp] theorem takeRain_wind (c : RunCfg) (r : Nat) : (s.takeRain c r).wind = s.wind := by
  simp [State.takeRain]

/-- Judging the exclusion (R73) writes the exclusion alone in the anemometer's record. -/
@[simp] theorem judgeExclusion_lastSpeed : s.judgeExclusion.wind.lastSpeed = s.wind.lastSpeed := by
  unfold State.judgeExclusion
  split
  · rfl
  · split <;> simp

/-! #### Line controller and filing -/

@[simp] theorem heard_wind : s.heard.wind = s.wind := by
  unfold State.heard
  split
  · rfl
  · dsimp only
    split
    · split <;> simp
    · rfl

@[simp] theorem offer_wind (f : RxFrame) : (s.offer f).wind = s.wind := by
  unfold State.offer
  split
  · rfl
  · split <;> simp

@[simp] theorem clash_wind : s.clash.wind = s.wind := by
  unfold State.clash
  dsimp only
  split <;> simp

@[simp] theorem takeNext_wind : s.takeNext.wind = s.wind := rfl

@[simp] theorem overflowed_wind : s.overflowed.wind = s.wind := by
  simp [State.overflowed]

/-- A filing writes in the anemometer's record no more than what it starts does. -/
theorem fileInto_lastSpeed (f : RxFrame) (gives : Bool) (update : PeerEntry → PeerEntry) (told : State → State)
    (h : ∀ x, (told x).wind.lastSpeed = x.wind.lastSpeed) :
    (s.fileInto f gives update told).wind.lastSpeed = s.wind.lastSpeed := by
  unfold State.fileInto
  split
  · simp [h]
  · split
    · split <;> simp [h]
    · rfl

@[simp] theorem fileWetness_lastSpeed (f : RxFrame) (w : WetnessFields) :
    (s.fileWetness f w).wind.lastSpeed = s.wind.lastSpeed := by
  have reviewed (had : Bool) (x : State) : (if had = true then x.askReview else x).wind = x.wind := by
    cases had <;> simp
  unfold State.fileWetness
  split
  · exact fileInto_lastSpeed _ _ _ _ _ (fun x => congrArg (·.lastSpeed) (reviewed _ x))
  · exact fileInto_lastSpeed _ _ _ _ _ (fun x => congrArg (·.lastSpeed) (State.askReview_wind x))

@[simp] theorem fileGust_lastSpeed (f : RxFrame) (g : GustFields) :
    (s.fileGust f g).wind.lastSpeed = s.wind.lastSpeed := by
  unfold State.fileGust
  exact fileInto_lastSpeed _ _ _ _ _ (fun x => by simp)

@[simp] theorem fileDraw_lastSpeed (f : RxFrame) (d : DrawFields) :
    (s.fileDraw f d).wind.lastSpeed = s.wind.lastSpeed :=
  fileInto_lastSpeed _ _ _ _ _ (fun x => by simp)

@[simp] theorem partRemoved_wind (p : PartKind) : (s.partRemoved p).wind = s.wind := by
  cases p <;> simp [State.partRemoved]

@[simp] theorem channelOrder_wind (o : Order) (r : Request) : (s.channelOrder o r).wind = s.wind :=
  foldl_keeps s State.wind _ (fun s n => request_wind s n r .console) _

@[simp] theorem returnFaulted_wind (n : Ch) : (State.returnFaulted n s).wind = s.wind := by
  unfold State.returnFaulted
  split
  · dsimp only
    split <;> split <;> simp
  · rfl

@[simp] theorem acknowledge_wind : s.acknowledge.wind = s.wind := by
  simp [State.acknowledge, eachChannel_wind _ _ (fun n s => returnFaulted_wind s n)]

/-! #### Panel interface and store -/

@[simp] theorem confirmLearn_wind (p : Session) : (s.confirmLearn p).wind = s.wind := by
  simp [State.confirmLearn]

@[simp] theorem selectLearn_wind (old : Option Ch) (n : Ch) : (s.selectLearn old n).wind = s.wind := by
  cases old <;> simp [State.selectLearn]

@[simp] theorem learnPress_wind : s.learnPress.wind = s.wind := by
  unfold State.learnPress
  split
  · split
    · simp
    · split <;> simp
  · split
    · dsimp only
      split
      · rfl
      · split <;> simp
    all_goals simp

@[simp] theorem learnHold_wind : s.learnHold.wind = s.wind := by
  unfold State.learnHold
  split
  · rfl
  · split
    · split <;> simp
    · simp
    · rfl

@[simp] theorem press_wind (r : Request) : (s.press r).wind = s.wind := by
  have targets := foldl_keeps s State.wind _ (fun s n => request_wind s n r .panel) s.pressTargets
  unfold State.press
  dsimp only
  split <;> simpa using targets

@[simp] theorem openInput_wind (act : Bool) : (s.openInput act).wind = s.wind := by
  unfold State.openInput
  dsimp only
  split
  · simp
  · split <;> simp

@[simp] theorem closePressInput_wind (act : Bool) : (s.closePressInput act).wind = s.wind := by
  unfold State.closePressInput
  dsimp only
  split
  · simp
  · split <;> simp

@[simp] theorem closeLevelInput_wind (act : Bool) : (s.closeLevelInput act).wind = s.wind := by
  unfold State.closeLevelInput
  split
  · simp [eachChannel_wind _ _ (fun n s => endOpen_wind s n)]
  · simp

@[simp] theorem maintInput_wind (act : Bool) : (s.maintInput act).wind = s.wind := by
  unfold State.maintInput
  split
  · exact eachChannel_wind _ _ (fun n s => holdForMaint_wind s n)
  · simp [eachChannel_wind _ _ (fun n s => releaseFromMaint_wind s n)]

@[simp] theorem learnInput_wind (act : Bool) : (s.learnInput act).wind = s.wind := by
  unfold State.learnInput
  split
  · split <;> simp
  · split <;> simp

@[simp] theorem inputChange_wind (c : RunCfg) (i : PanelInput) (act : Bool) : (s.inputChange c i act).wind = s.wind := by
  cases i with
  | opn | maint | learn => simp [State.inputChange]
  | cls =>
    unfold State.inputChange
    dsimp only
    split <;> simp

@[simp] theorem nextPage_wind (x : Store) : (s.nextPage x).wind = s.wind := by
  unfold State.nextPage
  split <;> simp

@[simp] theorem pageFailed_wind (x : Store) : (s.pageFailed x).wind = s.wind := by
  simp [State.pageFailed]

/-! #### The ends of a configuration read and the warm restart -/

@[simp] theorem adoptUnits_wind (was : Ch → Bool) (pins : PinSample) : (s.adoptUnits was pins).wind = s.wind :=
  eachChannel_wind _ _ (fun n s => by split <;> simp)

@[simp] theorem startRain_wind (c : RunCfg) (pins : PinSample) : (s.startRain c pins).wind = s.wind := by
  simp [State.startRain]

@[simp] theorem startVane_wind (c : RunCfg) (pins : PinSample) : (s.startVane c pins).wind = s.wind := rfl

@[simp] theorem submitStates_wind : s.submitStates.wind = s.wind :=
  eachChannel_wind _ _ (fun n s => submitState_wind s n)

@[simp] theorem offerGust_wind : s.offerGust.wind = s.wind := by
  unfold State.offerGust
  split <;> simp

@[simp] theorem startDeciding_wind : s.startDeciding.wind = s.wind := by
  simp [State.startDeciding]

@[simp] theorem startListening_wind : s.startListening.wind = s.wind := rfl

@[simp] theorem beginTaking_wind : s.beginTaking.wind = s.wind := by
  unfold State.beginTaking
  split <;> simp

@[simp] theorem startUpInvalid_wind (image : Option Memory) : (s.startUpInvalid image).wind = s.wind := by
  simp [State.startUpInvalid]

/-- An anemometer that begins its window and its minute (R74, R75) keeps the last window speed. -/
@[simp] theorem startWeather_lastSpeed (c : RunCfg) (pins : PinSample) :
    (s.startWeather c pins).wind.lastSpeed = s.wind.lastSpeed := by
  have rain : (if c.rainFitted then s.startRain c pins else s).wind = s.wind := by split <;> simp
  unfold State.startWeather
  dsimp only
  split <;> split <;> simp [WindFront.start, rain]

@[simp] theorem startTimers_wind (c : RunCfg) : (s.startTimers c).wind = s.wind := rfl

@[simp] theorem startUpValid_lastSpeed (image : Memory) (c : RunCfg) (pins : PinSample) :
    (s.startUpValid image c pins).wind.lastSpeed = s.wind.lastSpeed := by
  have conditions (x : State) :
      (x.eachChannel (fun n s => if c.inError n then s.beginCondition (.configChannel n) else s)).wind = x.wind :=
    eachChannel_wind _ _ (fun n s => by split <;> simp)
  simp [State.startUpValid, eachChannel_wind _ _ (fun n s => holdForMaint_wind s n), conditions]

@[simp] theorem restartChannel_wind (n : Ch) : (State.restartChannel n s).wind = s.wind := by
  unfold State.restartChannel
  dsimp only
  split <;> simp

@[simp] theorem restartNow_wind : s.restartNow.wind = s.wind := by
  simp [State.restartNow, eachChannel_wind _ _ (fun n s => restartChannel_wind s n)]

@[simp] theorem rereadConditions_wind (new : Option RunCfg) : (s.rereadConditions new).wind = s.wind :=
  eachChannel_wind _ _ (fun _ s => setCondition_wind s _ _)

@[simp] theorem rereadChannel_wind (n : Ch) : (State.rereadChannel n s).wind = s.wind := by
  unfold State.rereadChannel
  split <;> simp

@[simp] theorem rereadRain_wind (old new : Option RunCfg) (pins : PinSample) :
    (s.rereadRain old new pins).wind = s.wind := by
  unfold State.rereadRain
  split
  · simp
  · split
    · simp
    · split <;> simp

/-- The anemometer at the end of a reread (R75) keeps the last window speed, fitted or not. -/
@[simp] theorem rereadAnem_lastSpeed (old new : Option RunCfg) (pins : PinSample) :
    (s.rereadAnem old new pins).wind.lastSpeed = s.wind.lastSpeed := by
  unfold State.rereadAnem
  split
  · split
    · rfl
    · rfl
  · simp

@[simp] theorem rereadVane_wind (old new : Option RunCfg) (pins : PinSample) :
    (s.rereadVane old new pins).wind = s.wind := by
  unfold State.rereadVane
  split
  · rfl
  · split
    · rfl
    · split <;> simp

@[simp] theorem rereadIsolation_wind (new : Option RunCfg) : (s.rereadIsolation new).wind = s.wind := by
  unfold State.rereadIsolation
  split
  · simp
  · split <;> rfl

@[simp] theorem rereadDraw_wind (old new : Option RunCfg) : (s.rereadDraw old new).wind = s.wind := by
  unfold State.rereadDraw State.submitFinalDraw
  split <;> simp

@[simp] theorem rereadPanel_wind (new : Option RunCfg) : (s.rereadPanel new).wind = s.wind := by
  cases new with
  | none => rfl
  | some c => simp [State.rereadPanel, eachChannel_wind _ _ (fun n s => holdForMaint_wind s n)]

@[simp] theorem rereadWetness_wind : s.rereadWetness.wind = s.wind := by
  unfold State.rereadWetness
  split <;> simp

@[simp] theorem rereadEval_wind (new : Option RunCfg) : (s.rereadEval new).wind = s.wind := by
  cases new <;> simp [State.rereadEval]

@[simp] theorem rereadEnd_lastSpeed (image : Option Memory) (new : Option RunCfg) (pins : PinSample) :
    (s.rereadEnd image new pins).wind.lastSpeed = s.wind.lastSpeed := by
  simp [State.rereadEnd, eachChannel_wind _ _ (fun n s => rereadChannel_wind s n)]

end operations

/-! ### The anemometer's record through the commands -/

/-- Where a command completes, the anemometer's record is as it was. -/
def KeepsWind (s : State) (r : Result) : Prop := ∀ t, r = .next t → t.wind = s.wind

/-- Where a command completes, the last window speed is as it was. -/
def KeepsSpeed (s : State) (r : Result) : Prop := ∀ t, r = .next t → t.wind.lastSpeed = s.wind.lastSpeed

@[simp] theorem keepsWind_next (s t : State) : KeepsWind s (.next t) ↔ t.wind = s.wind := by
  simp [KeepsWind]

@[simp] theorem keepsSpeed_next (s t : State) : KeepsSpeed s (.next t) ↔ t.wind.lastSpeed = s.wind.lastSpeed := by
  simp [KeepsSpeed]

theorem KeepsWind.keepsSpeed {s : State} {r : Result} (h : KeepsWind s r) : KeepsSpeed s r :=
  fun t ht => congrArg (·.lastSpeed) (h t ht)

section commands

variable (s : State)

/-! #### The configuration port and the clock -/

theorem execStationTimeStep_keepsSpeed : KeepsSpeed s (execStationTimeStep s) := by
  simp [execStationTimeStep, State.tick, WindFront.tick]

theorem execReadTryFailed_keepsSpeed : KeepsSpeed s (execReadTryFailed s) := by
  unfold execReadTryFailed
  split
  · split
    · simp
    · split <;> simp
  · simp

theorem execReadRetryExpiry_keepsWind : KeepsWind s (execReadRetryExpiry s) := by
  unfold execReadRetryExpiry
  split <;> simp

theorem execConfigReadEnd_keepsSpeed (bytes : List Byte) (pins : PinSample) :
    KeepsSpeed s (execConfigReadEnd bytes pins s) := by
  unfold execConfigReadEnd
  split
  · simp
  · split
    · dsimp only
      split <;> simp
    · simp

theorem execWarmRestart_keepsWind : KeepsWind s (execWarmRestart s) := by
  unfold execWarmRestart
  split <;> simp

theorem execRereadEnd_keepsSpeed (bytes : List Byte) (pins : PinSample) : KeepsSpeed s (execRereadEnd bytes pins s) := by
  unfold execRereadEnd
  split
  · simp
  · split <;> simp

/-! #### Channel units, travels and supply -/

theorem execEncoderLevelAccepted_keepsWind (n : Ch) (a b i : LineRun) :
    KeepsWind s (execEncoderLevelAccepted n a b i s) := by
  have indexed (k : ChanCfg) (met : Bool) (x : State) : (if met = true then x.indexEvent n k else x).wind = x.wind := by
    cases met <;> simp
  unfold execEncoderLevelAccepted
  split
  · simp
  · dsimp only
    rw [keepsWind_next, finish_wind, indexed]
    simp

theorem execPinch_keepsWind (n : Ch) (o st : Bool) : KeepsWind s (execPinch n o st s) := by
  unfold execPinch
  split <;> simp

theorem execOvercurrent_keepsWind (n : Ch) (p st : Bool) : KeepsWind s (execOvercurrent n p st s) := by
  unfold execOvercurrent
  split <;> simp

theorem execStall_keepsWind (n : Ch) (p o : Bool) : KeepsWind s (execStall n p o s) := by
  unfold execStall
  split <;> simp

theorem execDeadTimeEnd_keepsWind (n : Ch) : KeepsWind s (execDeadTimeEnd n s) := by
  unfold execDeadTimeEnd
  split
  · split <;> simp
  · simp

theorem execRampEnd_keepsWind (n : Ch) : KeepsWind s (execRampEnd n s) := by
  unfold execRampEnd
  split
  · split <;> simp
  · simp

theorem execCoastWindowClose_keepsWind (n : Ch) : KeepsWind s (execCoastWindowClose n s) := by
  unfold execCoastWindowClose
  split <;> simp

theorem execPauseExpiry_keepsWind (n : Ch) : KeepsWind s (execPauseExpiry n s) := by
  unfold execPauseExpiry
  split
  · split <;> simp
  · simp

theorem execCurrentConversion_keepsWind (n : Ch) (r : Fin 1024) : KeepsWind s (execCurrentConversion n r s) := by
  unfold execCurrentConversion
  split <;> simp

theorem execMsgoodLow_keepsWind : KeepsWind s (execMsgoodLow s) := by
  have yields (x : State) : (x.eachChannel State.supplyYield).wind = x.wind :=
    eachChannel_wind _ _ (fun n s => supplyYield_wind s n)
  unfold execMsgoodLow
  split <;> simp [yields]

theorem execMsgoodHigh_keepsWind : KeepsWind s (execMsgoodHigh s) := by
  unfold execMsgoodHigh
  split <;> simp

theorem execSupplyRecoveryExpiry_keepsWind : KeepsWind s (execSupplyRecoveryExpiry s) := by
  unfold execSupplyRecoveryExpiry
  split <;> simp

/-! #### Evaluator and arbiter -/

theorem execTimedReview_keepsWind : KeepsWind s (execTimedReview s) := by
  unfold execTimedReview
  split <;> simp

theorem execReopenHoldExpiry_keepsWind : KeepsWind s (execReopenHoldExpiry s) := by
  unfold execReopenHoldExpiry
  split <;> simp

theorem execHoldOnExpiry_keepsWind (n : Ch) : KeepsWind s (execHoldOnExpiry n s) := by
  unfold execHoldOnExpiry
  split <;> simp

theorem execListeningIntervalEnd_keepsWind : KeepsWind s (execListeningIntervalEnd s) := by
  unfold execListeningIntervalEnd
  split <;> simp

theorem execDrawPeriodExpiry_keepsWind : KeepsWind s (execDrawPeriodExpiry s) := by
  unfold execDrawPeriodExpiry
  split
  · split
    · simp
    · split <;> simp
  · simp

/-! #### Weather -/

theorem execRainReading_keepsWind (r : Fin 1024) : KeepsWind s (execRainReading r s) := by
  unfold execRainReading
  split <;> simp

theorem execCaptureRetryExpiry_keepsWind : KeepsWind s (execCaptureRetryExpiry s) := by
  unfold execCaptureRetryExpiry
  split
  · dsimp only
    split
    · split <;> simp
    · simp
  · simp

theorem execWetnessRefreshExpiry_keepsWind : KeepsWind s (execWetnessRefreshExpiry s) := by
  unfold execWetnessRefreshExpiry
  split <;> simp

theorem execAnemPulse_keepsSpeed (us : Nat) : KeepsSpeed s (execAnemPulse us s) := by
  unfold execAnemPulse
  split
  · simp
  · split
    · dsimp only
      split <;> simp [WindFront.pulse]
    · simp

theorem execAnemLevelFall_keepsSpeed (us : Nat) : KeepsSpeed s (execAnemLevelFall us s) := by
  unfold execAnemLevelFall
  split
  · simp
  · split <;> simp

theorem execVaneSample_keepsWind (v2 v1 v0 : Bool) : KeepsWind s (execVaneSample v2 v1 v0 s) := by
  unfold execVaneSample
  split <;> simp

theorem execSectorAccepted_keepsWind : KeepsWind s (execSectorAccepted s) := by
  unfold execSectorAccepted
  split
  · split <;> simp
  · simp

theorem execAnemSilenceExpiry_keepsSpeed : KeepsSpeed s (execAnemSilenceExpiry s) := by
  unfold execAnemSilenceExpiry
  split <;> simp

theorem execGustPeriodExpiry_keepsWind : KeepsWind s (execGustPeriodExpiry s) := by
  unfold execGustPeriodExpiry
  split <;> simp

/-! #### Line controller -/

theorem execTransmissionStart_keepsWind : KeepsWind s (execTransmissionStart s) := by
  unfold execTransmissionStart
  split
  · split <;> simp
  · simp

theorem execFrameSuccess_keepsWind : KeepsWind s (execFrameSuccess s) := by
  unfold execFrameSuccess
  split
  · split <;> simp
  · simp

theorem execArbitrationLoss_keepsWind (pos : Nat) : KeepsWind s (execArbitrationLoss pos s) := by
  unfold execArbitrationLoss
  split
  · split <;> simp
  · simp

theorem execBitError_keepsWind (pos : Nat) : KeepsWind s (execBitError pos s) := by
  unfold execBitError
  split
  · split <;> simp
  · simp

theorem execBitErrorHoldEnd_keepsWind (d : Bool) : KeepsWind s (execBitErrorHoldEnd d s) := by
  unfold execBitErrorHoldEnd
  split
  · split
    · simp
    · dsimp only
      split <;> simp
  · simp

theorem execListenOnlyExpiry_keepsWind : KeepsWind s (execListenOnlyExpiry s) := by
  unfold execListenOnlyExpiry
  split
  · dsimp only
    split <;> simp
  · simp

theorem execLineIdle_keepsWind : KeepsWind s (execLineIdle s) := by
  unfold execLineIdle
  split <;> simp

theorem execStartBitFromAnotherStation_keepsWind : KeepsWind s (execStartBitFromAnotherStation s) := by
  unfold execStartBitFromAnotherStation
  split
  · simp
  · split
    · split <;> simp
    · simp

theorem execFrameAbandoned_keepsWind (bits : List Bool) : KeepsWind s (execFrameAbandoned bits s) := by
  unfold execFrameAbandoned
  split <;> simp

theorem execFrameArrival_keepsWind (bits : List Bool) : KeepsWind s (execFrameArrival bits s) := by
  unfold execFrameArrival
  split
  · split
    · dsimp only
      split <;> simp
    · simp
  · simp

theorem execIsolationExpiry_keepsWind : KeepsWind s (execIsolationExpiry s) := by
  have ends (x : State) : (x.eachChannel (fun n s => s.endOpen n)).wind = x.wind :=
    eachChannel_wind _ _ (fun n s => endOpen_wind s n)
  unfold execIsolationExpiry
  split
  · simp
  · split
    · dsimp only
      split <;> simp [ends]
    · simp

/-! #### Notice handler -/

theorem execFileWetness_keepsSpeed : KeepsSpeed s (execFileWetness s) := by
  unfold execFileWetness
  split
  · simp
  · split <;> simp

theorem execFileGust_keepsSpeed : KeepsSpeed s (execFileGust s) := by
  unfold execFileGust
  split
  · simp
  · split <;> simp

theorem execFileDraw_keepsSpeed : KeepsSpeed s (execFileDraw s) := by
  unfold execFileDraw
  split
  · simp
  · split <;> simp

theorem execNoticeNotFiled_keepsWind : KeepsWind s (execNoticeNotFiled s) := by
  unfold execNoticeNotFiled
  split
  · simp
  · split <;> simp

theorem execOverflowConditionEnd_keepsWind : KeepsWind s (execOverflowConditionEnd s) := by
  unfold execOverflowConditionEnd
  split <;> simp

theorem execPartExpiry_keepsWind (o : Nat) (p : PartKind) : KeepsWind s (execPartExpiry o p s) := by
  unfold execPartExpiry
  split
  · simp
  · split <;> simp

theorem execStatePeriodExpiry_keepsWind (n : Ch) : KeepsWind s (execStatePeriodExpiry n s) := by
  unfold execStatePeriodExpiry
  split <;> simp

@[simp] theorem obeyedEnd_keepsWind (x : State) : KeepsWind s x.obeyedEnd ↔ x.wind = s.wind := by
  simp [State.obeyedEnd]

theorem execCommandOpen_keepsWind : KeepsWind s (execCommandOpen s) := by
  unfold execCommandOpen
  split <;> simp

theorem execCommandClose_keepsWind : KeepsWind s (execCommandClose s) := by
  unfold execCommandClose
  split <;> simp

theorem execCommandStop_keepsWind : KeepsWind s (execCommandStop s) := by
  unfold execCommandStop
  split <;> simp

theorem execCommandHold_keepsWind : KeepsWind s (execCommandHold s) := by
  unfold execCommandHold
  split <;> simp

theorem execCommandRelease_keepsWind : KeepsWind s (execCommandRelease s) := by
  unfold execCommandRelease
  split <;> simp

theorem execCommandAcknowledge_keepsWind : KeepsWind s (execCommandAcknowledge s) := by
  unfold execCommandAcknowledge
  split <;> simp

theorem execCommandReport_keepsWind : KeepsWind s (execCommandReport s) := by
  have reports (l : List Ch) : (l.foldl State.submitState s).wind = s.wind :=
    foldl_keeps s State.wind _ submitState_wind l
  unfold execCommandReport
  split <;> simp [reports]

theorem execCommandRestart_keepsWind : KeepsWind s (execCommandRestart s) := by
  unfold execCommandRestart
  split <;> simp

/-! #### Panel interface and store -/

theorem execPanelInputChange_keepsWind (i : PanelInput) (level : Bool) (ms : Nat) :
    KeepsWind s (execPanelInputChange i level ms s) := by
  unfold execPanelInputChange
  split
  · dsimp only
    split
    · simp
    · split <;> simp
  · simp

theorem execLearnHoldExpiry_keepsWind : KeepsWind s (execLearnHoldExpiry s) := by
  unfold execLearnHoldExpiry
  split <;> simp

theorem execAckHoldExpiry_keepsWind : KeepsWind s (execAckHoldExpiry s) := by
  unfold execAckHoldExpiry
  split <;> simp

theorem execRefusalPatternEnd_keepsWind : KeepsWind s (execRefusalPatternEnd s) := by
  unfold execRefusalPatternEnd
  split
  · simp
  · split <;> simp

theorem execConfirmDeadline_keepsWind : KeepsWind s (execConfirmDeadline s) := by
  unfold execConfirmDeadline
  split
  · simp
  · split <;> simp

theorem execPageWriteEnd_keepsWind (acked : Bool) : KeepsWind s (execPageWriteEnd acked s) := by
  unfold execPageWriteEnd
  split
  · simp
  · split
    · simp
    · split <;> simp

theorem execPollExpiry_keepsWind (acked : Bool) : KeepsWind s (execPollExpiry acked s) := by
  unfold execPollExpiry
  split
  · simp
  · split
    · dsimp only
      split
      · simp
      · split <;> simp
    · simp

end commands

/-- R68: of all commands only a window end and a full reset write the last window speed. -/
theorem exec_keepsSpeed (s : State) (c : Instr) (hw : c ≠ .windowEnd)
    (hr : ∀ straps enc panel anem, c ≠ .fullReset straps enc panel anem) : KeepsSpeed s (exec c s) := by
  cases c with
  | fullReset straps enc panel anem => exact absurd rfl (hr straps enc panel anem)
  | stationTimeStep => exact execStationTimeStep_keepsSpeed s
  | readTryFailed => exact execReadTryFailed_keepsSpeed s
  | readRetryExpiry => exact (execReadRetryExpiry_keepsWind s).keepsSpeed
  | configReadEnd bytes pins => exact execConfigReadEnd_keepsSpeed s bytes pins
  | commandRestart => exact (execCommandRestart_keepsWind s).keepsSpeed
  | warmRestart => exact (execWarmRestart_keepsWind s).keepsSpeed
  | rereadEnd bytes pins => exact execRereadEnd_keepsSpeed s bytes pins
  | encoderLevelAccepted n a b idx => exact (execEncoderLevelAccepted_keepsWind s n a b idx).keepsSpeed
  | pinch n overcur stall => exact (execPinch_keepsWind s n overcur stall).keepsSpeed
  | overcurrent n pinch stall => exact (execOvercurrent_keepsWind s n pinch stall).keepsSpeed
  | stall n pinch overcur => exact (execStall_keepsWind s n pinch overcur).keepsSpeed
  | deadTimeEnd n => exact (execDeadTimeEnd_keepsWind s n).keepsSpeed
  | rampEnd n => exact (execRampEnd_keepsWind s n).keepsSpeed
  | coastWindowClose n => exact (execCoastWindowClose_keepsWind s n).keepsSpeed
  | pauseExpiry n => exact (execPauseExpiry_keepsWind s n).keepsSpeed
  | msgoodLow => exact (execMsgoodLow_keepsWind s).keepsSpeed
  | msgoodHigh => exact (execMsgoodHigh_keepsWind s).keepsSpeed
  | supplyRecoveryExpiry => exact (execSupplyRecoveryExpiry_keepsWind s).keepsSpeed
  | timedReview => exact (execTimedReview_keepsWind s).keepsSpeed
  | reopenHoldExpiry => exact (execReopenHoldExpiry_keepsWind s).keepsSpeed
  | holdOnExpiry n => exact (execHoldOnExpiry_keepsWind s n).keepsSpeed
  | listeningIntervalEnd => exact (execListeningIntervalEnd_keepsWind s).keepsSpeed
  | drawPeriodExpiry => exact (execDrawPeriodExpiry_keepsWind s).keepsSpeed
  | rainReading reading => exact (execRainReading_keepsWind s reading).keepsSpeed
  | captureRetryExpiry => exact (execCaptureRetryExpiry_keepsWind s).keepsSpeed
  | wetnessRefreshExpiry => exact (execWetnessRefreshExpiry_keepsWind s).keepsSpeed
  | anemPulse heldUs => exact execAnemPulse_keepsSpeed s heldUs
  | windowEnd => exact absurd rfl hw
  | vaneSample van2 van1 van0 => exact (execVaneSample_keepsWind s van2 van1 van0).keepsSpeed
  | sectorAccepted => exact (execSectorAccepted_keepsWind s).keepsSpeed
  | anemSilenceExpiry => exact execAnemSilenceExpiry_keepsSpeed s
  | gustPeriodExpiry => exact (execGustPeriodExpiry_keepsWind s).keepsSpeed
  | transmissionStart => exact (execTransmissionStart_keepsWind s).keepsSpeed
  | frameSuccess => exact (execFrameSuccess_keepsWind s).keepsSpeed
  | arbitrationLoss pos => exact (execArbitrationLoss_keepsWind s pos).keepsSpeed
  | bitError pos => exact (execBitError_keepsWind s pos).keepsSpeed
  | bitErrorHoldEnd dominantRead => exact (execBitErrorHoldEnd_keepsWind s dominantRead).keepsSpeed
  | listenOnlyExpiry => exact (execListenOnlyExpiry_keepsWind s).keepsSpeed
  | frameArrival bits => exact (execFrameArrival_keepsWind s bits).keepsSpeed
  | isolationExpiry => exact (execIsolationExpiry_keepsWind s).keepsSpeed
  | fileWetness => exact execFileWetness_keepsSpeed s
  | fileGust => exact execFileGust_keepsSpeed s
  | fileDraw => exact execFileDraw_keepsSpeed s
  | overflowConditionEnd => exact (execOverflowConditionEnd_keepsWind s).keepsSpeed
  | partExpiry origin part => exact (execPartExpiry_keepsWind s origin part).keepsSpeed
  | commandOpen => exact (execCommandOpen_keepsWind s).keepsSpeed
  | commandClose => exact (execCommandClose_keepsWind s).keepsSpeed
  | commandStop => exact (execCommandStop_keepsWind s).keepsSpeed
  | commandHold => exact (execCommandHold_keepsWind s).keepsSpeed
  | commandRelease => exact (execCommandRelease_keepsWind s).keepsSpeed
  | commandAcknowledge => exact (execCommandAcknowledge_keepsWind s).keepsSpeed
  | commandReport => exact (execCommandReport_keepsWind s).keepsSpeed
  | statePeriodExpiry n => exact (execStatePeriodExpiry_keepsWind s n).keepsSpeed
  | panelInputChange input level heldMs => exact (execPanelInputChange_keepsWind s input level heldMs).keepsSpeed
  | learnHoldExpiry => exact (execLearnHoldExpiry_keepsWind s).keepsSpeed
  | ackHoldExpiry => exact (execAckHoldExpiry_keepsWind s).keepsSpeed
  | refusalPatternEnd => exact (execRefusalPatternEnd_keepsWind s).keepsSpeed
  | confirmDeadline => exact (execConfirmDeadline_keepsWind s).keepsSpeed
  | pageWriteEnd acked => exact (execPageWriteEnd_keepsWind s acked).keepsSpeed
  | pollExpiry acked => exact (execPollExpiry_keepsWind s acked).keepsSpeed
  | lineIdle => exact (execLineIdle_keepsWind s).keepsSpeed
  | startBitFromAnotherStation => exact (execStartBitFromAnotherStation_keepsWind s).keepsSpeed
  | frameAbandoned bits => exact (execFrameAbandoned_keepsWind s bits).keepsSpeed
  | noticeNotFiled => exact (execNoticeNotFiled_keepsWind s).keepsSpeed
  | currentConversion n reading => exact (execCurrentConversion_keepsWind s n reading).keepsSpeed
  | anemLevelFall heldUs => exact execAnemLevelFall_keepsSpeed s heldUs

/-- R74, R207: a full reset makes the last window speed 0, with a valid address or without. -/
theorem execFullReset_lastSpeed (straps : BitVec 7) (enc : Vector EncLevels 4) (panel : PanelLevels) (anem : Bool)
    (s t : State) (h : execFullReset straps enc panel anem s = .next t) : t.wind.lastSpeed = 0 := by
  unfold execFullReset at h
  dsimp only at h
  split at h <;> cases h <;> simp [WindFront.reset]

/-! ### The window end -/

section windowEnd

variable (w : WindFront) (k : Nat)

/-- R68: whatever the minute's count of windows, the window speed is recorded and the next window begins. -/
theorem endWindow_window : (w.endWindow k).lastSpeed = windowSpeed w.count k ∧ (w.endWindow k).count = 0 ∧
    (w.endWindow k).window = some 30 := by
  unfold WindFront.endWindow
  dsimp only
  split <;> exact ⟨rfl, rfl, rfl⟩

/-- R69: a window end that is not the twentieth raises the minute peak. -/
theorem endWindow_inMinute (h : w.done + 1 ≠ 20) : (w.endWindow k).peak = max w.peak (windowSpeed w.count k) ∧
    (w.endWindow k).done = w.done + 1 ∧ (w.endWindow k).gusts = w.gusts := by
  unfold WindFront.endWindow
  dsimp only
  rw [if_neg h]
  exact ⟨rfl, rfl, rfl⟩

/-- R69: the twentieth window end ends the minute and pushes its peak into the gust record. -/
theorem endWindow_minuteEnd (h : w.done + 1 = 20) : (w.endWindow k).peak = 0 ∧ (w.endWindow k).done = 0 ∧
    (w.endWindow k).gusts = pushGust w.gusts (max w.peak (windowSpeed w.count k)) := by
  unfold WindFront.endWindow
  dsimp only
  rw [if_pos h]
  exact ⟨rfl, rfl, rfl⟩

/-- A window end leaves the accepted level, the silence and the exclusion. -/
theorem endWindow_frame : (w.endWindow k).level = w.level ∧ (w.endWindow k).silence = w.silence ∧
    (w.endWindow k).silencePassed = w.silencePassed ∧ (w.endWindow k).excluded = w.excluded := by
  unfold WindFront.endWindow
  dsimp only
  split <;> exact ⟨rfl, rfl, rfl, rfl⟩

/-- R69: a push drops the oldest peak of a full record, and then appends. -/
theorem pushGust_eq (gusts : List Nat) (peak : Nat) :
    pushGust gusts peak = (if gusts.length < 5 then gusts else gusts.drop 1) ++ [peak] := by
  unfold pushGust
  split <;> rfl

end windowEnd

/-- Handing the report, and the reviews after it, leave the sensors and the flags. -/
theorem handReport_finish_frame (x : State) : x.handReport.finish.wind = x.wind ∧ x.handReport.finish.vane = x.vane ∧
    x.handReport.finish.rain = x.rain ∧ x.handReport.finish.flags = x.flags := by
  have kept := finish_kept x.handReport
  exact ⟨(kept_wind kept).trans (handReport_wind x), (kept_vane kept).trans (handReport_vane x),
    (kept_rain kept).trans (handReport_rain x), (kept_flags kept).trans (handReport_flags x)⟩

/-- Where the anemometer is fitted and its window is over, WINDOW_END ends the window (R68 to R70) and leaves the other
sensors and the flags. -/
theorem execWindowEnd_due (s : State) (c : RunCfg) (hc : s.port.config = some c) (hf : c.anemFitted = true)
    (hw : s.wind.window = some 0) :
    ∃ t, execWindowEnd s = .next t ∧ t.wind = s.wind.endWindow c.k ∧ t.vane = s.vane ∧ t.rain = s.rain ∧
      t.flags = s.flags := by
  have ends : execWindowEnd s = .next (({ s with wind := s.wind.endWindow c.k } : State).handReport).finish := by
    simp [execWindowEnd, State.anemCfg?, due, hc, hf, hw]
  exact ⟨_, ends, handReport_finish_frame _⟩

/-- Settles O39: every command but the window end and the full reset keeps the last window speed (`exec_keepsSpeed`), and a
window end leaves what `WindFront.endWindow` leaves, since handing the report and the reviews after it keep the sensors. -/
theorem windowEndsFillTheGustRecord : Obligations.WindowEndsFillTheGustRecord := by
  unfold Obligations.WindowEndsFillTheGustRecord
  refine ⟨⟨rfl, fun c s t h => ?_⟩, fun s c v hc hf hw hv => ?_⟩
  · by_cases hwin : c = .windowEnd
    · exact .inr (.inl hwin)
    by_cases hres : ∃ straps enc panel anem, c = .fullReset straps enc panel anem
    · obtain ⟨straps, enc, panel, anem, rfl⟩ := hres
      exact .inr (.inr ⟨⟨straps, enc, panel, anem, rfl⟩, execFullReset_lastSpeed straps enc panel anem s t h⟩)
    · exact .inl (exec_keepsSpeed s c hwin (fun straps enc panel anem e => hres ⟨straps, enc, panel, anem, e⟩) t h)
  · obtain ⟨t, ht, wind, vane, rain, flags⟩ := execWindowEnd_due s c hc hf hw
    obtain ⟨speed, count, window⟩ := endWindow_window s.wind c.k
    obtain ⟨level, silence, passed, excluded⟩ := endWindow_frame s.wind c.k
    have hv' : v = windowSpeed s.wind.count c.k := hv
    refine ⟨t, ht, ?_⟩
    rw [wind, hv', ← pushGust_eq]
    exact ⟨speed, count, window, endWindow_inMinute s.wind c.k, endWindow_minuteEnd s.wind c.k, level, silence, passed,
      excluded, vane, rain, flags⟩

end Sys2Proof.Machine

namespace Sys2Proof.Machine

-- As above: no proof waits in a thread of its own while the kernel evaluates the tests.
set_option Elab.async false

/-! ### The selected lead and its lag (R78, R82) -/

/-- The least of some numbers is the library's minimum of a list. -/
theorem leastOf_eq_min? (l : List Nat) : leastOf l = l.min? := by
  cases l <;> rfl

section lead

variable (e : MapEntry)

/-- R78: a known sector selects the entry's lead for it. -/
theorem MapEntry.lead_sector (d : Fin 8) : e.lead d.val = e.leads[d] := by
  simp [MapEntry.lead, d.isLt]

/-- R78: the unknown sector selects the minimum of the leads that are not NONE. -/
theorem MapEntry.lead_unknown : e.lead 8 = (e.leads.toList.filterMap id).min? :=
  leastOf_eq_min? _

/-- The leads that are not NONE are those that some sector has. -/
theorem MapEntry.mem_leads_iff (l : Nat) : l ∈ e.leads.toList.filterMap id ↔ ∃ j : Fin 8, e.leads[j] = some l := by
  simp [Vector.mem_iff_getElem, Fin.exists_iff]

/-- R78: with the sector unknown the selected lead is NONE only where all eight are. -/
theorem MapEntry.lead_unknown_eq_none_iff : e.lead 8 = none ↔ ∀ j : Fin 8, e.leads[j] = none := by
  rw [lead_unknown, List.min?_eq_none_iff, List.eq_nil_iff_forall_not_mem]
  simp only [mem_leads_iff, not_exists, Option.eq_none_iff_forall_ne_some]
  exact forall_comm

/-- R78: with the sector unknown the selected lead is the smallest that some sector has. -/
theorem MapEntry.lead_unknown_eq_some_iff (l : Nat) : e.lead 8 = some l ↔
    (∃ j : Fin 8, e.leads[j] = some l) ∧ ∀ (j : Fin 8) (x : Nat), e.leads[j] = some x → l ≤ x := by
  rw [lead_unknown, List.min?_eq_some_iff]
  simp only [mem_leads_iff, forall_exists_index]
  exact and_congr_right fun _ => forall_comm

end lead

/-- R82: the lag of a mapped peer comes from the lead of its entry, and there is none where that is NONE. -/
theorem RunCfg.lag_mapped {c : RunCfg} {peer : Nat} {e : MapEntry}
    (mapped : c.map.find? (fun x => x.peer = peer) = some e) (v d : Nat) :
    c.lag v d peer = (e.lead d).map (fun l => l * 100 / max v 10) := by
  simp [RunCfg.lag, mapped]

/-- R82: the floor of 10 under the wind bounds the lag of a lead within its range. -/
theorem lag_le_of_lead_le {l : Nat} (v : Nat) (hl : l ≤ 2000) : l * 100 / max v 10 ≤ 20000 :=
  calc l * 100 / max v 10 ≤ l * 100 / 10 := Nat.div_le_div_left (le_max_right v 10) (by decide)
    _ ≤ 20000 := by omega

/-- R82: a rising wind brings a mapped arrival earlier. -/
theorem lag_antitone (l : Nat) {v v' : Nat} (hv : v ≤ v') : l * 100 / max v' 10 ≤ l * 100 / max v 10 :=
  Nat.div_le_div_left (max_le_max_right 10 hv) (lt_max_of_lt_right (by decide))

/-- R78: peers without a lag contribute no arrival, whatever their wetness parts hold. -/
theorem peerArrivals_eq_nil (s : State) (c : RunCfg) (v d : Nat)
    (silent : ∀ p ∈ s.handler.peers, c.lag v d p.origin = none) : s.peerArrivals c v d = [] := by
  unfold State.peerArrivals
  rw [List.filterMap_eq_nil_iff]
  intro p hp
  cases p.wetness with
  | none => rfl
  | some w => simp [silent p hp]

/-- Settles O59: `MapEntry.lead` is the sector's lead or the minimum of the eight, `RunCfg.lag_mapped` gives the lag from it,
and a review's arrival is formed from its own V and D by definition. -/
theorem leadsAndLags : Obligations.LeadsAndLags := by
  unfold Obligations.LeadsAndLags
  refine ⟨MapEntry.lead_sector, fun e => ⟨e.lead_unknown_eq_none_iff, e.lead_unknown_eq_some_iff⟩, ?_, ?_, ?_,
    fun _ _ => rfl⟩
  · intro c v d peer l e mapped hlead
    have hlag : c.lag v d peer = some (l * 100 / max v 10) := by rw [RunCfg.lag_mapped mapped, hlead, Option.map_some]
    refine ⟨hlag, lag_le_of_lead_le v, ?_, fun _ => lag_antitone l⟩
    rintro rfl
    rw [hlag, Nat.zero_mul, Nat.zero_div]
  · intro c v d peer e mapped hlead
    rw [RunCfg.lag_mapped mapped, hlead, Option.map_none]
  · intro s c v d p sole hlag
    exact peerArrivals_eq_nil s c v d (by simpa [sole] using hlag)

end Sys2Proof.Machine

namespace Sys2Proof.Machine

/-! The proofs below are elaborated one after another: side by side they exceed the bound on memory. -/
set_option Elab.async false

/-! ### A learn confirm leaves an OPEN travel's target unreported (O45)

R156 has a STATE submitted at every change of the view. A confirm changes the span of the learn channel (R201), and with it the
target percent of an OPEN travel that the channel still holds, and nothing judges the view after it. -/

namespace StaleTarget

/-- The one fitted channel: C = 100, S = 6000. -/
def chan : ChanCfg :=
  { mode := .x4, swap := false, debounceUs := 5, indexMode := .off, phaseA := true, phaseB := true, indexTol := 5
    closeTol := 20, c := 100, span := 6000, reversal := 200, retries := 2, guardS := 30, wr := 80, wc := 140
    normal := { duty := 60, draw := 20, limit := 60, speed := 180 }
    storm := { duty := 100, draw := 45, limit := 90, speed := 360 } }

/-- Channel 1 alone is fitted; no sensor is. -/
def cfg : RunCfg :=
  { circuit := 3, budget := 200, reserve := 50, unmappedLagS := 60, reopenHoldS := 900, isolationS := 120
    policyClose := true, closeLevel := false, polOpn := true, polCls := true, polMaint := true, polLearn := true
    maintSet := Vector.replicate 4 false, mask := Vector.replicate 11 false, console1 := 100, console2 := 0
    rainFitted := false, onsetConfirmS := 5, onsetDelta := 64, ceaseDelta := 32, dryHoldS := 300, wetFloor := 600
    anemFitted := false, k := 7, vaneFitted := false, vaneOffset := 0, map := []
    chans := #v[.fitted chan, .unfitted, .unfitted, .unfitted] }

/-- A run on channel 1 that waits for its confirm, the span measured at 4000. -/
def session : Session :=
  { Session.fresh 0 with
    phase := .awaitingConfirm, measuredSpan := some 4000, normalSpeed := some 100, stormSpeed := some 200 }

/-- An OPEN travel to the count 3000. -/
def travel : Travel := newTravel .opn (some 3000) .opening .console 5 .normal

/-- The views of a station in which channel 1 is PAUSED with that travel, and the others are STILL and unfitted. -/
def views : Vector View 4 :=
  #v[{ View.reset with state := 4, target := 48, band := 5, referenced := true, position := 0 },
    View.reset, View.reset, View.reset]

/-- The station, LEARN armed, every view reported. -/
def before : State :=
  { State.reset with
    port := { Port.reset with ownAddress := some 23, read := .ended, config := some cfg, session := some session }
    units := State.reset.units.set 0 { State.reset.units[(0 : Ch)] with count := 200 }
    recs := State.reset.recs.set 0 { ChanRec.reset with state := .paused travel 10, referenced := true }
    handler := { Handler.reset with lastState := views }
    panel := { Panel.reset { PanelLevels.allLow with learn := true } with
      active := { PanelLevels.allLow with learn := true }, learnArmed := true, judging := true } }

/-- The LEARN input is released. -/
def release : Instr := .panelInputChange .learn false 50

/-- The two views of a channel that R156 compares disagree in the target percent. -/
def stale (t : State) : Bool := decide ((t.view 0).target ≠ t.handler.lastState[(0 : Ch)].target)

theorem before_viewsReported : before.ViewsReported := by
  unfold State.ViewsReported
  decide

theorem release_leaves_stale : ∃ t, exec release before = .next t ∧ stale t = true :=
  ⟨_, rfl, by decide⟩

end StaleTarget

/-- Refutes O45, by its clause on the last STATE contents: the span of a learn confirm changes the target percent of an OPEN
travel on the learn channel, from 48 to 72, and no STATE reports it. -/
theorem not_handlerTimersAndStates : ¬ Obligations.HandlerTimersAndStates := by
  unfold Obligations.HandlerTimersAndStates
  rintro ⟨-, -, -, -, agree, -, -⟩
  obtain ⟨t, ht, hstale⟩ := StaleTarget.release_leaves_stale
  have same := congrArg View.target (agree _ _ t ht StaleTarget.before_viewsReported 0)
  exact of_decide_eq_true hstale same

end Sys2Proof.Machine

namespace Sys2Proof.Machine
set_option Elab.async false

/-! ### Running to rest as a chain of single changes

`State.finish` runs reviews and evaluations. What follows names each change of a channel's state that they may make, with the
reason for it (`Turn`, `Created`), and says that running to rest is a chain of such changes (`Settles`). -/

/-- The review's two grounds for the abort of a learn session (R85, R202): the threat mark, or V at the learn channel's Wc. -/
def State.LearnAborts (s : State) (p : Session) : Prop :=
  s.eval.threat = true ∨ ∃ k, s.chan? p.channel = some k ∧ k.wc ≤ s.eval.v

/-- A change of a channel's state that a review or an evaluation makes, but for the creation of a travel; `l` is the learn channel
before it. -/
inductive Turn (l : Option Ch) (s : State) (n : Ch) : ChState → Prop
  /-- R45: a bar ends an OPEN travel. -/
  | openBarred (x : Travel) : s.travel? n = some x → x.kind = .opn → s.openBarred = true → Turn l s n .still
  /-- R44: a lowered ceiling that an OPEN travel has reached completes it. -/
  | openAbove (x : Travel) (k : ChanCfg) (y : Nat) : s.travel? n = some x → x.kind = .opn → s.chan? n = some k →
      x.target = some y → k.c + (s.eval.chans[n]'n.isLt).ceiling < y → Turn l s n .still
  /-- R44: a lowered ceiling becomes the target of an OPEN travel. -/
  | reclamp (x : Travel) (k : ChanCfg) (y : Nat) (d : Direction) : s.travel? n = some x → x.kind = .opn →
      s.chan? n = some k → x.target = some y → k.c + (s.eval.chans[n]'n.isLt).ceiling < y →
      towards (k.c + (s.eval.chans[n]'n.isLt).ceiling) (s.units[n]'n.isLt).count = some d →
      Turn l s n ((s.stateOf n).withTravel { x with target := some (k.c + (s.eval.chans[n]'n.isLt).ceiling), direction := d })
  /-- R39: the CLOSE need gives a CLOSE travel its band and origin. -/
  | bandClose (x : Travel) (b : Band) (o : Origin) : s.needReaches n = true → s.travel? n = some x →
      (s.recs[n]'n.isLt).referenced = true → x.kind = .close → s.needOf n = .close b o →
      Turn l s n ((s.stateOf n).withTravel { (s.stateOf n).reband x b with origin := o })
  /-- R40: the need gives a REFERENCE travel its band and origin. -/
  | bandReference (x : Travel) : s.needReaches n = true → s.travel? n = some x → (s.recs[n]'n.isLt).referenced = false →
      x.kind = .reference → s.needOf n ≠ .none →
      Turn l s n ((s.stateOf n).withTravel
        { (s.stateOf n).reband x (referenceBand (s.needOf n)).1 with origin := (referenceBand (s.needOf n)).2 })
  /-- R41: the REDUCE need gives a REDUCE travel its target. -/
  | retarget (x : Travel) (y : Nat) (d : Direction) : s.needReaches n = true → s.travel? n = some x →
      (s.recs[n]'n.isLt).referenced = true → x.kind = .reduce → s.needOf n = .reduce y → towards y (s.units[n]'n.isLt).count = some d →
      Turn l s n ((s.stateOf n).withTravel { x with target := some y, direction := d })
  /-- R30: a REDUCE need whose target is the count is done. -/
  | reduced (y : Nat) : s.needReaches n = true → (s.recs[n]'n.isLt).referenced = true → s.needOf n = .reduce y →
      (∀ x, s.travel? n = some x → x.kind = .reduce) → towards y (s.units[n]'n.isLt).count = none → Turn l s n .still
  /-- R42: a waiting travel that has lost its need is discarded. -/
  | lost (x : Travel) : s.needReaches n = true → (s.stateOf n = .waiting x ∨ s.stateOf n = .yielded x) →
      x.origin.isNeed = true → (s.needOf n).asks x.kind (s.recs[n]'n.isLt).referenced = false → Turn l s n .still
  /-- R52: what was the learn channel loses its learn travel. -/
  | dropLearn (x : Travel) : l = some n → s.isLearnChannel n = false → s.travel? n = some x → x.kind.isLearn = true →
      Turn l s n .still
  /-- R52: MAINT holds what was the learn channel. -/
  | maintHold : l = some n → s.isLearnChannel n = false → s.maintHolds n = true → (s.stateOf n).isFaulted = false →
      Turn l s n .held
  /-- R27: the running channel chosen yields. -/
  | yield (x : Travel) : s.stateOf n = .running x → Turn l s n (.yielded x)
  /-- R110: an upgrade to STORM. -/
  | upgrade (x : Travel) : s.arb.supply = .good → s.stateOf n = .running x → (s.stateOf n).upgradable = true →
      Turn l s n (.running { x with profile := .storm })
  /-- R26: an admission. -/
  | admitted (x : Travel) : s.arb.supply = .good → s.travel? n = some x → (s.stateOf n).isCandidate = true →
      x.reached (s.units[n]'n.isLt).count = false → Turn l s n (.running { x with admission := some s.now })
  /-- R26: a candidate that has reached its target completes. -/
  | admitDone (x : Travel) : s.travel? n = some x → (s.stateOf n).isCandidate = true →
      x.reached (s.units[n]'n.isLt).count = true → s.arb.supply = .good → Turn l s n .still

/-- A travel that the need in force creates (R39 to R41). -/
inductive Created (s : State) (n : Ch) : Travel → Prop
  | close (b : Band) (o : Origin) : s.needReaches n = true → (s.recs[n]'n.isLt).referenced = true → s.needOf n = .close b o →
      (∀ x, s.travel? n = some x → x.kind = .opn ∨ x.kind = .reduce) →
      Created s n (newTravel .close none .closing o b (bandProfile b))
  | reference : s.needReaches n = true → (s.recs[n]'n.isLt).referenced = false → s.needOf n ≠ .none → s.travel? n = none →
      Created s n (newTravel .reference none .closing (referenceBand (s.needOf n)).2 (referenceBand (s.needOf n)).1
        (bandProfile (referenceBand (s.needOf n)).1))
  | reduce (y : Nat) (d : Direction) : s.needReaches n = true → (s.recs[n]'n.isLt).referenced = true → s.needOf n = .reduce y →
      s.travel? n = none → towards y (s.units[n]'n.isLt).count = some d →
      Created s n (newTravel .reduce (some y) d .wind 3 .normal)

/-- `t` comes from `s` by changes that reviews and evaluations make; `r` says whether the evaluator's record is one of them. -/
inductive Settles (r : Prop) (l : Option Ch) (s : State) : State → Prop
  | refl : Settles r l s s
  | turn {t : State} {n : Ch} {new : ChState} : Settles r l s t → Turn l t n new → Settles r l s (t.setState n new)
  | create {t : State} {n : Ch} {x : Travel} : Settles r l s t → Created t n x → Settles r l s (t.createTravel n x)
  | ended {t : State} {p : Session} : Settles r l s t → t.port.session = some p → p.phase ≠ .storing → t.LearnAborts p → l = some p.channel →
      Settles r l s ({ t with port := { t.port with session := none, store := none } } : State).judgeLamp
  | marks {t : State} (v e : Bool) : Settles r l s t → Settles r l s { t with reviewDue := v, evalDue := e }
  | review {t : State} (c : RunCfg) : r → Settles r l s t → t.port.config = some c → t.rereading = false →
      Settles r l s { t with eval := t.reviewed c }
  | aside {t : State} (d : Option Ch) (h : Vector Timer 4) : Settles r l s t →
      Settles r l s { t with arb := { t.arb with deferred := d, holdOn := h } }
  | draw {t : State} (c : Nat) : Settles r l s t → t.drawCircuit? = some c →
      Settles r l s (t.submitDraw (t.drawContent c) t.drawHold)

theorem Settles.trans {r : Prop} {l : Option Ch} {s t u : State} (h : Settles r l s t) (h' : Settles r l t u) : Settles r l s u := by
  induction h' with
  | refl => exact h
  | turn _ hn ih => exact ih.turn hn
  | create _ hn ih => exact ih.create hn
  | ended _ hp hs ha hl ih => exact ih.ended hp hs ha hl
  | marks v e _ ih => exact ih.marks v e
  | review c hv _ hc hr ih => exact ih.review c hv hc hr
  | aside d h _ ih => exact ih.aside d h
  | draw c _ hc ih => exact ih.draw c hc

/-- What reviews and evaluations leave alone is left alone by each of the changes they are made of. -/
theorem Settles.kept {r : Prop} {l : Option Ch} {s t : State} (h : Settles r l s t) : t.kept = s.kept := by
  induction h with
  | refl => rfl
  | turn _ _ ih => rw [setState_kept, ih]
  | create _ _ ih => rw [createTravel_kept, ih]
  | ended _ _ _ _ _ ih => rw [judgeLamp_kept]; exact ih
  | marks _ _ _ ih => exact ih
  | review _ _ _ _ _ ih => exact ih
  | aside _ _ _ ih => exact ih
  | draw _ _ _ ih => rw [submitDraw_kept, ih]

/-! #### The learn session through a change of state -/

/-- A session without what R197 records at the drive starts of its travels. -/
def Session.stem (p : Session) : Session := { p with measureStart := none, openingStart := none, timedStart := none }

/-- The port is as it was but for what R197 records in the session. -/
def Port.SameStem (p q : Port) : Prop :=
  ∃ x, p = { q with session := x } ∧ x.map Session.stem = q.session.map Session.stem

theorem Port.SameStem.refl (p : Port) : p.SameStem p := ⟨p.session, rfl, rfl⟩

theorem Port.SameStem.trans {p q r : Port} (h : p.SameStem q) (h' : q.SameStem r) : p.SameStem r := by
  obtain ⟨x, rfl, hx⟩ := h
  obtain ⟨y, rfl, hy⟩ := h'
  exact ⟨x, rfl, hx.trans hy⟩

theorem recordMeasure_port (s : State) (n : Ch) : (s.recordMeasure n).port.SameStem s.port := by
  unfold State.recordMeasure
  split
  · rename_i p t hp ht
    split
    · split
      · exact ⟨_, rfl, by simp [hp, Session.stem]⟩
      · exact ⟨_, rfl, by simp [hp, Session.stem]⟩
      · exact .refl _
    · exact .refl _
  · exact .refl _

@[simp] theorem recordIndex_port (s : State) (n : Ch) : (s.recordIndex n).port = s.port := by
  unfold State.recordIndex
  split
  · split <;> simp
  · rfl

theorem driveStart_port (s : State) (n : Ch) (d : Direction) : (s.driveStart n d).port.SameStem s.port := by
  unfold State.driveStart
  simpa using recordMeasure_port ((s.setUnit n ((s.units[n]'n.isLt).startDrive d s.now)).recordIndex n) n

theorem energise_port (s : State) (n : Ch) (d : Direction) : (s.energise n d).port.SameStem s.port := by
  unfold State.energise
  dsimp only
  split
  · exact .refl _
  · split
    · exact .refl _
    · exact driveStart_port _ _ _

theorem applyDrive_port (s : State) (n : Ch) (o w : ChState) : (s.applyDrive n o w).port.SameStem s.port := by
  unfold State.applyDrive
  split
  · exact .refl _
  · exact energise_port _ _ _
  · split
    · exact .refl _
    · exact energise_port _ _ _

@[simp] theorem submitDraw_port (s : State) (c : DrawContent) (h : Nat) : (s.submitDraw c h).port = s.port := by
  simp [State.submitDraw]

@[simp] theorem checkLastTravel_port (s : State) (old : ChState) : (s.checkLastTravel old).port = s.port := by
  obtain ⟨h, -⟩ | ⟨c, -, -, -, h⟩ := checkLastTravel_cases s old <;> simp [h, State.submitFinalDraw]

@[simp] theorem checkDraw_port (s : State) : s.checkDraw.port = s.port := by
  unfold State.checkDraw
  split
  · rfl
  · split <;> simp

/-- A change of a channel's state leaves the port but for what R197 records in the session. -/
theorem setState_port (s : State) (n : Ch) (new : ChState) : (s.setState n new).port.SameStem s.port := by
  have drive := applyDrive_port (s.setRec n { s.recs[n]'n.isLt with state := new }) n (s.stateOf n) new
  unfold State.setState
  dsimp only
  simp only [checkLastTravel_port, State.judgeLamp_port, checkView_port]
  split <;> split <;> split <;> simpa using drive

theorem createTravel_port (s : State) (n : Ch) (t : Travel) : (s.createTravel n t).port.SameStem s.port := by
  simpa [State.createTravel] using setState_port (s.setUnit n { s.units[n]'n.isLt with illegal := 0, indexRecord := none }) n _

/-- Channel and phase of the session survive what R197 records in it. -/
theorem Port.SameStem.session {p q : Port} (h : p.SameStem q) {x : Session} (hx : p.session = some x) :
    ∃ y, q.session = some y ∧ x.stem = y.stem := by
  obtain ⟨z, rfl, hz⟩ := h
  obtain rfl : z = some x := hx
  cases hq : q.session with
  | none => simp [hq] at hz
  | some y => exact ⟨y, rfl, by simpa [hq] using hz⟩

theorem Session.stem_channel {p q : Session} (h : p.stem = q.stem) : p.channel = q.channel := congrArg (·.channel) h

theorem Session.stem_phase {p q : Session} (h : p.stem = q.stem) : p.phase = q.phase := congrArg (·.phase) h

theorem Port.SameStem.channel {p q : Port} (h : p.SameStem q) :
    p.session.map (·.channel) = q.session.map (·.channel) := by
  obtain ⟨x, rfl, hx⟩ := h
  have both := congrArg (Option.map (·.channel)) hx
  simpa [Function.comp_def, Session.stem] using both

/-- A chain of such changes ends the session, or leaves its channel. -/
theorem Settles.learnChannel {r : Prop} {l : Option Ch} {s t : State} (h : Settles r l s t) :
    t.learnChannel? = s.learnChannel? ∨ t.port.session = none := by
  induction h with
  | refl => exact .inl rfl
  | @turn t n new _ _ ih =>
    have same : (t.setState n new).learnChannel? = t.learnChannel? := (setState_port t n new).channel
    refine ih.imp (fun h => same.trans h) (fun h => ?_)
    obtain ⟨x, hx, hmap⟩ := setState_port t n new
    rw [hx]
    simpa [h] using hmap
  | @create t n x _ _ ih =>
    have same : (t.createTravel n x).learnChannel? = t.learnChannel? := (createTravel_port t n x).channel
    refine ih.imp (fun h => same.trans h) (fun h => ?_)
    obtain ⟨y, hy, hmap⟩ := createTravel_port t n x
    rw [hy]
    simpa [h] using hmap
  | ended _ _ _ _ _ _ => exact .inr (by simp)
  | marks _ _ _ ih => exact ih
  | review _ _ _ _ _ ih => exact ih
  | aside _ _ _ ih => exact ih
  | draw _ _ _ ih => simpa [State.learnChannel?] using ih

/-! #### Needs and the learn channel -/

theorem setState_isLearnChannel (t : State) (n m : Ch) (new : ChState) :
    (t.setState n new).isLearnChannel m = t.isLearnChannel m := by
  unfold State.isLearnChannel State.learnChannel?
  rw [(setState_port t n new).channel]

section operations

variable {r : Prop} {l : Option Ch} {s t : State} (h : Settles r l s t)

include h

theorem Settles.askReview : Settles r l s t.askReview := by
  unfold State.askReview
  split
  · exact h.marks true t.evalDue
  · exact h

theorem Settles.askEval : Settles r l s t.askEval := by
  unfold State.askEval
  split
  · exact h.marks t.reviewDue true
  · exact h

theorem Settles.complete {n : Ch} (still : Turn l t n .still) : Settles r l s (t.complete n) :=
  (h.turn still).askReview.askEval

theorem Settles.setBand {n : Ch} {x : Travel} {b : Band} {o : Origin}
    (band : Turn l t n ((t.stateOf n).withTravel { (t.stateOf n).reband x b with origin := o })) :
    Settles r l s (t.setBand n x b o) := by
  unfold State.setBand
  dsimp only
  split
  · exact h.turn band
  · exact Settles.askEval (h.turn band)

/-- R42: a travel that the need does not ask for is discarded only while it waits, and only where a need made it. -/
theorem Settles.loseNeed {n : Ch} {x : Travel} (reaches : t.needReaches n = true) (travel : t.travel? n = some x)
    (unasked : (t.needOf n).asks x.kind (t.recs[n]'n.isLt).referenced = false) : Settles r l s (t.loseNeed n x) := by
  unfold State.loseNeed
  split
  · rename_i need
    unfold State.travel? at travel
    split
    · rename_i y hy
      obtain rfl : y = x := by simpa [hy, ChState.travel?] using travel
      exact h.turn (.lost y reaches (.inl hy) need unasked)
    · rename_i y hy
      obtain rfl : y = x := by simpa [hy, ChState.travel?] using travel
      exact h.turn (.lost y reaches (.inr hy) need unasked)
    · exact h
  · exact h

theorem Settles.needUnreferenced {n : Ch} (reaches : t.needReaches n = true) (unref : (t.recs[n]'n.isLt).referenced = false) :
    Settles r l s (t.needUnreferenced n) := by
  unfold State.needUnreferenced
  split
  · exact h
  · rename_i x need travel
    exact h.loseNeed reaches travel (by cases hk : x.kind <;> simp [need, Need.asks])
  · rename_i travel need
    exact h.create (.reference reaches unref need travel)
  · rename_i x travel need
    dsimp only
    split
    · rename_i kind
      exact h.setBand (.bandReference x reaches travel unref kind need)
    · exact h

theorem Settles.needClose {n : Ch} {b : Band} {o : Origin} (reaches : t.needReaches n = true)
    (ref : (t.recs[n]'n.isLt).referenced = true) (need : t.needOf n = .close b o) : Settles r l s (t.needClose n b o) := by
  unfold State.needClose
  split
  · rename_i travel
    exact h.create (.close b o reaches ref need (by simp [travel]))
  · rename_i x travel
    split
    · rename_i kind
      exact h.create (.close b o reaches ref need (by simp [travel, kind]))
    · rename_i kind
      exact h.create (.close b o reaches ref need (by simp [travel, kind]))
    · rename_i kind
      exact h.setBand (.bandClose x b o reaches travel ref kind need)
    · rename_i kind
      exact h.loseNeed reaches travel (by rw [need, kind, ref]; rfl)
    · exact h

theorem Settles.needReduce {n : Ch} {y : Nat} (reaches : t.needReaches n = true)
    (ref : (t.recs[n]'n.isLt).referenced = true) (need : t.needOf n = .reduce y) : Settles r l s (t.needReduce n y) := by
  unfold State.needReduce
  split
  · rename_i travel
    unfold State.createTargeted
    split
    · rename_i there
      simp only [if_true]
      exact h.complete (.reduced y reaches ref need (by simp [travel]) there)
    · rename_i d there
      exact h.create (.reduce y d reaches ref need travel there)
  · rename_i x travel
    split
    · rename_i kind
      split
      · exact h
      · unfold State.retarget
        split
        · rename_i there
          exact h.complete (.reduced y reaches ref need (by simp [travel, kind]) there)
        · rename_i d there
          exact h.turn (.retarget x y d reaches travel ref kind need there)
    · rename_i kind
      exact h.loseNeed reaches travel (by simp [need, kind, Need.asks])
    · rename_i kind
      exact h.loseNeed reaches travel (by rw [need, kind, ref]; rfl)
    · exact h

theorem Settles.applyNeed (n : Ch) : Settles r l s (t.applyNeed n) := by
  unfold State.applyNeed
  split
  · rename_i reaches
    split
    · rename_i ref
      split
      · rename_i b o need
        exact h.needClose reaches ref need
      · rename_i y need
        exact h.needReduce reaches ref need
      · rename_i notClose notReduce
        split
        · exact h
        · rename_i x travel
          refine h.loseNeed reaches travel ?_
          rw [ref]
          cases hn : t.needOf n with
          | close b o => exact absurd hn (notClose b o)
          | reduce y => exact absurd hn (notReduce y)
          | none => cases x.kind <;> rfl
          | reference => cases x.kind <;> rfl
    · rename_i unref
      exact h.needUnreferenced reaches (by simpa using unref)
  · exact h

theorem Settles.endOpen (n : Ch) (barred : t.openBarred = true) : Settles r l s (t.endOpen n) := by
  unfold State.endOpen
  split
  · exact h
  · rename_i x travel
    split
    · rename_i kind
      exact h.turn (.openBarred x travel kind barred)
    · exact h

theorem Settles.clampOpen (n : Ch) : Settles r l s (t.clampOpen n) := by
  unfold State.clampOpen
  split
  · rename_i k x chan travel
    split
    · rename_i y kind target
      dsimp only
      split
      · exact h
      · rename_i above
        have above' := Nat.lt_of_not_le above
        split
        · exact h.complete (.openAbove x k y travel kind chan target above')
        · unfold State.retarget
          split
          · exact h.complete (.openAbove x k y travel kind chan target above')
          · rename_i d there
            exact h.turn (.reclamp x k y d travel kind chan target above' there)
    · exact h
  · exact h

theorem Settles.handChannel (n : Ch) : Settles r l s (State.handChannel n t) := by
  unfold State.handChannel
  dsimp only
  split
  · rename_i bar
    exact ((h.endOpen n (by simp at bar; exact bar.1)).clampOpen n).applyNeed n
  · exact (h.clampOpen n).applyNeed n

theorem Settles.dropLearn {n : Ch} (hl : l = some n) (hn : t.isLearnChannel n = false) : Settles r l s (t.dropLearn n) := by
  unfold State.dropLearn
  split
  · exact h
  · rename_i x travel
    split
    · rename_i kind
      exact h.turn (.dropLearn x hl hn travel kind)
    · exact h

theorem Settles.stopLearn {n : Ch} (hl : l = some n) (hn : t.isLearnChannel n = false) : Settles r l s (t.stopLearn n) := by
  have drop := h.dropLearn hl hn
  have hn' : (t.dropLearn n).isLearnChannel n = false := by
    unfold State.dropLearn
    split
    · exact hn
    · split
      · rw [State.toStill, setState_isLearnChannel, hn]
      · exact hn
  unfold State.stopLearn
  dsimp only
  split
  · exact drop
  · rename_i notFaulted
    split
    · rename_i maint
      refine drop.turn (.maintHold hl hn' maint ?_)
      cases hs : (t.dropLearn n).stateOf n with
      | faulted o e => exact absurd hs (notFaulted o e)
      | _ => rfl
    · exact drop.applyNeed n

end operations

end Sys2Proof.Machine

namespace Sys2Proof.Machine
set_option Elab.async false

/-! #### Reviews -/

theorem mem_channels (n : Ch) : n ∈ channels := by
  fin_cases n <;> decide

theorem channels_nodup : channels.Nodup := by decide

/-- A review that aborts the session does so on one of its two grounds. -/
theorem learnAborts_of_reviewAborts {s : State} {was : Bool} {p : Session} (aborts : s.reviewAborts was = true)
    (session : s.port.session = some p) : s.LearnAborts p := by
  have learn : s.learnChannel? = some p.channel := by simp [State.learnChannel?, session]
  unfold State.reviewAborts at aborts
  rw [learn] at aborts
  simp only [Bool.or_eq_true, Bool.and_eq_true] at aborts
  refine aborts.imp And.left (fun reached => ?_)
  split at reached
  · cases reached
  · rename_i k chan
    exact ⟨k, chan, of_decide_eq_true reached⟩

section operations

variable {r : Prop} {l : Option Ch} {s t : State} (h : Settles r l s t)

include h

theorem Settles.eachChannel {f : Ch → State → State}
    (hf : ∀ (n : Ch) (u : State), Settles r l s u → Settles r l s (f n u)) : Settles r l s (t.eachChannel f) := by
  have fold : ∀ (ns : List Ch) (u : State), Settles r l s u → Settles r l s (ns.foldl (fun s n => f n s) u) := by
    intro ns
    induction ns with
    | nil => exact fun _ hu => hu
    | cons n ns ih => exact fun u hu => ih _ (hf n u hu)
  exact fold channels t h

/-- R85, R202: the abort that a review makes on one of its two grounds. -/
theorem Settles.abortLearn (channel : ∀ p, t.port.session = some p → l = some p.channel)
    (grounds : ∀ p, t.port.session = some p → t.LearnAborts p) : Settles r l s t.abortLearn := by
  unfold State.abortLearn
  split
  · exact h
  · rename_i p session
    split
    · exact h
    · rename_i phase
      unfold State.endSession
      rw [session]
      exact (h.ended session phase (grounds p session) (channel p session)).stopLearn (channel p session) (by
        simp [State.isLearnChannel, State.learnChannel?])

theorem Settles.reviews (hr : r) (channel : ∀ p, t.port.session = some p → l = some p.channel) : Settles r l s t.review := by
  unfold State.review
  split
  · exact h
  · rename_i c config
    split
    · exact h
    · rename_i reread
      have judged := h.review c hr config (by simpa using reread)
      dsimp only
      refine Settles.eachChannel ?_ (fun n u hu => hu.handChannel n)
      split
      · rename_i aborts
        exact judged.abortLearn channel (fun p session => learnAborts_of_reviewAborts aborts session)
      · exact judged

end operations

/-! #### The order of channels -/

theorem orderInsert_perm (before : Ch → Ch → Bool) (n : Ch) (ns : List Ch) : (orderInsert before n ns).Perm (n :: ns) := by
  induction ns with
  | nil => exact .refl _
  | cons m ns ih =>
    unfold orderInsert
    split
    · exact .refl _
    · exact (ih.cons m).trans (.swap n m ns)

theorem foldr_orderInsert_perm (before : Ch → Ch → Bool) (ns : List Ch) : (ns.foldr (orderInsert before) []).Perm ns := by
  induction ns with
  | nil => exact .refl _
  | cons n ns ih => exact (orderInsert_perm before n _).trans (ih.cons n)

theorem inOrder_perm (s : State) (p : Ch → Bool) : (s.inOrder p).Perm (channels.filter p) := foldr_orderInsert_perm _ _

theorem mem_inOrder {s : State} {p : Ch → Bool} {n : Ch} : n ∈ s.inOrder p ↔ p n = true := by
  rw [(inOrder_perm s p).mem_iff, List.mem_filter]
  exact and_iff_right (mem_channels n)

theorem inOrder_nodup (s : State) (p : Ch → Bool) : (s.inOrder p).Nodup :=
  (inOrder_perm s p).nodup_iff.mpr (channels_nodup.filter p)

/-! #### Evaluations -/

@[simp] theorem stateOf_askReview (s : State) (n : Ch) : s.askReview.stateOf n = s.stateOf n := by simp [State.stateOf]

@[simp] theorem stateOf_askEval (s : State) (n : Ch) : s.askEval.stateOf n = s.stateOf n := by simp [State.stateOf]

theorem stateOf_complete_ne (s : State) (n m : Ch) (h : m ≠ n) : (s.complete n).stateOf m = s.stateOf m := by
  simp [State.complete, State.toStill, stateOf_setState_ne _ _ _ _ h]

theorem stateOf_complete (s : State) (n : Ch) : (s.complete n).stateOf n = .still := by
  simp [State.complete, State.toStill, stateOf_setState]

theorem stateOf_setTravel_ne (s : State) (n m : Ch) (x : Travel) (h : m ≠ n) :
    (s.setTravel n x).stateOf m = s.stateOf m := stateOf_setState_ne _ _ _ _ h

theorem stateOf_admitChannel_ne (s : State) (n m : Ch) (x : Travel) (h : m ≠ n) :
    (s.admitChannel n x).stateOf m = s.stateOf m := by
  unfold State.admitChannel
  split
  · exact stateOf_complete_ne s n m h
  · exact stateOf_setState_ne s n m _ h

theorem ChState.withTravel_running (x y : Travel) : (ChState.running x).withTravel y = .running y := rfl

section operations

variable {r : Prop} {l : Option Ch} {s t : State} (h : Settles r l s t)

include h

theorem Settles.setDeferred (d : Option Ch) : Settles r l s (t.setDeferred d) := h.aside d t.arb.holdOn

theorem Settles.clearEval : Settles r l s t.clearEval := h.marks t.reviewDue false

theorem Settles.checkDraw : Settles r l s t.checkDraw := by
  unfold State.checkDraw
  split
  · exact h
  · rename_i c circuit
    split
    · exact h.draw c circuit
    · exact h

theorem Settles.yieldStep (c : RunCfg) : Settles r l s (t.yieldStep c) := by
  unfold State.yieldStep
  split
  · split
    · exact h.setDeferred none
    · split
      · exact h.setDeferred _
      · unfold State.yieldChannel
        split
        · rename_i x running
          exact (h.setDeferred none).turn (.yield x running)
        · exact h.setDeferred none
  · exact h.setDeferred none

theorem Settles.upgrades (c : RunCfg) (ns : List Ch) (nodup : ns.Nodup) (supply : t.arb.supply = .good)
    (all : ∀ n ∈ ns, (t.stateOf n).upgradable = true) : Settles r l s (State.upgrades c ns t) := by
  induction ns generalizing t with
  | nil => exact h
  | cons n ns ih =>
    unfold State.upgrades
    split
    · rename_i k x chan running
      split
      · have up : Settles r l s (t.setTravel n { x with profile := .storm }) := by
          unfold State.setTravel
          rw [running, ChState.withTravel_running]
          exact h.turn (.upgrade x supply running (all n (List.mem_cons_self ..)))
        refine ih up nodup.of_cons ?_ (fun m hm => ?_)
        · rw [kept_supply (setTravel_kept t n _), supply]
        · rw [stateOf_setTravel_ne _ _ _ _ (by rintro rfl; exact (List.nodup_cons.mp nodup).1 hm)]
          exact all m (List.mem_cons_of_mem _ hm)
      · exact h
    · exact h

theorem Settles.upgradeStep (c : RunCfg) : Settles r l s (t.upgradeStep c) := by
  unfold State.upgradeStep
  split
  · rename_i supply
    refine h.upgrades c _ (inOrder_nodup ..) supply (fun n hn => ?_)
    have both := mem_inOrder.mp hn
    simp only [Bool.and_eq_true] at both
    exact both.2
  · exact h

theorem Settles.admitChannel {n : Ch} {x : Travel} (supply : t.arb.supply = .good) (travel : t.travel? n = some x)
    (candidate : (t.stateOf n).isCandidate = true) : Settles r l s (t.admitChannel n x) := by
  unfold State.admitChannel
  split
  · rename_i reached
    exact h.complete (.admitDone x travel candidate reached supply)
  · rename_i reached
    exact (h.turn (.admitted x supply travel candidate (by simpa using reached))).aside _ _

theorem Settles.admissions (c : RunCfg) (aside : Option Ch) (ns : List Ch) (nodup : ns.Nodup)
    (all : ∀ n ∈ ns, (t.stateOf n).isCandidate = true) : Settles r l s (State.admissions c aside ns t) := by
  induction ns generalizing t with
  | nil => exact h
  | cons n ns ih =>
    unfold State.admissions
    split
    · rename_i k x chan travel
      split
      · rename_i ok
        have supply : t.arb.supply = .good := by
          have := ok.2
          unfold State.admissible at this
          simp only [Bool.and_eq_true, decide_eq_true_eq] at this
          exact this.1.1.1.1
        refine ih (h.admitChannel supply travel (all n (List.mem_cons_self ..))) nodup.of_cons (fun m hm => ?_)
        rw [stateOf_admitChannel_ne _ _ _ _ (by rintro rfl; exact (List.nodup_cons.mp nodup).1 hm)]
        exact all m (List.mem_cons_of_mem _ hm)
      · exact h
    · exact h

theorem Settles.admissionStep (c : RunCfg) (aside : Option Ch) : Settles r l s (t.admissionStep c aside) := by
  unfold State.admissionStep
  refine h.admissions c aside _ (inOrder_nodup ..) (fun n hn => ?_)
  have both := mem_inOrder.mp hn
  simp only [Bool.and_eq_true] at both
  exact both.2

theorem Settles.afterYield (c : RunCfg) (aside : Option Ch) : Settles r l s (t.afterYield c aside) :=
  ((h.upgradeStep c).admissionStep c aside).checkDraw

theorem Settles.evaluate : Settles r l s t.evaluate := by
  unfold State.evaluate
  split
  · exact h.clearEval
  · split
    · exact h.clearEval
    · rename_i c config reread
      have after := ((h.clearEval.yieldStep c).clearEval).afterYield c (t.yields c)
      dsimp only
      split
      · exact after.afterYield c _
      · exact after

end operations

/-! #### Running to rest -/

/-- The learn channel, where there is one, is the one the chain began with. -/
theorem Settles.session_channel {s t : State} (h : Settles True s.learnChannel? s t) {p : Session}
    (hp : t.port.session = some p) : s.learnChannel? = some p.channel := by
  obtain same | none := h.learnChannel
  · rw [← same, State.learnChannel?, hp, Option.map_some]
  · simp [none] at hp

theorem Settles.settle {s t : State} (h : Settles True s.learnChannel? s t) (k : Nat) :
    Settles True s.learnChannel? s (State.settle k t) := by
  induction k generalizing t with
  | zero => exact h
  | succ k ih =>
    unfold State.settle
    split
    · exact ih ((h.marks false t.evalDue).reviews trivial fun p hp => h.session_channel hp)
    · split
      · exact ih h.evaluate
      · exact h

/-- Running to rest is a chain of changes that reviews and evaluations make. -/
theorem finish_settles (s : State) : Settles True s.learnChannel? s s.finish := (Settles.refl.settle _).checkDraw

/-! #### With an evaluator that agrees with its inputs -/

theorem nextReopen_same (c : RunCfg) (b : Bool) (h : Timer) : nextReopen c b b h = h := by
  cases b <;> rfl

/-- A review of inputs that the evaluator agrees with finds what it holds. -/
theorem reviewed_eq {s : State} (judged : s.Judged) {c : RunCfg} (config : s.port.config = some c)
    (reread : s.rereading = false) : s.reviewed c = s.eval := by
  obtain ⟨hv, hd, harr, hthreat, hchans⟩ := judged c config reread
  have arrival : s.threatArrival c s.workingWind.1 s.workingWind.2 = s.eval.arrival := by rw [← hv, ← hd, ← harr]
  have chans : #v[s.evalChannel 0 s.workingWind.1 s.eval.arrival, s.evalChannel 1 s.workingWind.1 s.eval.arrival,
      s.evalChannel 2 s.workingWind.1 s.eval.arrival, s.evalChannel 3 s.workingWind.1 s.eval.arrival] = s.eval.chans := by
    ext i hi
    rw [← hv]
    have at_i := hchans ⟨i, hi⟩
    rw [Fin.getElem_fin] at at_i
    rw [at_i]
    match i, hi with
    | 0, _ | 1, _ | 2, _ | 3, _ => rfl
  unfold State.reviewed
  dsimp only
  rw [arrival, ← hthreat, nextReopen_same, chans, ← hv, ← hd]

/-- Such an evaluator is left as it is by the changes that follow. -/
theorem Settles.eval_of_judged {r : Prop} {l : Option Ch} {s t : State} (h : Settles r l s t) (judged : s.Judged) : t.eval = s.eval := by
  induction h with
  | refl => rfl
  | turn _ _ ih => rw [setState_eval, ih]
  | create _ _ ih => rw [createTravel_eval, ih]
  | ended _ _ _ _ _ ih => rw [State.judgeLamp_eval, ← ih]
  | marks _ _ _ ih => exact ih
  | review c _ ht config reread ih => exact (reviewed_eq (judged_of_kept ht.kept ih judged) config reread).trans ih
  | aside _ _ _ ih => exact ih
  | draw _ _ _ ih => rw [submitDraw_eval, ih]

theorem Settles.judged {r : Prop} {l : Option Ch} {s t : State} (h : Settles r l s t) (judged : s.Judged) : t.Judged :=
  judged_of_kept h.kept (h.eval_of_judged judged) judged

/-- What holds of a channel's state is kept by a chain of such changes, if it is by each change of the channel. -/
theorem Settles.channel {r : Prop} {l : Option Ch} {s t : State} (h : Settles r l s t) (judged : s.Judged) {n : Ch}
    {Q : ChState → Prop} (start : Q (s.stateOf n))
    (turn : ∀ u new, u.kept = s.kept → u.eval = s.eval → Q (u.stateOf n) → Turn l u n new → Q new)
    (create : ∀ u x, u.kept = s.kept → u.eval = s.eval → Q (u.stateOf n) → Created u n x → Q (.waiting x)) :
    Q (t.stateOf n) := by
  induction h with
  | refl => exact start
  | @turn u m new hu hn ih =>
    by_cases same : n = m
    · subst same
      rw [stateOf_setState]
      exact turn u new hu.kept (hu.eval_of_judged judged) ih hn
    · rw [stateOf_setState_ne _ _ _ _ same]
      exact ih
  | @create u m x hu hn ih =>
    rw [State.createTravel, stateOf_askEval]
    by_cases same : n = m
    · subst same
      rw [stateOf_setState]
      exact create u x hu.kept (hu.eval_of_judged judged) ih hn
    · rw [stateOf_setState_ne _ _ _ _ same]
      exact ih
  | ended _ _ _ _ _ ih =>
    unfold State.stateOf at ih ⊢
    rw [State.judgeLamp_recs]
    exact ih
  | marks _ _ _ ih => exact ih
  | review _ _ _ _ _ ih => exact ih
  | aside _ _ _ ih => exact ih
  | draw _ _ _ ih => simpa [State.stateOf, State.submitDraw] using ih

/-! #### Where no review decides -/

theorem review_of_not_deciding {s : State} (h : s.deciding = false) : s.review = s := by
  unfold State.review
  split
  · rfl
  · rename_i c config
    have reread : s.rereading = true := by simpa [State.deciding, config] using h
    rw [if_pos reread]

theorem evaluate_of_not_deciding {s : State} (h : s.deciding = false) : s.evaluate = s.clearEval := by
  unfold State.evaluate
  split
  · rfl
  · rename_i c config
    have reread : s.rereading = true := by simpa [State.deciding, config] using h
    rw [if_pos reread]

theorem drawCircuit?_of_not_deciding {s : State} (h : s.deciding = false) : s.drawCircuit? = none := by
  unfold State.drawCircuit? State.circuit?
  unfold State.deciding at h
  cases config : s.port.config with
  | none => simp
  | some c => simp_all

/-- Where no review decides, running to rest clears the marks of work due, or leaves them, and no more. -/
theorem finish_of_not_deciding {s : State} (h : s.deciding = false) :
    ∃ r e, s.finish = { s with reviewDue := r, evalDue := e } := by
  have settle : ∀ (k : Nat) (t : State), t.deciding = false →
      ∃ r e, State.settle k t = { t with reviewDue := r, evalDue := e } := by
    intro k
    induction k with
    | zero => exact fun t _ => ⟨t.reviewDue, t.evalDue, rfl⟩
    | succ k ih =>
      intro t ht
      unfold State.settle
      split
      · rw [review_of_not_deciding (s := { t with reviewDue := false }) ht]
        exact ih { t with reviewDue := false } ht
      · split
        · rw [evaluate_of_not_deciding ht]
          exact ih t.clearEval ht
        · exact ⟨t.reviewDue, t.evalDue, rfl⟩
  obtain ⟨r, e, hre⟩ := settle Config.settleBound s h
  refine ⟨r, e, ?_⟩
  unfold State.finish
  rw [hre]
  unfold State.checkDraw
  rw [drawCircuit?_of_not_deciding (s := { s with reviewDue := r, evalDue := e }) h]

/-- With no work due, running to rest submits at most a DRAW. -/
theorem finish_of_not_due {s : State} (hr : s.reviewDue = false) (he : s.evalDue = false) : s.finish = s.checkDraw := by
  simp [State.finish, Config.settleBound, State.settle, hr, he]

/-! #### A review that is due -/

/-- The state a due review begins with. -/
def State.judgedNow (s : State) (c : RunCfg) : State := { s with reviewDue := false, eval := s.reviewed c }

theorem judgedNow_kept (s : State) (c : RunCfg) : (s.judgedNow c).kept = s.kept := rfl

theorem deciding_iff {s : State} : s.deciding = true ↔ ∃ c, s.port.config = some c ∧ s.rereading = false := by
  unfold State.deciding
  cases s.port.config <;> simp

theorem judgedNow_judged {s : State} {c : RunCfg} (config : s.port.config = some c) (reread : s.rereading = false) :
    (s.judgedNow c).Judged := by
  refine judged_of_kept (s := ({ s with reviewDue := false } : State).review) ?_ ?_ (review_judged _)
  · rw [review_kept]; rfl
  · exact (review_eval { s with reviewDue := false } c config reread).symm

/-- A due review is made first; all that follows it finds an evaluator that agrees with its inputs. -/
theorem finish_settles_of_due {s : State} {c : RunCfg} (config : s.port.config = some c) (reread : s.rereading = false)
    (due : s.reviewDue = true) : Settles True s.learnChannel? (s.judgedNow c) s.finish := by
  have first : Settles True s.learnChannel? (s.judgedNow c) ({ s with reviewDue := false } : State).review := by
    have own : ∀ p, (s.judgedNow c).port.session = some p → s.learnChannel? = some p.channel :=
      fun p hp => by simp [State.learnChannel?, show s.port.session = some p from hp]
    unfold State.review
    rw [show ({ s with reviewDue := false } : State).port.config = some c from config]
    dsimp only
    rw [if_neg (by rw [show ({ s with reviewDue := false } : State).rereading = false from reread]; decide)]
    have start : Settles True s.learnChannel? (s.judgedNow c) (s.judgedNow c) := .refl
    refine Settles.eachChannel (t := if (s.judgedNow c).reviewAborts s.eval.threat then _ else _) ?_
      (fun n u hu => hu.handChannel n)
    split
    · rename_i aborts
      exact start.abortLearn own (fun p session => learnAborts_of_reviewAborts aborts session)
    · exact start
  have rest : Settles True s.learnChannel? (s.judgedNow c)
      (State.settle 63 ({ s with reviewDue := false } : State).review) :=
    first.settle (s := s.judgedNow c) 63
  unfold State.finish
  rw [show Config.settleBound = 63 + 1 from rfl, State.settle, if_pos due]
  exact rest.checkDraw

/-- What holds of a channel's state when a command comes to its end is kept by running to rest, if it is by every change that
reviews and evaluations make of the channel: a review that is due comes first, so that each finds an evaluator that agrees with
its inputs. -/
theorem finish_channel {s : State} (due : s.deciding = true → s.Judged ∨ s.reviewDue = true) {n : Ch}
    {Q : ChState → Prop} (start : Q (s.stateOf n))
    (turn : ∀ u new, u.kept = s.kept → u.Judged → u.deciding = true → u.eval = s.finish.eval → Q (u.stateOf n) →
      Turn s.learnChannel? u n new → Q new)
    (create : ∀ u x, u.kept = s.kept → u.Judged → u.deciding = true → u.eval = s.finish.eval → Q (u.stateOf n) →
      Created u n x → Q (.waiting x)) :
    Q (s.finish.stateOf n) := by
  cases deciding : s.deciding with
  | false =>
    obtain ⟨r, e, hre⟩ := finish_of_not_deciding deciding
    rw [hre]
    exact start
  | true =>
    obtain judged | due := due deciding
    · have chain := finish_settles s
      refine chain.channel judged start (fun u new hk he => ?_) (fun u x hk he => ?_)
      · exact turn u new hk (judged_of_kept hk he judged) ((kept_deciding hk).trans deciding)
          (he.trans (chain.eval_of_judged judged).symm)
      · exact create u x hk (judged_of_kept hk he judged) ((kept_deciding hk).trans deciding)
          (he.trans (chain.eval_of_judged judged).symm)
    · obtain ⟨c, config, reread⟩ := deciding_iff.mp deciding
      have judged := judgedNow_judged config reread
      have chain := finish_settles_of_due config reread due
      refine chain.channel judged start (fun u new hk he => ?_) (fun u x hk he => ?_)
      · exact turn u new hk (judged_of_kept hk he judged) ((kept_deciding hk).trans deciding)
          (he.trans (chain.eval_of_judged judged).symm)
      · exact create u x hk (judged_of_kept hk he judged) ((kept_deciding hk).trans deciding)
          (he.trans (chain.eval_of_judged judged).symm)

end Sys2Proof.Machine

namespace Sys2Proof.Machine
set_option Elab.async false

/-! ### What every command is made of

Most commands are chains of a few kinds of changes (`Moves`): the shared operations of the model, and changes aside of what
travels, counts, flags, the pool and the lamp depend on (`State.core`). An invariant of all commands is proved once, for each kind
of change. -/

/-- The state without what the changes of `Moves` do not name: all but station time, units, records, flags, address,
image, running configuration, learn channel, pool, the contents reported last, and the standing pattern. -/
def State.core (s : State) : State :=
  { State.reset with
    now := s.now
    port := { Port.reset with
      ownAddress := s.port.ownAddress, image := s.port.image, config := s.port.config
      session := s.port.session.map (fun p => Session.fresh p.channel) }
    units := s.units, recs := s.recs, flags := s.flags
    arb := { Arbiter.reset with lastDraw := s.arb.lastDraw }
    line := { LineCtl.reset with tx := s.line.tx, waiting := s.line.waiting, nextSeq := s.line.nextSeq }
    handler := { Handler.reset with lastState := s.handler.lastState, stateTimers := s.handler.stateTimers }
    panel := { Panel.reset PanelLevels.allLow with standing := s.panel.standing, patternAge := s.panel.patternAge } }

/-- The flag at a place (R183, R186). -/
def flagAt (i : Fin 21) : FlagId :=
  if h : i.val < 4 then .obstruction ⟨i.val, h⟩
  else if h : i.val < 8 then .encoder ⟨i.val - 4, by omega⟩
  else if h : 9 ≤ i.val ∧ i.val < 13 then .configChannel ⟨i.val - 9, by omega⟩
  else match i.val with
    | 8 => .configStation
    | 13 => .rainSensor
    | 14 => .windSensor
    | 15 => .lineFault
    | 16 => .isolation
    | 17 => .addressClash
    | 18 => .peerOverflow
    | 19 => .supplyLow
    | _ => .store

theorem flagAt_index (f : FlagId) : flagAt f.index = f := by
  cases f with
  | obstruction n | encoder n | configChannel n =>
    revert n
    decide
  | _ => rfl

theorem FlagId.index_injective {f g : FlagId} (h : f.index = g.index) : f = g := by
  rw [← flagAt_index f, h, flagAt_index]

/-- The blocks beside the channels, each with the condition marks it reports. The receive queue and the frame in hand stand with
the peer table; the mark of STORE, which has no condition, with the clock. -/
inductive Block where
  | port | rain | wind | vane | supply | line | table | isolation | overflow | clock
  deriving DecidableEq

/-- The block that reports a flag's condition; none for a flag of a channel. -/
def FlagId.block : FlagId → Option Block
  | .obstruction _ | .encoder _ | .configChannel _ => none
  | .configStation => some .port
  | .rainSensor => some .rain
  | .windSensor => some .wind
  | .lineFault | .addressClash => some .line
  | .isolation => some .isolation
  | .peerOverflow => some .overflow
  | .supplyLow => some .supply
  | .store => some .clock

/-- The condition marks that a block reports. -/
def marksOf (b : Block) (v : Vector Flag 21) : Vector Flag 21 :=
  Vector.ofFn (fun i => { raised := false, condition := (v[i]'i.isLt).condition && decide ((flagAt i).block = some b) })

/-- A setting of a flag that leaves its mark, or is not the block's, leaves the block's marks. -/
theorem marksOf_set (b : Block) (v : Vector Flag 21) (i : Fin 21) (f : Flag)
    (h : (flagAt i).block ≠ some b ∨ f.condition = (v[i]'i.isLt).condition) : marksOf b (v.set i f) = marksOf b v := by
  unfold marksOf
  congr 1
  funext j
  by_cases hj : j = i
  · subst hj
    obtain place | same := h
    · simp [place]
    · simp [same]
  · have : i.val ≠ j.val := fun e => hj (Fin.ext e.symm)
    simp [this]

/-- What a block holds, without its marks: nothing that channels, the evaluator, notices or the lamp hold is in it. -/
def State.fields (b : Block) (s : State) : State :=
  match b with
  | .port => { State.reset with port := { s.port with session := none, store := none } }
  | .rain => { State.reset with rain := { RainFront.reset with state := s.rain.state } }
  | .wind => { State.reset with wind := s.wind }
  | .vane => { State.reset with vane := s.vane }
  | .supply => { State.reset with arb := { Arbiter.reset with supply := s.arb.supply } }
  | .line => { State.reset with line := { s.line with waiting := [], nextSeq := 0, queue := [] } }
  | .table => { State.reset with
      line := { LineCtl.reset with queue := s.line.queue }
      handler := { Handler.reset with inHand := s.handler.inHand, peers := s.handler.peers } }
  | .isolation => { State.reset with handler := { Handler.reset with isolated := s.handler.isolated } }
  | .overflow => { State.reset with handler := { Handler.reset with overflow := s.handler.overflow } }
  | .clock => { State.reset with now := s.now }

/-- What a block holds, with the marks it reports. -/
def State.block (b : Block) (s : State) : State := { s.fields b with flags := marksOf b s.flags }

/-- What all blocks hold, and the flags. -/
def State.outer (s : State) : State :=
  { State.reset with
    now := s.now
    port := { s.port with session := none, store := none }
    rain := { RainFront.reset with state := s.rain.state }
    wind := s.wind, vane := s.vane
    arb := { Arbiter.reset with supply := s.arb.supply }
    line := { s.line with waiting := [], nextSeq := 0 }
    handler := { Handler.reset with
      inHand := s.handler.inHand, peers := s.handler.peers, isolated := s.handler.isolated, overflow := s.handler.overflow }
    flags := s.flags }

/-- What all blocks but one hold, and the flags. -/
def State.sans (b : Block) (s : State) : State :=
  match b with
  | .port => { s.outer with port := Port.reset }
  | .rain => { s.outer with rain := RainFront.reset }
  | .wind => { s.outer with wind := WindFront.reset }
  | .vane => { s.outer with vane := { sector := 8, candidate := none } }
  | .supply => { s.outer with arb := Arbiter.reset }
  | .line => { s.outer with line := { LineCtl.reset with queue := s.line.queue } }
  | .table => { s.outer with
      line := { s.line with waiting := [], nextSeq := 0, queue := [] }
      handler := { s.outer.handler with inHand := none, peers := [] } }
  | .isolation => { s.outer with handler := { s.outer.handler with isolated := false } }
  | .overflow => { s.outer with handler := { s.outer.handler with overflow := none } }
  | .clock => { s.outer with now := 0 }

theorem block_of_outer {s t : State} (h : t.outer = s.outer) (b : Block) : t.block b = s.block b := by
  have through (u : State) : u.block b = u.outer.block b := by cases b <;> rfl
  rw [through t, h, ← through s]

theorem block_of_sans {b : Block} {s t : State} (h : t.sans b = s.sans b) {b' : Block} (ne : b' ≠ b) : t.block b' = s.block b' := by
  have through (u : State) : u.block b' = (u.sans b).block b' := by
    cases b <;> cases b' <;> first | rfl | exact absurd rfl ne
  rw [through t, h, ← through s]

/-- A target where R23 asks for one. -/
def Travel.TargetOk (x : Travel) : Prop := x.target.isSome = true ↔ x.kind = .opn ∨ x.kind = .reduce

/-- What a chain of changes may do beside what every one may. -/
structure Licence where
  /-- step the channel's count -/
  steps : Ch → Prop
  /-- set the channel's count -/
  counts : Ch → Prop
  /-- clear the flag -/
  clears : Fin 21 → Prop
  /-- take a channel out of FAULTED -/
  returns : Prop
  /-- make an OPEN travel -/
  opens : Prop
  /-- confirm a learn run -/
  confirms : Prop
  /-- begin one of the four conditions of R45 -/
  bars : Prop
  /-- change what a block holds -/
  free : Block → Prop

/-- The licence for the one block that reports a flag's condition. -/
theorem Licence.frees {p : Licence} {f : FlagId} {b : Block} (e : f.block = some b) (free : p.free b) :
    ∀ d, f.block = some d → p.free d := by
  intro d hd
  rw [e] at hd
  cases hd
  exact free

/-- A flag of a channel needs no licence. -/
theorem Licence.freesNone {p : Licence} {f : FlagId} (e : f.block = none) : ∀ d, f.block = some d → p.free d := by
  simp [e]

/-- None of it. -/
def Licence.plain : Licence :=
  { steps := fun _ => False, counts := fun _ => False, clears := fun _ => False, returns := False, opens := False, confirms := False,
    bars := False, free := fun _ => False }

/-- What the changes of a channel's state have in common: FAULTED is left by licence alone, a travel has a target where R23 asks
for one, or the kind of the travel before and a target where that had one, and an OPEN travel is made by licence alone, while none of
the four conditions of R45 holds. -/
structure ChState.Follows (p : Licence) (barred : Bool) (old new : ChState) : Prop where
  faulted : p.returns ∨ (old.isFaulted = true → new.isFaulted = true)
  target : ∀ x, new.travel? = some x → x.TargetOk ∨
    ∃ y, old.travel? = some y ∧ x.kind = y.kind ∧ x.target.isSome = y.target.isSome
  opens : ∀ x, new.travel? = some x → x.kind = .opn → p.opens ∧ barred = false ∨ ∃ y, old.travel? = some y ∧ y.kind = .opn

/-- `t` comes from `s` by a chain of changes that the licence covers. -/
inductive Moves (p : Licence) (s : State) : State → Prop
  | refl : Moves p s s
  | state {t : State} (n : Ch) (new : ChState) : Moves p s t → ChState.Follows p t.openBarred (t.stateOf n) new →
      Moves p s (t.setState n new)
  | unit {t : State} (n : Ch) (u : ChanUnit) : Moves p s t → u.count = (t.units[n]'n.isLt).count →
      u.drive.dir? = none ∨ u.drive.dir? = (t.units[n]'n.isLt).drive.dir? → Moves p s (t.setUnit n u)
  | step {t : State} (n : Ch) (up : Bool) : Moves p s t → p.steps n → stepRefused (t.units[n]'n.isLt).count up = false →
      Moves p s (t.setUnit n ((t.units[n]'n.isLt).step up t.now)).judgeLamp
  | count {t : State} (n : Ch) (k : ChanCfg) : Moves p s t → p.counts n → t.chan? n = some k →
      Moves p s (t.setCount n k.c)
  | referenced {t : State} (n : Ch) (b : Bool) : Moves p s t → Moves p s (t.setReferenced n b)
  | mark {t : State} (n : Ch) (r : ChanRec) : Moves p s t → r.state = (t.recs[n]'n.isLt).state →
      r.referenced = (t.recs[n]'n.isLt).referenced → Moves p s (t.setRec n r)
  | submitState {t : State} (n : Ch) : Moves p s t → Moves p s (t.submitState n)
  | submitDraw {t : State} (c : DrawContent) (h : Nat) : Moves p s t → Moves p s (t.submitDraw c h)
  | report {t : State} (e : Notice) (r : Nat) : Moves p s t → e.kind = 1 ∨ e.kind = 2 → Moves p s (t.submit e r)
  | raise {t : State} (i : Fin 21) : Moves p s t → Moves p s (t.raiseAt i)
  | clear {t : State} (i : Fin 21) : Moves p s t → p.clears i → Moves p s (t.clearAt i)
  | condition {t : State} (f : FlagId) (b : Bool) : Moves p s t → f ≠ .configStation →
      (∀ d, f.block = some d → p.free d) → Moves p s (t.setCondition f b)
  | session {t : State} (q : Option Session) (x : Option Store) : Moves p s t →
      Moves p s ({ t with port := { t.port with session := q, store := x } } : State).judgeLamp
  | confirm {t : State} (q : Session) : Moves p s t → p.confirms → Moves p s (t.confirmLearn q)
  | lamp {t : State} : Moves p s t → Moves p s t.judgeLamp
  | aside {t : State} (u : State) : Moves p s t → u.core = t.core →
      (∀ b, p.free b ∨ u.block b = t.block b) → p.bars ∨ (u.openBarred = true → t.openBarred = true) → Moves p s u
  | rest {t : State} : Moves p s t → Moves p s t.finish

theorem Moves.trans {p : Licence} {s t u : State} (h : Moves p s t) (h' : Moves p t u) : Moves p s u := by
  induction h' with
  | refl => exact h
  | state n new _ hf ih => exact ih.state n new hf
  | unit n u _ hc hd ih => exact ih.unit n u hc hd
  | step n up _ hc hr ih => exact ih.step n up hc hr
  | count n k _ hc hk ih => exact ih.count n k hc hk
  | referenced n b _ ih => exact ih.referenced n b
  | mark n r _ hs hr ih => exact ih.mark n r hs hr
  | submitState n _ ih => exact ih.submitState n
  | submitDraw c h _ ih => exact ih.submitDraw c h
  | report e r _ hk ih => exact ih.report e r hk
  | raise i _ ih => exact ih.raise i
  | clear i _ hc ih => exact ih.clear i hc
  | condition f b _ hf hc ih => exact ih.condition f b hf hc
  | session q x _ ih => exact ih.session q x
  | confirm q _ hc ih => exact ih.confirm q hc
  | lamp _ ih => exact ih.lamp
  | aside u _ hu ho hb ih => exact ih.aside u hu ho hb
  | rest _ ih => exact ih.rest

/-! #### Changes of a channel's state -/

theorem isFaulted_of_travel {c : ChState} {x : Travel} (h : c.travel? = some x) : c.isFaulted = false := by
  cases c <;> first | rfl | simp [ChState.travel?] at h

theorem withTravel_travel {c : ChState} {x y z : Travel} (h : c.travel? = some x)
    (hz : (c.withTravel y).travel? = some z) : z = y := by
  cases c <;> simp_all [ChState.travel?, ChState.withTravel]

/-- A channel that is not FAULTED may come to hold no travel. -/
theorem ChState.Follows.bare {p : Licence} {barred : Bool} {old new : ChState} (hn : new.travel? = none)
    (ho : old.isFaulted = true → new.isFaulted = true) : ChState.Follows p barred old new where
  faulted := .inr ho
  target := by simp [hn]
  opens := by simp [hn]

theorem ChState.Follows.still {p : Licence} {barred : Bool} {old : ChState} (h : old.isFaulted = false) : ChState.Follows p barred old .still :=
  .bare rfl (by simp [h])

/-- A travel may stand in another state, or with another target, band, origin or profile. -/
theorem ChState.Follows.keeps {p : Licence} {barred : Bool} {old new : ChState} {x y : Travel} (ho : old.travel? = some y)
    (hn : new.travel? = some x) (kind : x.kind = y.kind) (target : x.target.isSome = y.target.isSome) :
    ChState.Follows p barred old new where
  faulted := .inr (by simp [isFaulted_of_travel ho])
  target := fun z hz => .inr ⟨y, ho, by
    obtain rfl : x = z := by simpa [hn] using hz
    exact ⟨kind, target⟩⟩
  opens := fun z hz hk => .inr ⟨y, ho, by
    obtain rfl : x = z := by simpa [hn] using hz
    rw [← kind, hk]⟩

/-- A channel that is not FAULTED may take a travel whose target is as R23 asks. -/
theorem ChState.Follows.takes {p : Licence} {barred : Bool} {old new : ChState} {x : Travel} (ho : old.isFaulted = false)
    (hn : new.travel? = some x) (target : x.TargetOk)
    (opens : x.kind = .opn → p.opens ∧ barred = false ∨ ∃ y, old.travel? = some y ∧ y.kind = .opn) : ChState.Follows p barred old new where
  faulted := .inr (by simp [ho])
  target := fun z hz => .inl (by
    obtain rfl : x = z := by simpa [hn] using hz
    exact target)
  opens := fun z hz hk => by
    obtain rfl : x = z := by simpa [hn] using hz
    exact opens hk

theorem ChState.Follows.unbarred {p : Licence} {barred : Bool} {old new : ChState} (h : ChState.Follows p barred old new) :
    ChState.Follows p false old new where
  faulted := h.faulted
  target := h.target
  opens := fun x hx hk => (h.opens x hx hk).imp_left (fun o => ⟨o.1, rfl⟩)

theorem travel?_withTravel {c : ChState} {x y : Travel} (h : c.travel? = some x) :
    (c.withTravel y).travel? = some y := by
  cases c <;> simp_all [ChState.travel?, ChState.withTravel]

@[simp] theorem reband_kind (c : ChState) (x : Travel) (b : Band) : (c.reband x b).kind = x.kind := by
  unfold ChState.reband
  split
  · rfl
  · split <;> rfl

@[simp] theorem reband_target (c : ChState) (x : Travel) (b : Band) : (c.reband x b).target = x.target := by
  unfold ChState.reband
  split
  · rfl
  · split <;> rfl

/-- A need reaches no FAULTED channel. -/
theorem isFaulted_of_needReaches {s : State} {n : Ch} (h : s.needReaches n = true) : (s.stateOf n).isFaulted = false := by
  unfold State.needReaches at h
  cases hs : s.stateOf n <;> simp_all [ChState.isFaulted]

theorem travel?_of_isCandidate {c : ChState} {x : Travel} (h : c.travel? = some x) :
    c.isFaulted = false := isFaulted_of_travel h

/-- Every change of a channel's state that reviews and evaluations make is of the common form. -/
theorem Turn.follows {p : Licence} {barred : Bool} {l : Option Ch} {s : State} {n : Ch} {new : ChState} (h : Turn l s n new) :
    ChState.Follows p barred (s.stateOf n) new := by
  cases h with
  | openBarred x travel | openAbove x k y travel | dropLearn x _ _ travel | admitDone x travel =>
    exact .still (isFaulted_of_travel travel)
  | reduced y reaches | lost x reaches => exact .still (isFaulted_of_needReaches reaches)
  | reclamp x k y d travel kind chan target =>
    exact .keeps travel (travel?_withTravel travel) rfl (by simp [target])
  | bandClose x b o _ travel | bandReference x _ travel =>
    exact .keeps travel (travel?_withTravel travel) (by simp) (by simp)
  | retarget x y d _ travel _ kind =>
    exact .takes (isFaulted_of_travel travel) (travel?_withTravel travel) (by simp [Travel.TargetOk, kind]) (by simp [kind])
  | maintHold _ _ _ notFaulted => exact .bare rfl (by simp [notFaulted])
  | yield x running => exact .keeps (y := x) (by rw [running]; rfl) rfl rfl rfl
  | upgrade x _ running => exact .keeps (y := x) (by rw [running]; rfl) rfl rfl rfl
  | admitted x _ travel => exact .keeps travel rfl rfl rfl

theorem Created.targetOk {s : State} {n : Ch} {x : Travel} (h : Created s n x) : x.TargetOk := by
  cases h <;> simp [Travel.TargetOk, newTravel]

theorem Created.not_opn {s : State} {n : Ch} {x : Travel} (h : Created s n x) : x.kind ≠ .opn := by
  cases h <;> simp [newTravel]

theorem Created.isFaulted {s : State} {n : Ch} {x : Travel} (h : Created s n x) : (s.stateOf n).isFaulted = false := by
  cases h with
  | close b o reaches | reference reaches | reduce y d reaches => exact isFaulted_of_needReaches reaches

section operations

variable {p : Licence} {s t : State} (h : Moves p s t)

include h

/-- A change that leaves what stands beside the channels. -/
theorem Moves.strictly (u : State) (core : u.core = t.core) (outer : u.outer = t.outer)
    (bars : u.openBarred = true → t.openBarred = true := by exact id) : Moves p s u :=
  h.aside u core (fun b => .inr (block_of_outer outer b)) (.inr bars)

/-- A change of what a block holds. -/
theorem Moves.freely {b : Block} (free : p.free b) (u : State) (core : u.core = t.core) (sans : u.sans b = t.sans b)
    (bars : u.openBarred = true → t.openBarred = true := by exact id) : Moves p s u :=
  h.aside u core (fun d => if e : d = b then .inl (e ▸ free) else .inr (block_of_sans sans e)) (.inr bars)

theorem Moves.askReview : Moves p s t.askReview := by
  unfold State.askReview
  split
  · exact h.strictly _ rfl rfl
  · exact h

theorem Moves.askEval : Moves p s t.askEval := by
  unfold State.askEval
  split
  · exact h.strictly _ rfl rfl
  · exact h

theorem Moves.createTravel {n : Ch} {x : Travel} (hf : (t.stateOf n).isFaulted = false) (target : x.TargetOk)
    (opens : x.kind = .opn → p.opens ∧ t.openBarred = false) : Moves p s (t.createTravel n x) :=
  ((h.unit n { t.units[n]'n.isLt with illegal := 0, indexRecord := none } rfl (.inr rfl)).state n (.waiting x)
    (.takes hf rfl target (fun hk => .inl (opens hk)))).askEval

theorem Moves.settles {l : Option Ch} {u : State} (hu : Settles False l t u) : Moves p s u := by
  induction hu with
  | refl => exact h
  | turn _ hn ih => exact ih.state _ _ hn.follows
  | create _ hn ih => exact ih.createTravel hn.isFaulted hn.targetOk (fun hk => absurd hk hn.not_opn)
  | ended _ _ _ _ _ ih => exact ih.session none none
  | marks v e _ ih => exact ih.strictly _ rfl rfl
  | review _ never => exact never.elim
  | aside d h _ ih => exact ih.strictly _ rfl rfl
  | draw c _ _ ih => exact ih.submitDraw _ _

theorem Moves.finish : Moves p s t.finish := h.rest

theorem Moves.applyNeed (n : Ch) : Moves p s (t.applyNeed n) := h.settles (l := none) (Settles.refl.applyNeed n)

theorem Moves.checkDraw : Moves p s t.checkDraw := h.settles (l := none) Settles.refl.checkDraw

theorem Moves.checkView (n : Ch) : Moves p s (t.checkView n) := by
  unfold State.checkView
  split
  · exact h.submitState n
  · exact h

theorem Moves.toStill {n : Ch} (hf : (t.stateOf n).isFaulted = false) : Moves p s (t.toStill n) := h.state n _ (.still hf)

theorem Moves.complete {n : Ch} (hf : (t.stateOf n).isFaulted = false) : Moves p s (t.complete n) :=
  (h.toStill hf).askReview.askEval

theorem Moves.setSession (q : Option Session) (same : q.map (·.channel) = t.port.session.map (·.channel)) :
    Moves p s (t.setSession q) := by
  refine h.strictly _ ?_ rfl
  have fresh : q.map (fun p => Session.fresh p.channel) = t.port.session.map (fun p => Session.fresh p.channel) := by
    have := congrArg (Option.map Session.fresh) same
    simpa [Function.comp_def] using this
  unfold State.core
  simp only [State.setSession_port, fresh]
  rfl

/-- R45: the OPEN travel of a channel is discarded. -/
theorem Moves.endOpen (n : Ch) : Moves p s (t.endOpen n) := by
  unfold State.endOpen
  split
  · exact h
  · rename_i x travel
    split
    · exact h.toStill (isFaulted_of_travel travel)
    · exact h

theorem Moves.eachChannel {f : Ch → State → State} (hf : ∀ (n : Ch) (u : State), Moves p s u → Moves p s (f n u)) :
    Moves p s (t.eachChannel f) := by
  have fold : ∀ (ns : List Ch) (u : State), Moves p s u → Moves p s (ns.foldl (fun s n => f n s) u) := by
    intro ns
    induction ns with
    | nil => exact fun _ hu => hu
    | cons n ns ih => exact fun u hu => ih _ (hf n u hu)
  exact fold channels t h

theorem Moves.foldl {α : Type} {f : State → α → State} (l : List α)
    (hf : ∀ (a : α) (u : State), Moves p s u → Moves p s (f u a)) : Moves p s (l.foldl f t) := by
  induction l generalizing t with
  | nil => exact h
  | cons a l ih => exact ih (hf a t h)

/-! #### Flags and reports -/

theorem Moves.raiseFlag (f : FlagId) : Moves p s (t.raise f) := h.raise f.index

theorem Moves.beginCondition {f : FlagId} (hf : f ≠ .configStation) (hc : ∀ d, f.block = some d → p.free d) : Moves p s (t.beginCondition f) := by
  unfold State.beginCondition
  split
  · exact h
  · exact (h.condition f true hf hc).raiseFlag f

theorem Moves.endCondition {f : FlagId} (hf : f ≠ .configStation) (hc : ∀ d, f.block = some d → p.free d) : Moves p s (t.endCondition f) :=
  h.condition f false hf hc

theorem Moves.submitWetness (a b c : Nat) : Moves p s (t.submitWetness a b c) := h.report _ _ (.inl rfl)

theorem Moves.submitGust : Moves p s t.submitGust := (h.report _ _ (.inr rfl)).strictly _ rfl rfl

theorem Moves.setRefresh (x : Timer) : Moves p s (t.setRefresh x) := h.strictly _ rfl rfl

theorem Moves.withdrawGust : Moves p s t.withdrawGust := h.strictly _ rfl rfl

omit h in
/-- Of the panel, the bars on OPEN look at the CLOSE input alone. -/
theorem setPanel_openBarred {x : Panel} (cls : x.active.cls = t.panel.active.cls) : (t.setPanel x).openBarred = t.openBarred := by
  unfold State.openBarred State.closeLevelActive State.isolationClose
  simp only [State.setPanel_eval, State.setPanel_port, State.setPanel_panel, State.setPanel_handler, cls]

theorem Moves.setPanel (x : Panel) (same : x.standing = t.panel.standing ∧ x.patternAge = t.panel.patternAge)
    (bars : (t.setPanel x).openBarred = true → t.openBarred = true := by exact id) : Moves p s (t.setPanel x) := by
  refine h.strictly _ ?_ rfl bars
  unfold State.core
  simp only [State.setPanel_panel, same]
  rfl

theorem Moves.askRefusal : Moves p s t.askRefusal := h.strictly _ rfl rfl

theorem Moves.handReport : Moves p s t.handReport := by
  obtain e | e | e := handReport_cases t <;> rw [e]
  · exact h
  · exact h.askReview
  · exact h.askReview.submitGust

/-! #### The learn session -/

theorem Moves.dropLearn (n : Ch) : Moves p s (t.dropLearn n) := by
  unfold State.dropLearn
  split
  · exact h
  · rename_i x travel
    split
    · exact h.toStill (isFaulted_of_travel travel)
    · exact h

theorem Moves.stopLearn (n : Ch) : Moves p s (t.stopLearn n) := by
  have drop := h.dropLearn n
  unfold State.stopLearn
  dsimp only
  split
  · exact drop
  · rename_i notFaulted
    split
    · refine drop.state n _ (.bare rfl (fun hf => ?_))
      cases hs : (t.dropLearn n).stateOf n with
      | faulted o e => exact absurd hs (notFaulted o e)
      | _ => simp [hs, ChState.isFaulted] at hf
    · exact drop.applyNeed n

theorem Moves.endSession : Moves p s t.endSession := by
  unfold State.endSession
  split
  · exact h
  · exact (h.session none none).stopLearn _

theorem Moves.abortLearn : Moves p s t.abortLearn := by
  unfold State.abortLearn
  split
  · exact h
  · split
    · exact h
    · exact h.endSession

theorem Moves.becomeLearn (n : Ch) : Moves p s (t.becomeLearn n) := by
  unfold State.becomeLearn
  split
  · exact h
  · exact h
  · rename_i notFaulted
    refine h.toStill ?_
    cases hs : t.stateOf n with
    | faulted o e => exact absurd hs (notFaulted o e)
    | _ => rfl

theorem Moves.holdForMaint (n : Ch) : Moves p s (t.holdForMaint n) := by
  unfold State.holdForMaint
  split
  · split
    · exact h
    · exact h
    · rename_i notFaulted
      refine h.state n _ (.bare rfl (fun hf => ?_))
      cases hs : t.stateOf n with
      | faulted o e => exact absurd hs (notFaulted o e)
      | _ => simp [hs, ChState.isFaulted] at hf
  · exact h

theorem Moves.releaseFromMaint (n : Ch) : Moves p s (t.releaseFromMaint n) := by
  unfold State.releaseFromMaint
  split
  · rename_i held
    exact (h.toStill (by rw [held]; rfl)).applyNeed n
  · exact h

end operations

end Sys2Proof.Machine

namespace Sys2Proof.Machine
set_option Elab.async false

theorem setCount_stateOf (t : State) (n m : Ch) (c : Nat) : (t.setCount n c).stateOf m = t.stateOf m := by
  simp [State.setCount, State.stateOf]

theorem setReferenced_stateOf (t : State) (n m : Ch) (b : Bool) : (t.setReferenced n b).stateOf m = t.stateOf m := by
  unfold State.setReferenced State.stateOf
  split
  · rfl
  · simp only [State.judgeLamp_recs, checkView_recs, State.askReview_recs, State.setRec_recs]
    by_cases hm : m = n
    · subst hm; simp
    · have : n.val ≠ m.val := fun e => hm (Fin.ext e.symm)
      simp [this]

theorem judgeChord_lamp (x : Panel) : x.judgeChord.standing = x.standing ∧ x.judgeChord.patternAge = x.patternAge := by
  unfold Panel.judgeChord
  split <;> exact ⟨rfl, rfl⟩

theorem judgeChord_cls (x : Panel) : x.judgeChord.active.cls = x.active.cls := by
  unfold Panel.judgeChord
  split <;> rfl

theorem releaseChord_cls (x : Panel) : x.releaseChord.active.cls = x.active.cls := by
  unfold Panel.releaseChord
  split <;> rfl

theorem bars_judgeChord {t : State} (x : Panel) (cls : x.active.cls = t.panel.active.cls) :
    (t.setPanel x.judgeChord).openBarred = true → t.openBarred = true :=
  (setPanel_openBarred ((judgeChord_cls x).trans cls)).symm.trans

theorem bars_releaseChord {t : State} (x : Panel) (cls : x.active.cls = t.panel.active.cls) :
    (t.setPanel x.releaseChord).openBarred = true → t.openBarred = true :=
  (setPanel_openBarred ((releaseChord_cls x).trans cls)).symm.trans

theorem releaseChord_lamp (x : Panel) : x.releaseChord.standing = x.standing ∧ x.releaseChord.patternAge = x.patternAge := by
  unfold Panel.releaseChord
  split <;> exact ⟨rfl, rfl⟩

section operations

variable {p : Licence} {s t : State} (h : Moves p s t)

include h

/-! #### Requests -/

theorem Moves.createClose {n : Ch} (hf : (t.stateOf n).isFaulted = false) (b : Band) (o : Origin) :
    Moves p s (t.createClose n b o) :=
  h.createTravel hf (by simp [Travel.TargetOk, newTravel]) (by simp [newTravel])

theorem Moves.createReference {n : Ch} (hf : (t.stateOf n).isFaulted = false) : Moves p s (t.createReference n) :=
  h.createTravel hf (by simp [Travel.TargetOk, newTravel]) (by simp [newTravel])

theorem Moves.createOpen {n : Ch} (hf : (t.stateOf n).isFaulted = false) (opens : p.opens ∧ t.openBarred = false) (x : Nat) (o : Origin) (b : Band) :
    Moves p s (t.createTargeted n .opn x o b) := by
  unfold State.createTargeted
  split
  · exact h.toStill hf
  · exact h.createTravel hf (by simp [Travel.TargetOk, newTravel]) (fun _ => opens)

theorem Moves.openRequest {n : Ch} (hf : (t.stateOf n).isFaulted = false) (opens : p.opens ∧ t.openBarred = false) (x : Nat) (o : Origin) :
    Moves p s (t.openRequest n x o) := by
  unfold State.openRequest
  split
  · exact h
  · dsimp only
    split
    · rename_i y running
      split
      · rename_i towards
        refine h.state n _ (.takes hf (travel?_withTravel (x := y) (by rw [running]; rfl)) ?_ (fun _ => .inl opens))
        simp only [Bool.and_eq_true, decide_eq_true_eq] at towards
        simp [Travel.TargetOk, towards.1]
      · exact h.createOpen hf opens _ _ _
    · exact h.createOpen hf opens _ _ _

theorem Moves.closeRequest {n : Ch} (hf : (t.stateOf n).isFaulted = false) (o : Origin) :
    Moves p s (t.closeRequest n o) := by
  unfold State.closeRequest
  split
  · split
    · split
      · exact h
      · exact h.createClose hf 4 o
    · rename_i x travel
      split
      · exact h.createClose hf 4 o
      · exact h.createClose hf 4 o
      · split
        · exact h
        · split
          · exact h
          · have band : Moves p s (t.setTravel n { x with band := 4, origin := o }) :=
              h.state n _ (.keeps travel (travel?_withTravel travel) rfl rfl)
            dsimp only
            split
            · exact band
            · exact band.askEval
      · exact h
  · split
    · exact h.createReference hf
    · exact h

theorem Moves.stopRequest (n : Ch) : Moves p s (t.stopRequest n) := by
  unfold State.stopRequest
  split
  · exact h
  · rename_i x travel
    split
    · exact (h.toStill (isFaulted_of_travel travel)).applyNeed n
    · exact h

theorem Moves.setHold (n : Ch) (b : Bool) : Moves p s (t.setHold n b) := (h.mark n { t.recs[n]'n.isLt with consoleHold := b } rfl rfl).checkView n

theorem Moves.holdRequest (n : Ch) : Moves p s (t.holdRequest n) := by
  have held := h.setHold n true
  unfold State.holdRequest
  dsimp only
  split
  · exact held
  · rename_i x travel
    split
    · exact (held.toStill (isFaulted_of_travel travel)).applyNeed n
    · exact held

omit h in
/-- An OPEN request is accepted while none of the four conditions holds alone (R45, R47). -/
theorem openBarred_of_accepted {n : Ch} {x : Nat} (accepted : t.judge n (.opn x) = .accepted) : t.openBarred = false := by
  unfold State.judge at accepted
  simp only at accepted
  split at accepted
  · cases accepted
  split at accepted
  · cases accepted
  repeat' split at accepted
  all_goals first
    | exact absurd accepted (by decide)
    | simp_all [State.openBarred]

/-- A request takes no channel out of FAULTED, since one is refused there or finds no travel (R46); OPEN alone opens. -/
theorem Moves.request (n : Ch) {r : Request} (o : Origin) (opens : ∀ x, r = .opn x → p.opens) :
    Moves p s (t.request n r o) := by
  have marked := h.mark n { t.recs[n]'n.isLt with refusal := t.judge n r } rfl rfl
  unfold State.request
  dsimp only
  refine Moves.submitState n ?_
  split
  · rename_i accepted
    have faulted : (∃ x, r = .opn x) ∨ r = .close →
        ((t.setRec n { t.recs[n]'n.isLt with refusal := t.judge n r }).stateOf n).isFaulted = false := by
      intro hr
      have same : (t.setRec n { t.recs[n]'n.isLt with refusal := t.judge n r }).stateOf n = t.stateOf n := by
        simp [State.stateOf]
      rw [same]
      obtain ⟨x, rfl⟩ | rfl := hr <;>
        · unfold State.judge at accepted
          by_contra hf
          rw [Bool.not_eq_false] at hf
          simp only [hf, if_true] at accepted
          split at accepted
          · cases accepted
          · split at accepted <;> cases accepted
    unfold State.carryOut
    cases r with
    | opn x => exact marked.openRequest (faulted (.inl ⟨x, rfl⟩)) ⟨opens x rfl, openBarred_of_accepted (t := t) accepted⟩ x o
    | close => exact marked.closeRequest (faulted (.inr rfl)) o
    | stop => exact marked.stopRequest n
    | hold => exact marked.holdRequest n
    | release => exact marked.setHold n false
  · exact marked

theorem Moves.press {r : Request} (opens : ∀ x, r = .opn x → p.opens) : Moves p s (t.press r) := by
  have each := h.foldl t.pressTargets (f := fun s n => s.request n r .panel) (fun n _ hu => hu.request n .panel opens)
  unfold State.press
  dsimp only
  split
  · exact each.askRefusal
  · exact each

theorem Moves.channelOrder (x : Order) {r : Request} (opens : ∀ x, r = .opn x → p.opens) : Moves p s (t.channelOrder x r) :=
  h.foldl (maskChannels x.mask) (f := fun s n => s.request n r .console) (fun n _ hu => hu.request n .console opens)

/-! #### Stops -/

theorem Moves.encoderFault (n : Ch) : Moves p s (t.encoderFault n) := by
  have faulted (o : Bool) : Moves p s ((t.setReferenced n false).setState n (.faulted o true)) :=
    (h.referenced n false).state n _ (.bare rfl (fun _ => rfl))
  have abort (u : State) (hu : Moves p s u) : Moves p s (if u.isLearnChannel n then u.abortLearn else u) := by
    split
    · exact hu.abortLearn
    · exact hu
  refine abort _ ?_
  split
  · exact faulted _
  · exact (faulted _).beginCondition (by simp) (Licence.freesNone rfl)
  · exact (faulted _).beginCondition (by simp) (Licence.freesNone rfl)

theorem Moves.learnAdvance {n : Ch} (hf : (t.stateOf n).isFaulted = false) (kind : TravelKind) (u : ChanUnit) :
    Moves p s (t.learnAdvance n kind u) := by
  unfold State.learnAdvance
  split
  · rename_i q k session chan
    have next (r : Session) (hr : r.channel = q.channel) {g : TravelKind} (hg : g ≠ .opn ∧ g ≠ .reduce) :
        Moves p s ((t.setSession (some r)).createTravel n (learnTravel g)) :=
      (h.setSession (some r) (by simp [session, hr])).createTravel (by simpa [State.stateOf] using hf)
        (by simp [Travel.TargetOk, learnTravel, newTravel, hg]) (by simp [learnTravel, newTravel, hg])
    split
    · split
      · exact next { q with phase := .opening } rfl (g := .learnOpen) (by simp)
      · unfold State.learnOpenDone
        refine next _ ?_ (g := .learnTimed) (by simp)
        rfl
      · unfold State.learnTimedDone
        dsimp only
        split
        · exact h.setSession _ (by simp [session])
        · exact ((h.setSession _ (by simp [session])).endSession).askRefusal
      · exact h
    · exact h
  · exact h

theorem Moves.completeTravel {n : Ch} (hf : (t.stateOf n).isFaulted = false) (x : Travel) :
    Moves p s (t.completeTravel n x) := by
  have done := h.complete hf
  unfold State.completeTravel
  dsimp only
  split
  · exact done.learnAdvance (by rw [stateOf_complete]; rfl) _ _
  · exact done

theorem Moves.closedEndStop {n : Ch} (hn : p.counts n) (hf : (t.stateOf n).isFaulted = false) {k : ChanCfg}
    (chan : t.chan? n = some k) (x : Travel) : Moves p s (t.closedEndStop n k x) := by
  unfold State.closedEndStop
  split
  · exact h.encoderFault n
  · split
    · exact (h.count n k hn chan).completeTravel (by rw [setCount_stateOf]; exact hf) x
    · exact h.completeTravel hf x

theorem Moves.reference {n : Ch} (hn : p.counts n) {k : ChanCfg} (chan : t.chan? n = some k) :
    Moves p s (t.reference n k.c) := (h.count n k hn chan).referenced n true

theorem Moves.referencingStall {n : Ch} (hn : p.counts n) (hf : (t.stateOf n).isFaulted = false) {k : ChanCfg}
    (chan : t.chan? n = some k) (x : Travel) : Moves p s (t.referencingStall n k x) :=
  (h.reference hn chan).completeTravel (by
    rw [State.reference, setReferenced_stateOf, setCount_stateOf]; exact hf) x

theorem Moves.enterPause (n : Ch) : Moves p s (t.enterPause n) := by
  unfold State.enterPause
  split
  · rename_i x e backing
    exact h.state n _ (.keeps (y := x) (by rw [backing]; rfl) rfl rfl rfl)
  · exact h

theorem Moves.enterBacking {n : Ch} {x : Travel} (running : t.stateOf n = .running x) (k : ChanCfg) :
    Moves p s (t.enterBacking n k x) := by
  have back (e : Nat) : Moves p s (t.setState n (.backing x e)) :=
    h.state n _ (.keeps (y := x) (by rw [running]; rfl) rfl rfl rfl)
  unfold State.enterBacking
  dsimp only
  split
  · exact (back _).enterPause n
  · exact back _

theorem Moves.obstructed {n : Ch} {x : Travel} (running : t.stateOf n = .running x) (k : ChanCfg) :
    Moves p s (t.obstructed n k x) := by
  unfold State.obstructed
  split
  · split
    · exact h.enterBacking running k
    · exact (h.state n _ (.bare rfl (fun _ => rfl))).beginCondition (by simp) (Licence.freesNone rfl)
  · split
    · exact h.enterBacking running k
    · exact (h.state n _ (.bare rfl (fun _ => rfl))).beginCondition (by simp) (Licence.freesNone rfl)
  · exact (h.toStill (by rw [running]; rfl)).raiseFlag _

theorem Moves.takeStop {n : Ch} (hn : p.counts n) {x : Travel} (running : t.stateOf n = .running x) {k : ChanCfg}
    (chan : t.chan? n = some k) (c : StopClass) : Moves p s (t.takeStop n k x c) := by
  have hf : (t.stateOf n).isFaulted = false := by rw [running]; rfl
  unfold State.takeStop
  cases c with
  | obstruction => exact h.obstructed running k
  | learnObstruction => exact (h.toStill hf).abortLearn
  | referencingStall => exact h.referencingStall hn hf chan x
  | openEndStall => exact h.completeTravel hf x
  | closedEnd => exact h.closedEndStop hn hf chan x
  | endWithoutFault => exact h.toStill hf

theorem Moves.deliverStops {n : Ch} (hn : p.counts n) (sigs : List StopSignal) : Moves p s (t.deliverStops n sigs) := by
  unfold State.deliverStops
  split
  · rename_i k x chan running
    exact h.takeStop hn running chan _
  · split
    · exact h.enterPause n
    · exact h
  · exact h

theorem Moves.cutDrive (n : Ch) : Moves p s (t.cutDrive n) := by
  refine h.unit n _ ?_ (.inl (by rw [driveOff_drive]; rfl))
  unfold ChanUnit.driveOff
  split <;> rfl

theorem Moves.stopMoment {n : Ch} (hn : p.counts n) (a b c : Bool) : Moves p s (t.stopMoment n a b c) := by
  unfold State.stopMoment
  split
  · exact h
  · exact (h.cutDrive n).deliverStops hn _

/-! #### Decoder and index -/

theorem Moves.compareStep (n : Ch) : Moves p s (t.compareStep n) := by
  unfold State.compareStep
  split
  · rename_i x running
    split
    · exact h.complete (by rw [running]; rfl)
    · exact h
  · split
    · exact h.enterPause n
    · exact h
  · exact h

theorem Moves.stepCount {n : Ch} (hn : p.steps n) (up : Bool) : Moves p s (t.stepCount n up) := by
  unfold State.stepCount
  split
  · split
    · exact h.encoderFault n
    · exact h
  · rename_i refused
    exact (h.step n up hn (by simpa using refused)).compareStep n

theorem Moves.illegalTransition (n : Ch) : Moves p s (t.illegalTransition n) := by
  have counted := h.unit n { t.units[n]'n.isLt with illegal := (t.units[n]'n.isLt).illegal + 1 } rfl (.inr rfl)
  unfold State.illegalTransition
  split
  · dsimp only
    split
    · exact counted.encoderFault n
    · exact counted
  · exact h

theorem Moves.quadTransition {n : Ch} (hn : p.steps n) (k : ChanCfg) (a b : Bool) :
    Moves p s (t.quadTransition n k a b) := by
  have held := h.unit n { t.units[n]'n.isLt with heldA := a, heldB := b } rfl (.inr rfl)
  unfold State.quadTransition
  dsimp only
  split
  · exact held
  · exact held.stepCount hn _
  · exact held.stepCount hn _
  · exact held.illegalTransition n

theorem Moves.singleEdge {n : Ch} (hn : p.steps n) : Moves p s (t.singleEdge n) := by
  unfold State.singleEdge
  split
  · exact h
  · exact h.stepCount hn _

theorem Moves.decode {n : Ch} (hn : p.steps n) (k : ChanCfg) (u : ChanUnit) (a b : Bool) :
    Moves p s (t.decode n k u a b) := by
  unfold State.decode
  split
  · split
    · exact h.singleEdge hn
    · exact h
  · split
    · exact h
    · exact h.quadTransition hn k a b

theorem Moves.deliverIndex (n : Ch) : Moves p s (t.deliverIndex n) := by
  unfold State.deliverIndex
  split
  · rename_i x running
    split
    · exact h.completeTravel (by rw [running]; rfl) x
    · exact h
  · exact h

theorem Moves.indexEvent {n : Ch} (hn : p.counts n) {k : ChanCfg} (chan : t.chan? n = some k) :
    Moves p s (t.indexEvent n k) := by
  have seen := h.unit n { t.units[n]'n.isLt with indexSeen := true } rfl (.inr rfl)
  have chan' : (t.setUnit n { t.units[n]'n.isLt with indexSeen := true }).chan? n = some k := chan
  unfold State.indexEvent
  dsimp only
  split
  · exact h
  · exact (seen.reference hn chan').deliverIndex n
  · split
    · exact (seen.reference hn chan').deliverIndex n
    · split
      · exact seen.deliverIndex n
      · exact seen.encoderFault n

/-! #### Weather, line and filing -/

theorem Moves.rainReport (free : p.free .rain) (e : RainEvent) : Moves p s (t.rainReport e) := by
  cases e with
  | none => exact h
  | onset => exact ((h.submitWetness ..).setRefresh _).askReview
  | cease => exact ((h.submitWetness ..).setRefresh _).askReview
  | faultFromWet => exact ((h.setRefresh _).beginCondition (by simp) (p.frees rfl free)).askReview
  | faultFromDry => exact (h.beginCondition (by simp) (p.frees rfl free)).askReview
  | faultEnd => exact (h.endCondition (by simp) (p.frees rfl free)).askReview

theorem Moves.takeRain (free : p.free .rain) (c : RunCfg) (r : Nat) : Moves p s (t.takeRain c r) :=
  ((h.freely free { t with rain := (({ t.rain with latest := some r, latestNow := true } : RainFront).sense c r t.now).1 } rfl
    rfl).rainReport free _).freely free _ rfl rfl

theorem Moves.judgeExclusion (free : p.free .wind) : Moves p s t.judgeExclusion := by
  unfold State.judgeExclusion
  split
  · exact h
  · split
    · exact (((h.freely free { t with wind := { t.wind with excluded := true } } rfl rfl).beginCondition (by simp)
        (p.frees rfl free)).withdrawGust).askReview
    · exact h

omit h in
/-- The end of isolation begins no bar. -/
theorem openBarred_of_unisolated {u : State} (eval : u.eval = t.eval) (port : u.port = t.port) (panel : u.panel = t.panel)
    (isolated : u.handler.isolated = false) (barred : u.openBarred = true) : t.openBarred = true := by
  have free : u.isolationClose = false := by
    unfold State.isolationClose
    rw [isolated]
    split
    · rfl
    · exact Bool.and_false _
  unfold State.openBarred at barred ⊢
  rw [free, Bool.or_false, eval] at barred
  have level : u.closeLevelActive = t.closeLevelActive := by
    unfold State.closeLevelActive
    rw [port, panel]
  rw [level] at barred
  rw [barred, Bool.true_or]

theorem Moves.heard (free : p.free .isolation) : Moves p s t.heard := by
  unfold State.heard
  split
  · exact h
  · rename_i c _
    have timed := h.freely free { t with handler := { t.handler with isolation := some (10 * c.isolationS), isolated := false } } rfl
      rfl (openBarred_of_unisolated rfl rfl rfl rfl)
    dsimp only
    split
    · have ended := (timed.endCondition (f := .isolation) (by simp) (p.frees rfl free)).askReview
      split
      · exact ended.askEval
      · exact ended
    · exact timed

theorem Moves.offer (free : p.free .table) (f : RxFrame) : Moves p s (t.offer f) := by
  unfold State.offer
  split
  · exact h.freely free _ rfl rfl
  · split
    · exact h.freely free _ rfl rfl
    · exact h

theorem Moves.clash (free : p.free .line) : Moves p s t.clash := by
  have marked := h.freely free (t.setLine { t.line with mode := .clashed, faultAck := none }) rfl rfl
  unfold State.clash
  dsimp only
  refine Moves.beginCondition ?_ (by simp) (p.frees rfl free)
  split
  · exact marked
  · exact marked.endCondition (by simp) (p.frees rfl free)

theorem Moves.takeNext (free : p.free .table) : Moves p s t.takeNext := h.freely free _ rfl rfl

theorem Moves.overflowed (free : p.free .overflow) : Moves p s t.overflowed :=
  ((h.freely free { t with handler := { t.handler with lastOverflow := some t.now, overflow := some 600 } } rfl rfl).condition
    .peerOverflow true (by simp) (p.frees rfl free)).raiseFlag _

theorem Moves.fileInto (table : p.free .table) (overflow : p.free .overflow) (f : RxFrame) (gives : Bool)
    (update : PeerEntry → PeerEntry) {told : State → State} (ht : ∀ u, Moves p s u → Moves p s (told u)) :
    Moves p s (t.fileInto f gives update told) := by
  unfold State.fileInto
  split
  · exact ht _ (h.freely table _ rfl rfl)
  · split
    · split
      · exact h.overflowed overflow
      · exact ht _ (h.freely table _ rfl rfl)
    · exact h

theorem Moves.fileWetness (table : p.free .table) (overflow : p.free .overflow) (f : RxFrame) (w : WetnessFields) :
    Moves p s (t.fileWetness f w) := by
  unfold State.fileWetness
  split
  · refine h.fileInto table overflow f _ _ (fun u hu => ?_)
    split <;> split
    · exact hu.askReview
    · exact hu
    · exact hu.askReview
    · exact hu
  · exact h.fileInto table overflow f _ _ (fun u hu => hu.askReview)

theorem Moves.fileGust (table : p.free .table) (overflow : p.free .overflow) (wind : p.free .wind) (f : RxFrame) (g : GustFields) :
    Moves p s (t.fileGust f g) :=
  h.fileInto table overflow f _ _ (fun _ hu => (hu.judgeExclusion wind).askReview)

theorem Moves.fileDraw (table : p.free .table) (overflow : p.free .overflow) (f : RxFrame) (d : DrawFields) :
    Moves p s (t.fileDraw f d) :=
  h.fileInto table overflow f _ _ (fun _ hu => hu.askEval)

theorem Moves.partRemoved (k : PartKind) : Moves p s (t.partRemoved k) := by
  cases k with
  | claim | waiting => exact h.askEval
  | wetness | wind => exact h.askReview

/-! #### Acknowledge -/

theorem Moves.returnFaulted (returns : p.returns) (n : Ch) : Moves p s (State.returnFaulted n t) := by
  unfold State.returnFaulted
  split
  · rename_i o e faulted
    dsimp only
    have unref : Moves p s (if e then t.setReferenced n false else t) := by
      split
      · exact h.referenced n false
      · exact h
    have back : ∀ new, new = .held ∨ new = .still → Moves p s ((if e then t.setReferenced n false else t).setState n new) := by
      intro new hnew
      refine unref.state n new ⟨.inl returns, ?_, ?_⟩ <;> obtain rfl | rfl := hnew <;> simp [ChState.travel?]
    have held := back (if t.maintHolds n && !t.isLearnChannel n then .held else .still) (by split <;> simp)
    have ended : ∀ (c : Bool) (f : FlagId), f ≠ .configStation → f.block = none → ∀ u, Moves p s u → Moves p s (if c then u.endCondition f else u) := by
      intro c f hf hc u hu
      split
      · exact hu.endCondition hf (Licence.freesNone hc)
      · exact hu
    exact ended e _ (by simp) rfl _ (ended o _ (by simp) rfl _ held)
  · exact h

theorem Moves.clearEnded (clears : ∀ i, p.clears i) : Moves p s t.clearEnded := by
  refine h.foldl flagOrder (fun i u hu => ?_)
  split
  · exact hu
  · exact hu.clear i (clears i)

theorem Moves.noteFaultAck (free : p.free .line) : Moves p s t.noteFaultAck := by
  unfold State.noteFaultAck
  split
  · exact h.freely free _ rfl rfl
  · exact h

theorem Moves.acknowledge (free : p.free .line) (returns : p.returns) (clears : ∀ i, p.clears i) : Moves p s t.acknowledge :=
  ((h.eachChannel (fun n _ hu => hu.returnFaulted returns n)).clearEnded clears).noteFaultAck free

/-! #### The panel and the store -/

theorem Moves.selectLearn (old : Option Ch) (n : Ch) : Moves p s (t.selectLearn old n) := by
  have chosen : Moves p s (t.setSession (some (Session.fresh n))).judgeLamp := h.session (some (Session.fresh n)) t.port.store
  unfold State.selectLearn
  cases old with
  | none => exact chosen.becomeLearn n
  | some m => exact (chosen.stopLearn m).becomeLearn n

theorem Moves.learnPress (confirms : ∀ q, t.port.session = some q → q.phase = .awaitingConfirm → p.confirms) :
    Moves p s t.learnPress := by
  unfold State.learnPress
  split
  · split
    · exact h.askRefusal
    · split
      · exact h.askRefusal
      · exact h.selectLearn _ _
  · rename_i q session
    split
    · dsimp only
      split
      · exact h
      · split
        · exact h.askRefusal
        · exact h.selectLearn _ _
    · rename_i phase
      exact h.confirm _ (confirms q session phase)
    · exact h.askRefusal
    all_goals exact h

theorem Moves.learnHold : Moves p s t.learnHold := by
  unfold State.learnHold
  split
  · exact h
  · rename_i q session
    split
    · split
      · exact h.askRefusal
      · rename_i free
        simp only [Bool.or_eq_true, not_or, Bool.not_eq_true] at free
        exact (h.setSession (some { q with phase := .closing }) (by simp [session])).createTravel free.1.1
          (by simp [Travel.TargetOk, learnTravel, newTravel]) (by simp [learnTravel, newTravel])
    · exact h.askRefusal
    · exact h

theorem Moves.openInput (opens : p.opens) (act : Bool) : Moves p s (t.openInput act) := by
  unfold State.openInput
  dsimp only
  split
  · exact h.setPanel _ (judgeChord_lamp _) (bars_judgeChord _ rfl)
  · have released := h.setPanel ({ t.panel with armedOpn := false } : Panel).releaseChord (releaseChord_lamp _) (bars_releaseChord _ rfl)
    split
    · exact released.press (fun _ _ => opens)
    · exact released

theorem Moves.closePressInput (act : Bool) : Moves p s (t.closePressInput act) := by
  unfold State.closePressInput
  dsimp only
  split
  · exact h.setPanel _ (judgeChord_lamp _) (bars_judgeChord _ rfl)
  · have released := h.setPanel ({ t.panel with armedCls := false } : Panel).releaseChord (releaseChord_lamp _) (bars_releaseChord _ rfl)
    split
    · exact released.press (by simp)
    · exact released

theorem Moves.closeLevelInput (act : Bool) : Moves p s (t.closeLevelInput act) := by
  unfold State.closeLevelInput
  split
  · exact (((h.setPanel _ (judgeChord_lamp _) (bars_judgeChord _ rfl)).eachChannel (fun n _ hu => hu.endOpen n)).abortLearn).askReview
  · exact (h.setPanel _ (releaseChord_lamp _) (bars_releaseChord _ rfl)).askReview

theorem Moves.maintInput (act : Bool) : Moves p s (t.maintInput act) := by
  unfold State.maintInput
  split
  · exact h.eachChannel (fun n _ hu => hu.holdForMaint n)
  · exact ((h.setPanel { t.panel with learnArmed := false, learnTimer := none } ⟨rfl, rfl⟩).eachChannel
      (fun n _ hu => hu.releaseFromMaint n)).abortLearn

theorem Moves.learnInput (confirms : ∀ q, t.port.session = some q → q.phase = .awaitingConfirm → p.confirms)
    (act : Bool) : Moves p s (t.learnInput act) := by
  unfold State.learnInput
  split
  · split
    · exact h.setPanel _ ⟨rfl, rfl⟩
    · exact h
  · split
    · exact (h.setPanel { t.panel with learnArmed := false, learnTimer := none } ⟨rfl, rfl⟩).learnPress confirms
    · exact h

theorem Moves.inputChange (c : RunCfg) (i : PanelInput) (opens : i = .opn → p.opens) (bars : i = .cls → p.bars)
    (confirms : i = .learn → ∀ q, t.port.session = some q → q.phase = .awaitingConfirm → p.confirms) (act : Bool) :
    Moves p s (t.inputChange c i act) := by
  have active : Moves p s (t.setPanel { t.panel with active := putLevel t.panel.active i act }) := by
    refine h.aside _ rfl (fun _ => .inr (block_of_outer (by rfl) _)) ?_
    cases i with
    | cls => exact .inl (bars rfl)
    | opn | maint | learn => exact .inr id
  unfold State.inputChange
  dsimp only
  cases i with
  | opn => exact active.openInput (opens rfl) act
  | cls =>
    dsimp only
    split
    · exact active.closeLevelInput act
    · exact active.closePressInput act
  | maint => exact active.maintInput act
  | learn => exact active.learnInput (confirms rfl) act

theorem Moves.setStore (x : Option Store) : Moves p s (t.setStore x) := h.strictly _ rfl rfl

theorem Moves.nextPage (x : Store) : Moves p s (t.nextPage x) := by
  unfold State.nextPage
  split
  · exact h.endSession
  · exact h.setStore _

theorem Moves.pageFailed (x : Store) : Moves p s (t.pageFailed x) := (h.raiseFlag .store).nextPage x

theorem Moves.supplyYield (n : Ch) : Moves p s (State.supplyYield n t) := by
  unfold State.supplyYield
  split
  · rename_i x running
    exact h.state n _ (.keeps (y := x) (by rw [running]; rfl) rfl rfl rfl)
  · rename_i x e backing
    exact h.state n _ (.keeps (y := x) (by rw [backing]; rfl) rfl rfl rfl)
  · exact h

/-- R132: the LINE FAULT condition ends, and an acknowledged flag clears. -/
theorem Moves.endLineFault (free : p.free .line) (clears : t.faultAcked = true → p.clears FlagId.lineFault.index) : Moves p s t.endLineFault := by
  have ended := (h.freely free { t with line := { t.line with faultAck := none } } rfl rfl).endCondition (f := .lineFault) (by simp)
    (p.frees rfl free)
  unfold State.endLineFault
  dsimp only
  split
  · rename_i acked
    exact ended.clear _ (clears acked)
  · exact ended

end operations

end Sys2Proof.Machine

namespace Sys2Proof.Machine
set_option Elab.async false

/-! ### Ordinary commands are chains of `Moves`

The commands outside are those of the transmitter, which move notices between the pool and it, the clock step, the end of a
refusal pattern, which starts the standing pattern anew, and the resets, restarts and ends of reads. -/

/-! The commands that may set a block: the read, a sensor, supply, line, peer table and frame in hand, isolation, overflow. -/

def setsPort : Instr → Bool
  | .commandRestart | .readRetryExpiry | .readTryFailed | .rereadEnd .. | .configReadEnd .. | .warmRestart | .fullReset ..
  | .stationTimeStep => true
  | _ => false

def setsRain : Instr → Bool
  | .rainReading _ | .captureRetryExpiry | .readTryFailed | .rereadEnd .. | .configReadEnd .. | .fullReset ..
  | .stationTimeStep => true
  | _ => false

def setsWind : Instr → Bool
  | .anemPulse _ | .anemLevelFall _ | .windowEnd | .anemSilenceExpiry | .fileGust | .readTryFailed | .rereadEnd ..
  | .configReadEnd .. | .fullReset .. | .stationTimeStep => true
  | _ => false

def setsVane : Instr → Bool
  | .vaneSample .. | .sectorAccepted | .readTryFailed | .rereadEnd .. | .configReadEnd .. | .fullReset .. | .stationTimeStep => true
  | _ => false

def setsSupply : Instr → Bool
  | .msgoodLow | .msgoodHigh | .supplyRecoveryExpiry | .fullReset .. | .stationTimeStep => true
  | _ => false

def setsLine : Instr → Bool
  | .listenOnlyExpiry | .lineIdle | .frameAbandoned _ | .ackHoldExpiry | .frameArrival _ | .commandAcknowledge
  | .warmRestart | .transmissionStart | .frameSuccess | .arbitrationLoss _ | .bitError _ | .bitErrorHoldEnd _
  | .startBitFromAnotherStation | .fullReset .. | .stationTimeStep => true
  | _ => false

def setsTable : Instr → Bool
  | .frameArrival _ | .fileWetness | .fileDraw | .fileGust | .noticeNotFiled | .partExpiry .. | .commandOpen | .commandClose
  | .commandStop | .commandHold | .commandRelease | .commandReport | .commandAcknowledge | .commandRestart | .readTryFailed
  | .rereadEnd .. | .configReadEnd .. | .warmRestart | .fullReset .. | .stationTimeStep => true
  | _ => false

def setsIsolation : Instr → Bool
  | .frameArrival _ | .isolationExpiry | .readTryFailed | .rereadEnd .. | .fullReset .. | .stationTimeStep => true
  | _ => false

def setsOverflow : Instr → Bool
  | .fileWetness | .fileDraw | .fileGust | .overflowConditionEnd | .fullReset .. | .stationTimeStep => true
  | _ => false

def setsClock : Instr → Bool
  | .fullReset .. | .stationTimeStep => true
  | _ => false

/-- The blocks a command may change. -/
def setsBlock (c : Instr) : Block → Bool
  | .port => setsPort c
  | .rain => setsRain c
  | .wind => setsWind c
  | .vane => setsVane c
  | .supply => setsSupply c
  | .line => setsLine c
  | .table => setsTable c
  | .isolation => setsIsolation c
  | .overflow => setsOverflow c
  | .clock => setsClock c

/-- What a command may do beside what every command may. -/
def licenceOf (c : Instr) (s : State) : Licence where
  steps := fun n => ∃ a b i, c = .encoderLevelAccepted n a b i
  counts := fun n => (∃ a b i, c = .encoderLevelAccepted n a b i) ∨
    ∃ p q, c = .pinch n p q ∨ c = .overcurrent n p q ∨ c = .stall n p q
  clears := fun i => c = .commandAcknowledge ∨ c = .ackHoldExpiry ∨ c = .warmRestart ∨
    c = .listenOnlyExpiry ∧ i = FlagId.lineFault.index ∧ s.faultAcked = true
  returns := c = .commandAcknowledge ∨ c = .ackHoldExpiry ∨ c = .readTryFailed ∨ ∃ bytes pins, c = .rereadEnd bytes pins
  opens := c = .commandOpen ∨ ∃ level ms, c = .panelInputChange .opn level ms
  bars := c = .isolationExpiry ∨ ∃ level ms, c = .panelInputChange .cls level ms
  confirms := ∃ level ms q, c = .panelInputChange .learn level ms ∧ s.port.session = some q ∧ q.phase = .awaitingConfirm
  free := fun b => setsBlock c b = true

/-- A command that is a chain of `Moves`. -/
def isOrdinary : Instr → Bool
  | .fullReset .. | .stationTimeStep | .readTryFailed | .configReadEnd .. | .warmRestart | .rereadEnd .. | .transmissionStart
  | .frameSuccess | .arbitrationLoss .. | .bitError .. | .bitErrorHoldEnd .. | .startBitFromAnotherStation | .refusalPatternEnd => false
  | _ => true

@[simp] theorem raiseAt_port (s : State) (i : Fin 21) : (s.raiseAt i).port = s.port := by
  unfold State.raiseAt State.submitAlarm
  split <;> simp

@[simp] theorem clearAt_port (s : State) (i : Fin 21) : (s.clearAt i).port = s.port := by
  unfold State.clearAt State.submitAlarm
  split <;> simp

@[simp] theorem setCount_port (s : State) (n : Ch) (c : Nat) : (s.setCount n c).port = s.port := by
  simp [State.setCount]

@[simp] theorem setReferenced_port (s : State) (n : Ch) (b : Bool) : (s.setReferenced n b).port = s.port := by
  unfold State.setReferenced
  split <;> simp

/-- A change of a channel's state leaves configuration and image. -/
theorem Port.SameStem.config {p q : Port} (h : p.SameStem q) : p.config = q.config ∧ p.image = q.image := by
  obtain ⟨x, rfl, -⟩ := h
  exact ⟨rfl, rfl⟩

/-- A chain without a confirm leaves the running configuration and the image (R211). -/
theorem Moves.config {p : Licence} {s t : State} (h : Moves p s t) (hp : ¬ p.confirms) :
    t.port.config = s.port.config ∧ t.port.image = s.port.image := by
  induction h with
  | refl => exact ⟨rfl, rfl⟩
  | confirm q _ hc => exact absurd hc hp
  | state n new _ _ ih => exact ⟨(setState_port _ _ _).config.1.trans ih.1, (setState_port _ _ _).config.2.trans ih.2⟩
  | condition f b _ _ _ ih => exact ih
  | submitState | submitDraw | report | raise | clear | session | lamp | referenced | mark | unit | step | count =>
    simpa using ‹_ ∧ _›
  | aside u _ hu _ _ ih => exact ⟨(congrArg (·.port.config) hu).trans ih.1, (congrArg (·.port.image) hu).trans ih.2⟩
  | rest _ ih => exact ⟨(kept_config (finish_kept _)).trans ih.1, (kept_image (finish_kept _)).trans ih.2⟩

/-! #### The blocks beside the channels -/

/-- The blocks are kept wherever `State.kept` is. -/
theorem block_of_kept {s t : State} (h : t.kept = s.kept) (b : Block) : t.block b = s.block b := by
  have through (u : State) : u.block b = u.kept.block b := by cases b <;> rfl
  rw [through t, h, ← through s]

/-- A setting of a flag that leaves its mark, or is not of the block, leaves the block. -/
theorem setFlag_block (s : State) (i : Fin 21) (f : Flag) {b : Block}
    (h : (flagAt i).block ≠ some b ∨ f.condition = (s.flags[i]'i.isLt).condition) : (s.setFlag i f).block b = s.block b := by
  have fields : (s.setFlag i f).fields b = s.fields b := by cases b <;> rfl
  unfold State.block
  rw [fields, State.setFlag_flags, marksOf_set b _ i f h]

theorem setCondition_block (s : State) (f : FlagId) (c : Bool) {b : Block} (h : f.block ≠ some b) :
    (s.setCondition f c).block b = s.block b :=
  setFlag_block s f.index _ (.inl (by rwa [flagAt_index]))

@[simp] theorem raiseAt_block (s : State) (i : Fin 21) (b : Block) : (s.raiseAt i).block b = s.block b := by
  unfold State.raiseAt State.submitAlarm
  split
  · rfl
  · rw [block_of_kept (judgeLamp_kept _), block_of_kept (submit_kept _ _ _)]
    exact setFlag_block _ _ _ (.inr rfl)

@[simp] theorem clearAt_block (s : State) (i : Fin 21) (b : Block) : (s.clearAt i).block b = s.block b := by
  rw [block_of_kept (clearAt_kept s i)]
  exact setFlag_block _ _ _ (.inr rfl)

/-- Units, records and the flags' raised marks stand in no block. -/
theorem setUnit_block (s : State) (n : Ch) (u : ChanUnit) (b : Block) : (s.setUnit n u).block b = s.block b :=
  block_of_outer rfl b

theorem setRec_block (s : State) (n : Ch) (r : ChanRec) (b : Block) : (s.setRec n r).block b = s.block b :=
  block_of_outer rfl b

@[simp] theorem setReferenced_block (s : State) (n : Ch) (c : Bool) (b : Block) : (s.setReferenced n c).block b = s.block b := by
  unfold State.setReferenced
  split
  · rfl
  · rw [block_of_kept (judgeLamp_kept _), block_of_kept (checkView_kept _ _), block_of_kept (askReview_kept _), setRec_block]

/-- A confirm changes the port alone. -/
theorem confirmLearn_block (s : State) (q : Session) {b : Block} (h : b ≠ .port) : (s.confirmLearn q).block b = s.block b := by
  unfold State.confirmLearn
  rw [block_of_kept (askReview_kept _), block_of_kept (judgeLamp_kept _)]
  refine block_of_sans (b := .port) (s := s) ?_ h
  rfl

/-- A chain of changes leaves each block that its licence does not free; a confirm changes the port. -/
theorem Moves.block {p : Licence} {s t : State} (h : Moves p s t) {b : Block} (free : ¬ p.free b)
    (confirms : ¬ p.confirms ∨ b ≠ .port) : t.block b = s.block b := by
  induction h with
  | refl => rfl
  | state n new _ _ ih => rw [block_of_kept (setState_kept _ n new), ih]
  | unit n u _ _ _ ih => rw [setUnit_block, ih]
  | step n up _ _ _ ih => rw [block_of_kept (judgeLamp_kept _), setUnit_block, ih]
  | count n k _ _ _ ih => rw [State.setCount, block_of_kept (judgeLamp_kept _), setUnit_block, ih]
  | referenced n c _ ih => rw [setReferenced_block, ih]
  | mark n r _ _ _ ih => rw [setRec_block, ih]
  | submitState n _ ih => rw [block_of_kept (submitState_kept _ n), ih]
  | submitDraw c h _ ih => rw [block_of_kept (submitDraw_kept _ c h), ih]
  | report e r _ _ ih => rw [block_of_kept (submit_kept _ e r), ih]
  | raise i _ ih => rw [raiseAt_block, ih]
  | clear i _ _ ih => rw [clearAt_block, ih]
  | condition f c _ _ hc ih => rw [setCondition_block _ f c (fun e => free (hc b e)), ih]
  | session q x _ ih => rw [block_of_kept (judgeLamp_kept _), ← ih]; exact block_of_outer rfl b
  | confirm q _ hc ih => rw [confirmLearn_block _ q (confirms.resolve_left (fun no => no hc)), ih]
  | lamp _ ih => rw [block_of_kept (judgeLamp_kept _), ih]
  | aside u _ _ ho _ ih => rw [(ho b).resolve_left free, ih]
  | rest _ ih => rw [block_of_kept (finish_kept _), ih]

/-- The next state comes from `s` by a chain of changes that the licence covers. -/
def Moved (p : Licence) (s : State) (r : Result) : Prop := ∀ t, r = .next t → Moves p s t

theorem Moves.moved {p : Licence} {s t : State} (h : Moves p s t) : Moved p s (.next t) := by
  rintro u ⟨⟩
  exact h

theorem Moves.start (p : Licence) (s : State) : Moves p s s := .refl

theorem Moved.same (p : Licence) (s : State) : Moved p s (.next s) := Moves.refl.moved

/-- A command that changes a block alone. -/
theorem Moved.freely {p : Licence} {b : Block} (free : p.free b) {s u : State} (h : u.core = s.core) (h' : u.sans b = s.sans b)
    (bars : u.openBarred = true → s.openBarred = true := by exact id) : Moved p s (.next u) :=
  (Moves.refl.freely free u h h' bars).moved

/-- A command that changes neither this nor what `State.core` holds. -/
theorem Moved.strictly {p : Licence} {s u : State} (h : u.core = s.core) (h' : u.outer = s.outer)
    (bars : u.openBarred = true → s.openBarred = true := by exact id) : Moved p s (.next u) :=
  (Moves.refl.strictly u h h' bars).moved

section commands

variable {p : Licence} (s : State)

/-! #### Channel units -/

/-- The decoder leaves the running configuration. -/
theorem decode_config (n : Ch) (k : ChanCfg) (u : ChanUnit) (a b : Bool) :
    (s.decode n k u a b).port.config = s.port.config :=
  (((Moves.refl (p := { Licence.plain with steps := fun m => m = n })).decode rfl k u a b).config (fun h => h)).1

/-- The levels that the filters of a channel accept at a sample (R3); line B reads 0 in SINGLE mode. -/
def ChanUnit.accept (u : ChanUnit) (k : ChanCfg) (a b i : LineRun) : ChanUnit :=
  { u with
    accA := debounce k.debounceUs u.accA a
    accB := if k.mode = .single then false else debounce k.debounceUs u.accB b
    accI := debounce k.debounceUs u.accI i }

/-- The sample decoded: the step it makes is taken. -/
def State.sampled (s : State) (n : Ch) (k : ChanCfg) (a b i : LineRun) : State :=
  (s.setUnit n ((s.units[n]'n.isLt).accept k a b i)).decode n k (s.units[n]'n.isLt) ((s.units[n]'n.isLt).accept k a b i).accA
    ((s.units[n]'n.isLt).accept k a b i).accB

/-- ENCODER_LEVEL_ACCEPTED on a fitted channel (R3, R9). -/
theorem execEncoderLevelAccepted_of_chan {n : Ch} {k : ChanCfg} (chan : s.chan? n = some k) (a b i : LineRun) :
    execEncoderLevelAccepted n a b i s = .next (if !k.indexMet (s.units[n]'n.isLt).accA (s.units[n]'n.isLt).accB (s.units[n]'n.isLt).accI &&
        k.indexMet ((s.units[n]'n.isLt).accept k a b i).accA ((s.units[n]'n.isLt).accept k a b i).accB ((s.units[n]'n.isLt).accept k a b i).accI
      then (s.sampled n k a b i).indexEvent n k else s.sampled n k a b i).finish := by
  unfold execEncoderLevelAccepted
  simp only [chan]
  rfl

theorem execEncoderLevelAccepted_moved (n : Ch) (hs : p.steps n) (hn : p.counts n) (a b i : LineRun) :
    Moved p s (execEncoderLevelAccepted n a b i s) := by
  cases chan : s.chan? n with
  | none => simpa [execEncoderLevelAccepted, chan] using Moved.same p s
  | some k =>
    have decoded : Moves p s (s.sampled n k a b i) := ((Moves.refl (p := p)).unit n ((s.units[n]'n.isLt).accept k a b i) rfl
      (.inr rfl)).decode hs k _ _ _
    rw [execEncoderLevelAccepted_of_chan s chan]
    refine Moves.moved (Moves.finish ?_)
    split
    · refine decoded.indexEvent hn ?_
      rw [← chan]
      unfold State.chan? State.sampled
      rw [decode_config]
      rfl
    · exact decoded

theorem execPinch_moved (n : Ch) (hn : p.counts n) (x y : Bool) : Moved p s (execPinch n x y s) := by
  unfold execPinch
  split
  · exact ((Moves.start p s).stopMoment hn _ _ _).finish.moved
  · exact .same p s

theorem execOvercurrent_moved (n : Ch) (hn : p.counts n) (x y : Bool) : Moved p s (execOvercurrent n x y s) := by
  unfold execOvercurrent
  split
  · exact ((Moves.start p s).stopMoment hn _ _ _).finish.moved
  · exact .same p s

theorem execStall_moved (n : Ch) (hn : p.counts n) (x y : Bool) : Moved p s (execStall n x y s) := by
  unfold execStall
  split
  · exact ((Moves.start p s).stopMoment hn _ _ _).finish.moved
  · exact .same p s

theorem execCurrentConversion_moved (n : Ch) (r : Fin 1024) : Moved p s (execCurrentConversion n r s) := by
  unfold execCurrentConversion
  split
  · exact Moves.moved ((Moves.start p s).unit n _ rfl (.inr rfl))
  · exact .same p s

theorem Moves.driveStart {t : State} (h : Moves p s t) (n : Ch) (d : Direction) (dead : (t.units[n]'n.isLt).drive.dir? = some d) :
    Moves p s (t.driveStart n d) := by
  have started := h.unit n ((t.units[n]'n.isLt).startDrive d t.now) rfl (.inr (by rw [dead]; rfl))
  have indexed : Moves p s ((t.setUnit n ((t.units[n]'n.isLt).startDrive d t.now)).recordIndex n) := by
    unfold State.recordIndex
    split
    · dsimp only
      split
      · exact started.unit n _ rfl (.inr rfl)
      · exact started
    · exact started
  unfold State.driveStart State.recordMeasure
  split
  · rename_i q x session travel
    split
    · split
      · exact indexed.setSession _ (by rw [session]; rfl)
      · exact indexed.setSession _ (by rw [session]; rfl)
      · exact indexed
    · exact indexed
  · exact indexed

theorem execDeadTimeEnd_moved (n : Ch) : Moved p s (execDeadTimeEnd n s) := by
  unfold execDeadTimeEnd
  split
  · split
    · rename_i d dead
      exact (Moves.driveStart s .refl n d (by rw [dead]; rfl)).moved
    · exact Moves.moved ((Moves.start p s).unit n _ rfl (.inr rfl))
  · exact .same p s

theorem execRampEnd_moved (n : Ch) : Moved p s (execRampEnd n s) := by
  unfold execRampEnd
  split
  · rename_i d r ramp
    split
    · refine Moves.moved ((Moves.start p s).unit n { s.units[n]'n.isLt with drive := .full d } rfl (.inr ?_))
      rw [ramp]
      rfl
    · exact .same p s
  · exact .same p s

theorem execCoastWindowClose_moved (n : Ch) : Moved p s (execCoastWindowClose n s) := by
  unfold execCoastWindowClose
  split
  · exact Moves.moved ((Moves.start p s).unit n _ rfl (.inr rfl))
  · exact .same p s

theorem execPauseExpiry_moved (n : Ch) : Moved p s (execPauseExpiry n s) := by
  unfold execPauseExpiry
  split
  · rename_i x paused
    split
    · refine Moves.moved (Moves.finish (Moves.askEval ((Moves.start p s).state n _ (.keeps (y := x) ?_ rfl rfl rfl))))
      rw [paused]
      rfl
    · exact ((Moves.start p s).toStill (by rw [paused]; rfl)).finish.moved
  · exact .same p s

/-! #### Supply, evaluator and arbiter -/

theorem execMsgoodLow_moved (free : p.free .supply) : Moved p s (execMsgoodLow s) := by
  unfold execMsgoodLow
  split
  · exact .same p s
  · have low := ((Moves.start p s).freely free (s.setSupply .low) rfl rfl).condition .supplyLow true (by simp) (p.frees rfl free)
    exact ((((low.raiseFlag .supplyLow).eachChannel (fun n _ hu => hu.supplyYield n)).abortLearn).finish).moved

theorem execMsgoodHigh_moved (free : p.free .supply) : Moved p s (execMsgoodHigh s) := by
  have recovering := (Moves.start p s).freely free (s.setSupply (.recovering 20)) rfl rfl
  unfold execMsgoodHigh
  split
  · exact recovering.moved
  · exact (recovering.condition .supplyLow true (by simp) (p.frees rfl free)).moved
  · exact .same p s

theorem execSupplyRecoveryExpiry_moved (free : p.free .supply) : Moved p s (execSupplyRecoveryExpiry s) := by
  unfold execSupplyRecoveryExpiry
  split
  · exact ((((Moves.start p s).freely free (s.setSupply .good) rfl rfl).endCondition (f := .supplyLow) (by simp) (p.frees rfl free)).askEval.finish).moved
  · exact .same p s

theorem execTimedReview_moved : Moved p s (execTimedReview s) := by
  unfold execTimedReview
  split
  · exact ((Moves.start p s).strictly { s with eval := { s.eval with timer := some 10 } } rfl rfl).askReview.finish.moved
  · exact .same p s

omit s in
/-- The end of the reopen hold begins no bar. -/
theorem openBarred_of_unheld {s : State} (barred : ({ s with eval := { s.eval with reopen := none } } : State).openBarred = true) :
    s.openBarred = true := by
  have barred : (s.eval.threat || false || s.closeLevelActive || s.isolationClose) = true := barred
  unfold State.openBarred
  simp only [Bool.or_false, Bool.or_eq_true] at barred ⊢
  tauto

theorem execReopenHoldExpiry_moved : Moved p s (execReopenHoldExpiry s) := by
  unfold execReopenHoldExpiry
  split
  · refine ((Moves.start p s).strictly { s with eval := { s.eval with reopen := none } } rfl rfl ?_).askReview.finish.moved
    exact openBarred_of_unheld
  · exact .same p s

theorem execHoldOnExpiry_moved (n : Ch) : Moved p s (execHoldOnExpiry n s) := by
  unfold execHoldOnExpiry
  split
  · exact ((Moves.start p s).strictly { s with arb := { s.arb with holdOn := s.arb.holdOn.set n none } } rfl rfl).askEval.finish.moved
  · exact .same p s

theorem execListeningIntervalEnd_moved : Moved p s (execListeningIntervalEnd s) := by
  unfold execListeningIntervalEnd
  split
  · exact ((Moves.start p s).strictly { s with arb := { s.arb with listening := none } } rfl rfl).askEval.finish.moved
  · exact .same p s

theorem execDrawPeriodExpiry_moved : Moved p s (execDrawPeriodExpiry s) := by
  unfold execDrawPeriodExpiry
  split
  · split
    · exact .same p s
    · split
      · exact ((Moves.start p s).submitDraw _ _).moved
      · exact .same p s
  · exact .same p s

/-! #### Weather -/

theorem execRainReading_moved (free : p.free .rain) (r : Fin 1024) : Moved p s (execRainReading r s) := by
  unfold execRainReading
  split
  · exact .same p s
  · exact ((Moves.start p s).takeRain free _ _).finish.moved

theorem execCaptureRetryExpiry_moved (free : p.free .rain) : Moved p s (execCaptureRetryExpiry s) := by
  unfold execCaptureRetryExpiry
  split
  · dsimp only
    split
    · split
      · exact Moved.freely free rfl rfl
      · exact Moved.freely free rfl rfl
    · exact Moved.freely free rfl rfl
  · exact .same p s

theorem execWetnessRefreshExpiry_moved : Moved p s (execWetnessRefreshExpiry s) := by
  unfold execWetnessRefreshExpiry
  split
  · exact (((Moves.start p s).submitWetness _ _ _).setRefresh _).moved
  · exact .same p s

theorem execAnemPulse_moved (free : p.free .wind) (us : Nat) : Moved p s (execAnemPulse us s) := by
  unfold execAnemPulse
  split
  · exact .same p s
  · have pulsed := (Moves.start p s).freely free { s with wind := s.wind.pulse } rfl rfl
    split
    · dsimp only
      split
      · exact ((pulsed.endCondition (f := .windSensor) (by simp) (p.frees rfl free)).submitGust).askReview.finish.moved
      · exact pulsed.moved
    · exact .same p s

theorem execAnemLevelFall_moved (free : p.free .wind) (us : Nat) : Moved p s (execAnemLevelFall us s) := by
  unfold execAnemLevelFall
  split
  · exact .same p s
  · split
    · exact Moved.freely free rfl rfl
    · exact .same p s

theorem execWindowEnd_moved (free : p.free .wind) : Moved p s (execWindowEnd s) := by
  unfold execWindowEnd
  split
  · exact .same p s
  · rename_i c _
    split
    · exact ((Moves.start p s).freely free { s with wind := s.wind.endWindow c.k } rfl rfl).handReport.finish.moved
    · exact .same p s

theorem execVaneSample_moved (free : p.free .vane) (x y z : Bool) : Moved p s (execVaneSample x y z s) := by
  unfold execVaneSample
  split
  · exact .same p s
  · exact Moved.freely free rfl rfl

theorem execSectorAccepted_moved (free : p.free .vane) : Moved p s (execSectorAccepted s) := by
  unfold execSectorAccepted
  split
  · rename_i d age _ _
    split
    · exact ((Moves.start p s).freely free { s with vane := { sector := d, candidate := none } } rfl rfl).handReport.finish.moved
    · exact .same p s
  · exact .same p s

theorem execAnemSilenceExpiry_moved (free : p.free .wind) : Moved p s (execAnemSilenceExpiry s) := by
  unfold execAnemSilenceExpiry
  split
  · exact ((Moves.start p s).freely free { s with wind := { s.wind with silence := none, silencePassed := true } }
      rfl rfl).judgeExclusion free |>.finish.moved
  · exact .same p s

theorem execGustPeriodExpiry_moved : Moved p s (execGustPeriodExpiry s) := by
  unfold execGustPeriodExpiry
  split
  · exact (Moves.start p s).submitGust.moved
  · exact .same p s

/-! #### Line and isolation -/

theorem execListenOnlyExpiry_moved (free : p.free .line) (clears : s.faultAcked = true → p.clears FlagId.lineFault.index) :
    Moved p s (execListenOnlyExpiry s) := by
  unfold execListenOnlyExpiry
  split
  · have ended := ((Moves.start p s).freely free (s.setLine { s.line with mode := .normal, failures := 0 })
      rfl rfl).endLineFault free clears
    dsimp only
    refine Moves.moved (Moves.finish ?_)
    split
    · exact ended
    · exact ended.askEval
  · exact .same p s

theorem execLineIdle_moved (free : p.free .line) : Moved p s (execLineIdle s) := by
  unfold execLineIdle
  split
  · exact Moved.freely free rfl rfl
  · exact .same p s

theorem execFrameAbandoned_moved (free : p.free .line) (bits : List Bool) : Moved p s (execFrameAbandoned bits s) := by
  unfold execFrameAbandoned
  split
  · exact Moved.freely free rfl rfl
  · exact .same p s

theorem execFrameArrival_moved (free : p.free .line) (table : p.free .table) (isolation : p.free .isolation) (bits : List Bool) : Moved p s (execFrameArrival bits s) := by
  unfold execFrameArrival
  split
  · rename_i a origin kind payload _ _ _
    split
    · have received := (Moves.start p s).freely free (s.setLine { s.line with receiving := false }) rfl rfl
      dsimp only
      split
      · exact (received.clash free).finish.moved
      · exact ((received.heard isolation).offer table _).finish.moved
    · exact .same p s
  · exact .same p s

theorem execIsolationExpiry_moved (free : p.free .isolation) (bars : p.bars) : Moved p s (execIsolationExpiry s) := by
  unfold execIsolationExpiry
  split
  · exact .same p s
  · split
    · have alone (d : Block) : p.free d ∨
          ({ s with handler := { s.handler with isolation := none, isolated := true } } : State).block d = s.block d := by
        by_cases e : d = .isolation
        · exact .inl (e ▸ free)
        · exact .inr (block_of_sans (b := .isolation) (s := s) (by rfl) e)
      have isolated := ((Moves.start p s).aside { s with handler := { s.handler with isolation := none, isolated := true } } rfl
        alone (.inl bars)).beginCondition (f := .isolation) (by simp) (p.frees rfl free)
      refine Moves.moved (Moves.finish (Moves.askReview ?_))
      split
      · exact (isolated.eachChannel (fun n _ hu => hu.endOpen n)).abortLearn
      · exact isolated
    · exact .same p s

/-! #### Filing -/

theorem execFileWetness_moved (free : p.free .table) (overflow : p.free .overflow) : Moved p s (execFileWetness s) := by
  unfold execFileWetness
  split
  · exact .same p s
  · split
    · exact ((Moves.start p s).takeNext free).moved
    · exact ((Moves.start p s).fileWetness free overflow _ _).finish.takeNext free |>.moved

theorem execFileGust_moved (free : p.free .table) (overflow : p.free .overflow) (wind : p.free .wind) : Moved p s (execFileGust s) := by
  unfold execFileGust
  split
  · exact .same p s
  · split
    · exact ((Moves.start p s).takeNext free).moved
    · exact ((Moves.start p s).fileGust free overflow wind _ _).finish.takeNext free |>.moved

theorem execFileDraw_moved (free : p.free .table) (overflow : p.free .overflow) : Moved p s (execFileDraw s) := by
  unfold execFileDraw
  split
  · exact .same p s
  · split
    · exact ((Moves.start p s).takeNext free).moved
    · exact ((Moves.start p s).fileDraw free overflow _ _).finish.takeNext free |>.moved

theorem execNoticeNotFiled_moved (free : p.free .table) : Moved p s (execNoticeNotFiled s) := by
  unfold execNoticeNotFiled
  split
  · exact .same p s
  · split
    · exact ((Moves.start p s).takeNext free).moved
    · exact .same p s

theorem execOverflowConditionEnd_moved (free : p.free .overflow) : Moved p s (execOverflowConditionEnd s) := by
  unfold execOverflowConditionEnd
  split
  · exact (((Moves.start p s).freely free { s with handler := { s.handler with overflow := none } } rfl rfl).endCondition
      (f := .peerOverflow) (by simp) (p.frees rfl free)).moved
  · exact .same p s

theorem execPartExpiry_moved (free : p.free .table) (origin : Nat) (part : PartKind) : Moved p s (execPartExpiry origin part s) := by
  unfold execPartExpiry
  split
  · exact .same p s
  · rename_i e _
    split
    · exact (((Moves.start p s).freely free (s.setPeers (peerPut (e.dropPart part) s.handler.peers)) rfl rfl).partRemoved part).finish.moved
    · exact .same p s

theorem execStatePeriodExpiry_moved (n : Ch) : Moved p s (execStatePeriodExpiry n s) := by
  unfold execStatePeriodExpiry
  split
  · exact ((Moves.start p s).submitState n).moved
  · exact .same p s

/-! #### COMMAND notices -/

theorem Moves.obeyedEnd (free : p.free .table) {t : State} (h : Moves p s t) : Moved p s t.obeyedEnd := h.finish.takeNext free |>.moved

theorem execCommandOpen_moved (free : p.free .table) (opens : p.opens) : Moved p s (execCommandOpen s) := by
  unfold execCommandOpen
  split
  · exact .same p s
  · exact Moves.obeyedEnd s free ((Moves.start p s).channelOrder _ (fun _ _ => opens))

theorem execCommandClose_moved (free : p.free .table) : Moved p s (execCommandClose s) := by
  unfold execCommandClose
  split
  · exact .same p s
  · exact Moves.obeyedEnd s free ((Moves.start p s).channelOrder _ (by simp))

theorem execCommandStop_moved (free : p.free .table) : Moved p s (execCommandStop s) := by
  unfold execCommandStop
  split
  · exact .same p s
  · exact Moves.obeyedEnd s free ((Moves.start p s).channelOrder _ (by simp))

theorem execCommandHold_moved (free : p.free .table) : Moved p s (execCommandHold s) := by
  unfold execCommandHold
  split
  · exact .same p s
  · exact Moves.obeyedEnd s free ((Moves.start p s).channelOrder _ (by simp))

theorem execCommandRelease_moved (free : p.free .table) : Moved p s (execCommandRelease s) := by
  unfold execCommandRelease
  split
  · exact .same p s
  · exact Moves.obeyedEnd s free ((Moves.start p s).channelOrder _ (by simp))

theorem execCommandAcknowledge_moved (free : p.free .table) (line : p.free .line) (returns : p.returns) (clears : ∀ i, p.clears i) :
    Moved p s (execCommandAcknowledge s) := by
  unfold execCommandAcknowledge
  split
  · exact .same p s
  · exact Moves.obeyedEnd s free ((Moves.start p s).acknowledge line returns clears)

theorem execCommandReport_moved (free : p.free .table) : Moved p s (execCommandReport s) := by
  unfold execCommandReport
  split
  · exact .same p s
  · exact Moves.obeyedEnd s free ((Moves.start p s).foldl _ (fun n _ hu => hu.submitState n))

theorem execCommandRestart_moved (free : p.free .table) (port : p.free .port) : Moved p s (execCommandRestart s) := by
  unfold execCommandRestart
  split
  · exact .same p s
  · exact Moves.obeyedEnd s free ((Moves.start p s).freely port { s with port := { s.port with restart := true } } rfl rfl)

/-! #### Panel interface and store -/

theorem execPanelInputChange_moved (i : PanelInput) (opens : i = .opn → p.opens) (bars : i = .cls → p.bars)
    (confirms : i = .learn → ∀ q, s.port.session = some q → q.phase = .awaitingConfirm → p.confirms) (level : Bool) (ms : Nat) :
    Moved p s (execPanelInputChange i level ms s) := by
  unfold execPanelInputChange
  split
  · have accepted := (Moves.start p s).setPanel { s.panel with levels := putLevel s.panel.levels i level } ⟨rfl, rfl⟩
    dsimp only
    split
    · exact accepted.moved
    · split
      · exact (accepted.inputChange _ i opens bars confirms _).finish.moved
      · exact accepted.moved
  · exact .same p s

theorem execLearnHoldExpiry_moved : Moved p s (execLearnHoldExpiry s) := by
  unfold execLearnHoldExpiry
  split
  · exact ((Moves.start p s).setPanel { s.panel with learnArmed := false, learnTimer := none } ⟨rfl, rfl⟩).learnHold.finish.moved
  · exact .same p s

theorem execAckHoldExpiry_moved (free : p.free .line) (returns : p.returns) (clears : ∀ i, p.clears i) : Moved p s (execAckHoldExpiry s) := by
  unfold execAckHoldExpiry
  split
  · exact (((Moves.start p s).setPanel { s.panel with ackTimer := none, ackGiven := true } ⟨rfl, rfl⟩).acknowledge free returns
      clears).finish.moved
  · exact .same p s

theorem execConfirmDeadline_moved : Moved p s (execConfirmDeadline s) := by
  unfold execConfirmDeadline
  split
  · exact .same p s
  · split
    · exact (Moves.start p s).abortLearn.finish.moved
    · exact .same p s

theorem execPageWriteEnd_moved (acked : Bool) : Moved p s (execPageWriteEnd acked s) := by
  unfold execPageWriteEnd
  split
  · exact .same p s
  · split
    · exact .same p s
    · split
      · exact Moved.strictly rfl rfl
      · exact ((Moves.start p s).pageFailed _).finish.moved

theorem execPollExpiry_moved (acked : Bool) : Moved p s (execPollExpiry acked s) := by
  unfold execPollExpiry
  split
  · exact .same p s
  · split
    · dsimp only
      split
      · exact ((Moves.start p s).nextPage _).finish.moved
      · split
        · exact Moved.strictly rfl rfl
        · exact ((Moves.start p s).pageFailed _).finish.moved
    · exact .same p s

theorem execReadRetryExpiry_moved (free : p.free .port) : Moved p s (execReadRetryExpiry s) := by
  unfold execReadRetryExpiry
  split
  · exact Moved.freely free rfl rfl
  · exact .same p s

end commands

/-- Every ordinary command is a chain of changes that its licence covers. -/
theorem exec_moves {c : Instr} (hc : isOrdinary c = true) {s t : State} (h : exec c s = .next t) :
    Moves (licenceOf c s) s t := by
  have stop (n : Ch) (p q : Bool) (hc : c = .pinch n p q ∨ c = .overcurrent n p q ∨ c = .stall n p q) :
      (licenceOf c s).counts n := .inr ⟨p, q, hc⟩
  cases c with
  | fullReset | stationTimeStep | readTryFailed | configReadEnd | warmRestart | rereadEnd | transmissionStart
  | frameSuccess | arbitrationLoss | bitError | bitErrorHoldEnd | startBitFromAnotherStation | refusalPatternEnd => cases hc
  | readRetryExpiry => exact execReadRetryExpiry_moved (p := licenceOf _ s) s (by exact rfl) t h
  | commandRestart => exact execCommandRestart_moved (p := licenceOf _ s) s (by exact rfl) (by exact rfl) t h
  | encoderLevelAccepted n a b idx => exact execEncoderLevelAccepted_moved (p := licenceOf _ s) s n ⟨a, b, idx, rfl⟩ (.inl ⟨a, b, idx, rfl⟩) a b idx t h
  | pinch n overcur stall => exact execPinch_moved s n (stop n _ _ (.inl rfl)) overcur stall t h
  | overcurrent n pinch stall => exact execOvercurrent_moved s n (stop n _ _ (.inr (.inl rfl))) pinch stall t h
  | stall n pinch overcur => exact execStall_moved s n (stop n _ _ (.inr (.inr rfl))) pinch overcur t h
  | deadTimeEnd n => exact execDeadTimeEnd_moved s n t h
  | rampEnd n => exact execRampEnd_moved s n t h
  | coastWindowClose n => exact execCoastWindowClose_moved s n t h
  | pauseExpiry n => exact execPauseExpiry_moved s n t h
  | msgoodLow => exact execMsgoodLow_moved (p := licenceOf _ s) s (by exact rfl) t h
  | msgoodHigh => exact execMsgoodHigh_moved (p := licenceOf _ s) s (by exact rfl) t h
  | supplyRecoveryExpiry => exact execSupplyRecoveryExpiry_moved (p := licenceOf _ s) s (by exact rfl) t h
  | timedReview => exact execTimedReview_moved s t h
  | reopenHoldExpiry => exact execReopenHoldExpiry_moved s t h
  | holdOnExpiry n => exact execHoldOnExpiry_moved s n t h
  | listeningIntervalEnd => exact execListeningIntervalEnd_moved s t h
  | drawPeriodExpiry => exact execDrawPeriodExpiry_moved s t h
  | rainReading reading => exact execRainReading_moved (p := licenceOf _ s) s (by exact rfl) reading t h
  | captureRetryExpiry => exact execCaptureRetryExpiry_moved (p := licenceOf _ s) s (by exact rfl) t h
  | wetnessRefreshExpiry => exact execWetnessRefreshExpiry_moved s t h
  | anemPulse heldUs => exact execAnemPulse_moved (p := licenceOf _ s) s (by exact rfl) heldUs t h
  | windowEnd => exact execWindowEnd_moved (p := licenceOf _ s) s (by exact rfl) t h
  | vaneSample van2 van1 van0 => exact execVaneSample_moved (p := licenceOf _ s) s (by exact rfl) van2 van1 van0 t h
  | sectorAccepted => exact execSectorAccepted_moved (p := licenceOf _ s) s (by exact rfl) t h
  | anemSilenceExpiry => exact execAnemSilenceExpiry_moved (p := licenceOf _ s) s (by exact rfl) t h
  | gustPeriodExpiry => exact execGustPeriodExpiry_moved s t h
  | listenOnlyExpiry => exact execListenOnlyExpiry_moved (p := licenceOf _ s) s (by exact rfl) (fun acked => .inr (.inr (.inr ⟨rfl, rfl, acked⟩))) t h
  | frameArrival bits => exact execFrameArrival_moved (p := licenceOf _ s) s (by exact rfl) (by exact rfl) (by exact rfl) bits t h
  | isolationExpiry => exact execIsolationExpiry_moved (p := licenceOf _ s) s (by exact rfl) (.inl rfl) t h
  | fileWetness => exact execFileWetness_moved (p := licenceOf _ s) s (by exact rfl) (by exact rfl) t h
  | fileGust => exact execFileGust_moved (p := licenceOf _ s) s (by exact rfl) (by exact rfl) (by exact rfl) t h
  | fileDraw => exact execFileDraw_moved (p := licenceOf _ s) s (by exact rfl) (by exact rfl) t h
  | overflowConditionEnd => exact execOverflowConditionEnd_moved (p := licenceOf _ s) s (by exact rfl) t h
  | partExpiry origin part => exact execPartExpiry_moved (p := licenceOf _ s) s (by exact rfl) origin part t h
  | commandOpen => exact execCommandOpen_moved (p := licenceOf _ s) s (by exact rfl) (.inl rfl) t h
  | commandClose => exact execCommandClose_moved (p := licenceOf _ s) s (by exact rfl) t h
  | commandStop => exact execCommandStop_moved (p := licenceOf _ s) s (by exact rfl) t h
  | commandHold => exact execCommandHold_moved (p := licenceOf _ s) s (by exact rfl) t h
  | commandRelease => exact execCommandRelease_moved (p := licenceOf _ s) s (by exact rfl) t h
  | commandAcknowledge => exact execCommandAcknowledge_moved (p := licenceOf _ s) s (by exact rfl) (by exact rfl) (.inl rfl) (fun _ => .inl rfl) t h
  | commandReport => exact execCommandReport_moved (p := licenceOf _ s) s (by exact rfl) t h
  | statePeriodExpiry n => exact execStatePeriodExpiry_moved s n t h
  | panelInputChange input level heldMs =>
    refine execPanelInputChange_moved s input ?_ ?_ ?_ level heldMs t h
    · rintro rfl
      exact .inr ⟨level, heldMs, rfl⟩
    · rintro rfl
      exact .inr ⟨level, heldMs, rfl⟩
    · rintro rfl q session phase
      exact ⟨level, heldMs, q, rfl, session, phase⟩
  | learnHoldExpiry => exact execLearnHoldExpiry_moved s t h
  | ackHoldExpiry => exact execAckHoldExpiry_moved (p := licenceOf _ s) s (by exact rfl) (.inr (.inl rfl)) (fun _ => .inr (.inl rfl)) t h
  | confirmDeadline => exact execConfirmDeadline_moved s t h
  | pageWriteEnd acked => exact execPageWriteEnd_moved s acked t h
  | pollExpiry acked => exact execPollExpiry_moved s acked t h
  | lineIdle => exact execLineIdle_moved (p := licenceOf _ s) s (by exact rfl) t h
  | frameAbandoned bits => exact execFrameAbandoned_moved (p := licenceOf _ s) s (by exact rfl) bits t h
  | noticeNotFiled => exact execNoticeNotFiled_moved (p := licenceOf _ s) s (by exact rfl) t h
  | currentConversion n reading => exact execCurrentConversion_moved s n reading t h
  | anemLevelFall heldUs => exact execAnemLevelFall_moved (p := licenceOf _ s) s (by exact rfl) heldUs t h

end Sys2Proof.Machine

namespace Sys2Proof.Machine
set_option Elab.async false

/-! ### Units and channel states

What every command but the full reset and the clock step does to the channel units and the channel states: the same kinds of
changes, also at the transmitter, at a restart and at the ends of reads (`Shifts`). -/

/-- `t` comes from `s` by a chain of changes of units and channel states that the licence covers, and of anything else. -/
inductive Shifts (p : Licence) (s : State) : State → Prop
  | refl : Shifts p s s
  | state {t : State} (n : Ch) (new : ChState) : Shifts p s t → ChState.Follows p false (t.stateOf n) new →
      Shifts p s (t.setState n new)
  | unit {t : State} (n : Ch) (u : ChanUnit) : Shifts p s t → u.count = (t.units[n]'n.isLt).count →
      u.drive.dir? = none ∨ u.drive.dir? = (t.units[n]'n.isLt).drive.dir? → Shifts p s (t.setUnit n u)
  | step {t : State} (n : Ch) (up : Bool) : Shifts p s t → p.steps n → Shifts p s (t.setUnit n ((t.units[n]'n.isLt).step up t.now))
  | count {t : State} (n : Ch) (c : Nat) : Shifts p s t → p.counts n →
      Shifts p s (t.setUnit n { t.units[n]'n.isLt with count := c })
  | aside {t : State} (u : State) : Shifts p s t → u.units = t.units → (∀ m, u.stateOf m = t.stateOf m) → Shifts p s u

/-! #### What the operations leave of units and records -/

@[simp] theorem raiseAt_units (s : State) (i : Fin 21) : (s.raiseAt i).units = s.units := by
  unfold State.raiseAt State.submitAlarm
  split <;> simp

@[simp] theorem raiseAt_recs (s : State) (i : Fin 21) : (s.raiseAt i).recs = s.recs := by
  unfold State.raiseAt State.submitAlarm
  split <;> simp

@[simp] theorem clearAt_units (s : State) (i : Fin 21) : (s.clearAt i).units = s.units := by
  unfold State.clearAt State.submitAlarm
  split <;> simp

@[simp] theorem clearAt_recs (s : State) (i : Fin 21) : (s.clearAt i).recs = s.recs := by
  unfold State.clearAt State.submitAlarm
  split <;> simp

@[simp] theorem submitDraw_units (s : State) (c : DrawContent) (h : Nat) : (s.submitDraw c h).units = s.units := by
  simp [State.submitDraw]

@[simp] theorem submitDraw_recs (s : State) (c : DrawContent) (h : Nat) : (s.submitDraw c h).recs = s.recs := by
  simp [State.submitDraw]

@[simp] theorem confirmLearn_units (s : State) (q : Session) : (s.confirmLearn q).units = s.units := by
  simp [State.confirmLearn]

@[simp] theorem confirmLearn_recs (s : State) (q : Session) : (s.confirmLearn q).recs = s.recs := by
  simp [State.confirmLearn]

@[simp] theorem setReferenced_units (s : State) (n : Ch) (b : Bool) : (s.setReferenced n b).units = s.units := by
  unfold State.setReferenced
  split <;> simp

@[simp] theorem beginCondition_units (s : State) (f : FlagId) : (s.beginCondition f).units = s.units := by
  unfold State.beginCondition State.raise
  split
  · rfl
  · simp [State.setCondition]

@[simp] theorem beginCondition_recs (s : State) (f : FlagId) : (s.beginCondition f).recs = s.recs := by
  unfold State.beginCondition State.raise
  split
  · rfl
  · simp [State.setCondition]

theorem stateOf_of_recs {s t : State} (h : t.recs = s.recs) (m : Ch) : t.stateOf m = s.stateOf m := by
  unfold State.stateOf
  rw [h]

theorem stateOf_setRec (s : State) (n m : Ch) (r : ChanRec) (h : r.state = (s.recs[n]'n.isLt).state) :
    (s.setRec n r).stateOf m = s.stateOf m := by
  unfold State.stateOf
  by_cases hm : m = n
  · subst hm
    simpa using h
  · have : n.val ≠ m.val := fun e => hm (Fin.ext e.symm)
    simp [this]

section

variable {p : Licence} {s t : State}

/-- A change that leaves units and records. -/
theorem Shifts.frame (h : Shifts p s t) {u : State} (units : u.units = t.units) (recs : u.recs = t.recs) : Shifts p s u :=
  h.aside u units (stateOf_of_recs recs)

/-- Reviews and evaluations change channels by `Turn` and `Created`. -/
theorem Shifts.settles (h : Shifts p s t) {r : Prop} {l : Option Ch} {u : State} (hu : Settles r l t u) : Shifts p s u := by
  induction hu with
  | refl => exact h
  | turn _ hn ih => exact ih.state _ _ hn.follows
  | @create u n x _ hn ih =>
    have taken := (ih.unit n { u.units[n]'n.isLt with illegal := 0, indexRecord := none } rfl (.inr rfl)).state n (.waiting x)
      (.takes hn.isFaulted rfl hn.targetOk (fun hk => absurd hk hn.not_opn))
    exact taken.frame (State.askEval_units _) (State.askEval_recs _)
  | ended _ _ _ _ _ ih => exact ih.frame (by simp) (by simp)
  | marks v e _ ih => exact ih.frame rfl rfl
  | review c _ _ _ _ ih => exact ih.frame rfl rfl
  | aside d h _ ih => exact ih.frame rfl rfl
  | draw c _ _ ih => exact ih.frame (by simp) (by simp)

theorem Moves.shifts (h : Moves p s t) : Shifts p s t := by
  induction h with
  | refl => exact .refl
  | state n new _ hf ih => exact ih.state n new hf.unbarred
  | unit n u _ hc hd ih => exact ih.unit n u hc hd
  | step n up _ hc _ ih => exact (ih.step n up hc).frame (by simp) (by simp)
  | count n k _ hc _ ih => exact (ih.count n k.c hc).frame (by simp [State.setCount]) (by simp [State.setCount])
  | referenced n b _ ih => exact ih.aside _ (by simp) (setReferenced_stateOf _ n · b)
  | mark n r _ hs _ ih => exact ih.aside _ rfl (stateOf_setRec _ n · r hs)
  | submitState | submitDraw | report | raise | clear | confirm => exact Shifts.frame ‹_› (by simp) (by simp)
  | condition f b _ _ _ ih => exact ih.frame rfl rfl
  | session q x _ ih => exact ih.frame (by simp) (by simp)
  | lamp _ ih => exact ih.frame (by simp) (by simp)
  | aside u _ hu _ _ ih => exact ih.frame (congrArg (·.units) hu) (congrArg (·.recs) hu)
  | rest _ ih => exact ih.settles (finish_settles _)

theorem Shifts.trans {u : State} (h : Shifts p s t) (h' : Shifts p t u) : Shifts p s u := by
  induction h' with
  | refl => exact h
  | state n new _ hf ih => exact ih.state n new hf
  | unit n u _ hc hd ih => exact ih.unit n u hc hd
  | step n up _ hc ih => exact ih.step n up hc
  | count n c _ hc ih => exact ih.count n c hc
  | aside u _ hu hs ih => exact ih.aside u hu hs

theorem Shifts.moves {u : State} (h : Shifts p s t) (m : Moves p t u) : Shifts p s u := h.trans m.shifts

/-! #### What a chain keeps -/

/-- What the changes of a channel's state keep of it, a chain keeps. -/
theorem Shifts.keeps (h : Shifts p s t) (m : Ch) {Q : ChState → Prop} (init : Q (s.stateOf m))
    (change : ∀ old new, ChState.Follows p false old new → Q old → Q new) : Q (t.stateOf m) := by
  induction h with
  | refl => exact init
  | state n new _ hf ih =>
    by_cases hm : m = n
    · subst hm
      rw [stateOf_setState]
      exact change _ _ hf ih
    · rwa [stateOf_setState_ne _ _ _ _ hm]
  | unit | step | count => assumption
  | aside u _ _ hs ih => rwa [hs]

/-- R35, R38: FAULTED is left by licence alone. -/
theorem Shifts.faulted (h : Shifts p s t) (m : Ch) (hp : ¬ p.returns) (hs : (s.stateOf m).isFaulted = true) :
    (t.stateOf m).isFaulted = true :=
  h.keeps m (Q := fun c => c.isFaulted = true) hs (fun _ _ hf ho => (hf.faulted.resolve_left hp) ho)

/-- R23: a target on OPEN and REDUCE travels alone. -/
theorem Shifts.targetsOk (h : Shifts p s t) (hs : s.TargetsOk) : t.TargetsOk := by
  intro m
  refine h.keeps m (Q := fun c => ∀ x, c.travel? = some x → x.TargetOk) (hs m) (fun old new hf ho x hx => ?_)
  obtain ok | ⟨y, hy, kind, target⟩ := hf.target x hx
  · exact ok
  · unfold Travel.TargetOk
    rw [kind, target]
    exact ho y hy

/-- A setting of a unit leaves the others. -/
theorem setUnit_unit (s : State) (n m : Ch) (u : ChanUnit) : (s.setUnit n u).units[m] = if m = n then u else s.units[m]'m.isLt := by
  by_cases hm : m = n
  · subst hm
    simp
  · have : n.val ≠ m.val := fun e => hm (Fin.ext e.symm)
    simp [this, hm]

/-- A change of a channel's state leaves all counts. -/
theorem setState_count (s : State) (n m : Ch) (new : ChState) : ((s.setState n new).units[m]).count = (s.units[m]'m.isLt).count := by
  rw [← kept_count (setState_kept s n new) m]

/-- R2: a count that the licence does not name stays. -/
theorem Shifts.count_eq (h : Shifts p s t) (m : Ch) (steps : ¬ p.steps m) (counts : ¬ p.counts m) :
    (t.units[m]'m.isLt).count = (s.units[m]'m.isLt).count := by
  induction h with
  | refl => rfl
  | state n new _ _ ih => rw [setState_count, ih]
  | unit n u _ hc _ ih =>
    rw [setUnit_unit]
    split
    · rename_i e
      subst e
      rw [hc, ih]
    · exact ih
  | step n up _ hn ih =>
    rw [setUnit_unit, if_neg (fun e : m = n => steps (e ▸ hn)), ih]
  | count n c _ hn ih =>
    rw [setUnit_unit, if_neg (fun e : m = n => counts (e ▸ hn)), ih]
  | aside u _ hu _ ih => rw [hu, ih]

/-- The drives agree with the channel states where a unit's drive turns off or keeps its direction. -/
theorem setUnit_driveOk {n : Ch} {u : ChanUnit} (hs : s.DriveOk)
    (hu : u.drive.dir? = none ∨ u.drive.dir? = (s.units[n]'n.isLt).drive.dir?) : (s.setUnit n u).DriveOk := by
  intro m d hd
  rw [setUnit_unit] at hd
  split at hd
  · rename_i e
    subst e
    obtain off | same := hu
    · rw [off] at hd
      cases hd
    · exact hs m d (same ▸ hd)
  · exact hs m d hd

/-- R15, R25: a chain keeps every drive in agreement with its channel's state. -/
theorem Shifts.driveOk (h : Shifts p s t) (hs : s.DriveOk) : t.DriveOk := by
  induction h with
  | refl => exact hs
  | state n new _ _ ih => exact setState_driveOk _ n new ih
  | unit n u _ _ hd ih => exact setUnit_driveOk ih hd
  | step n up _ _ ih => exact setUnit_driveOk ih (.inr rfl)
  | count n c _ _ ih => exact setUnit_driveOk ih (.inr rfl)
  | aside u _ hu hs ih =>
    intro m d hd
    rw [hs]
    exact ih m d (by rwa [hu] at hd)

end

/-! #### The commands that are no chains of `Moves` -/

/-- The next state comes from `s` by shifts of units and channel states that the licence covers. -/
def Shifted (p : Licence) (s : State) (r : Result) : Prop := ∀ t, r = .next t → Shifts p s t

theorem Shifts.shifted {p : Licence} {s t : State} (h : Shifts p s t) : Shifted p s (.next t) := by
  rintro u ⟨⟩
  exact h

theorem Shifted.same (p : Licence) (s : State) : Shifted p s (.next s) := Shifts.refl.shifted

/-- A command that leaves units and records. -/
theorem Shifted.frame {p : Licence} {s u : State} (units : u.units = s.units) (recs : u.recs = s.recs) :
    Shifted p s (.next u) := (Shifts.refl.frame units recs).shifted

section commands

variable {p : Licence} (s : State)

theorem execTransmissionStart_shifted : Shifted p s (execTransmissionStart s) := by
  unfold execTransmissionStart
  split
  · split
    · exact .frame rfl rfl
    · exact .same p s
  · exact .same p s

theorem execFrameSuccess_shifted : Shifted p s (execFrameSuccess s) := by
  unfold execFrameSuccess
  split
  · split
    · exact .frame rfl rfl
    · exact .same p s
  · exact .same p s

theorem execArbitrationLoss_shifted (pos : Nat) : Shifted p s (execArbitrationLoss pos s) := by
  unfold execArbitrationLoss
  split
  · split
    · exact .frame rfl rfl
    · exact .same p s
  · exact .same p s

theorem execBitError_shifted (pos : Nat) : Shifted p s (execBitError pos s) := by
  unfold execBitError
  split
  · split
    · exact .frame rfl rfl
    · exact .same p s
  · exact .same p s

theorem execBitErrorHoldEnd_shifted (b : Bool) : Shifted p s (execBitErrorHoldEnd b s) := by
  have listening (l : LineCtl) : Shifts p s ((s.setLine l).beginCondition .lineFault) := .frame .refl (by simp) (by simp)
  unfold execBitErrorHoldEnd
  split
  · split
    · exact .same p s
    · dsimp only
      split
      · exact ((listening _).moves (Moves.start p _).finish).shifted
      · exact .frame rfl rfl
  · exact .same p s

theorem execStartBit_shifted : Shifted p s (execStartBitFromAnotherStation s) := by
  unfold execStartBitFromAnotherStation
  split
  · exact .same p s
  · split
    · split
      · exact .frame rfl rfl
      · exact .frame rfl rfl
      · exact .same p s
      · exact .same p s
    · exact .same p s

theorem execRefusalPatternEnd_shifted : Shifted p s (execRefusalPatternEnd s) := by
  unfold execRefusalPatternEnd
  split
  · exact .same p s
  · split
    · exact .frame rfl rfl
    · exact .same p s

/-! #### The ends of reads, and the restart -/

/-- The blocks beside the channels at the restart (R213). -/
def State.restartBlocks (s : State) : State :=
  { s with
    rain := s.rain.restart, arb := s.arb.restart, line := s.line.restart, handler := s.handler.restart
    panel := s.panel.restart, eval := { s.eval with timer := none }, reviewDue := false, evalDue := false }

/-- The port and the arbiter's mark at the restart (R213). -/
def State.restartPort (s : State) : State :=
  { s with
    port := { s.port with read := .reading 1 false, session := none, store := none }
    arb := { s.arb with travelAtRestart := s.anyTravel } }

/-- The parts of a restart, in order: port, channels, blocks, flags, lamp. -/
theorem restartNow_eq (s : State) : s.restartNow =
    ((s.restartPort.eachChannel State.restartChannel).endCondition .lineFault).restartBlocks.clearAll.judgeLamp := by
  unfold State.restartNow State.restartBlocks State.restartPort
  rfl

section

variable {s} {t : State} (h : Shifts p s t)

include h

theorem Shifts.beginCondition (f : FlagId) : Shifts p s (t.beginCondition f) :=
  h.frame (beginCondition_units _ _) (beginCondition_recs _ _)

theorem Shifts.endCondition (f : FlagId) : Shifts p s (t.endCondition f) := h.frame rfl rfl

theorem Shifts.eachChannel {f : Ch → State → State} (hf : ∀ (n : Ch) (u : State), Shifts p s u → Shifts p s (f n u)) :
    Shifts p s (t.eachChannel f) := by
  have fold : ∀ (ns : List Ch) (u : State), Shifts p s u → Shifts p s (ns.foldl (fun s n => f n s) u) := by
    intro ns
    induction ns with
    | nil => exact fun _ hu => hu
    | cons n ns ih => exact fun u hu => ih _ (hf n u hu)
  exact fold channels t h

theorem Shifts.submitStates : Shifts p s t.submitStates :=
  h.moves ((Moves.start p t).eachChannel (fun n _ hu => hu.submitState n))

theorem Shifts.offerGust : Shifts p s t.offerGust := by
  unfold State.offerGust
  split
  · exact h.moves (Moves.start p t).submitGust
  · exact h

theorem Shifts.beginTaking : Shifts p s t.beginTaking := by
  unfold State.beginTaking
  split
  · exact h.frame rfl rfl
  · exact h

theorem Shifts.startUpInvalid (image : Option Memory) : Shifts p s (t.startUpInvalid image) := by
  have read : Shifts p s { t with port := t.port.readEnded image none } := h.frame rfl rfl
  have listening : Shifts p s (({ t with port := t.port.readEnded image none } : State).beginCondition .configStation).startListening :=
    (read.beginCondition .configStation).frame rfl rfl
  exact (listening.submitStates.moves (Moves.start p _).lamp).beginTaking

theorem Shifts.adoptUnits (was : Ch → Bool) (pins : PinSample) : Shifts p s (t.adoptUnits was pins) := by
  refine h.eachChannel (fun n u hu => ?_)
  split
  · exact hu
  · refine hu.unit n _ ?_ (.inr ?_)
    all_goals
      split
      · unfold ChanUnit.readopt
        split <;> rfl
      · rfl

theorem Shifts.startRain (free : p.free .rain) (c : RunCfg) (pins : PinSample) : Shifts p s (t.startRain c pins) := by
  have fresh : Shifts p s { t with rain := { RainFront.reset with state := some .capturing } } := h.frame rfl rfl
  exact fresh.moves ((Moves.start p _).takeRain free c _)

theorem Shifts.startWeather (free : p.free .rain) (c : RunCfg) (pins : PinSample) : Shifts p s (t.startWeather c pins) := by
  have rain : Shifts p s (if c.rainFitted then t.startRain c pins else t) := by
    split
    · exact h.startRain free c pins
    · exact h
  unfold State.startWeather
  dsimp only
  split
  · split
    · exact rain.frame rfl rfl
    · exact rain.frame rfl rfl
  · split
    · exact rain.frame rfl rfl
    · exact rain

theorem Shifts.startDeciding : Shifts p s t.startDeciding := by
  have timed : Shifts p s { t with eval := { t.eval with timer := some 10 } } := h.frame rfl rfl
  exact timed.moves ((Moves.start p _).askReview.askEval)

theorem Shifts.judgePanel (c : RunCfg) :
    Shifts p s ((t.setPanel (t.panel.startJudging c)).eachChannel (fun n s => s.holdForMaint n)) := by
  have judging : Shifts p s (t.setPanel (t.panel.startJudging c)) := h.frame rfl rfl
  exact judging.moves ((Moves.start p _).eachChannel (fun n _ hu => hu.holdForMaint n))

theorem Shifts.startUpValid (free : p.free .rain) (image : Memory) (c : RunCfg) (pins : PinSample) :
    Shifts p s (t.startUpValid image c pins) := by
  have read : Shifts p s { t with port := t.port.readEnded (some image) (some c) } := h.frame rfl rfl
  have errors := read.eachChannel (f := fun n s => if c.inError n then s.beginCondition (.configChannel n) else s)
    (fun n u hu => by
      split
      · exact hu.beginCondition _
      · exact hu)
  have weather := (errors.adoptUnits (fun _ => false) pins).startWeather free c pins
  have timers := weather.frame (u := State.startTimers _ c) rfl rfl
  exact (((timers.judgePanel c).submitStates.offerGust.moves (Moves.start p _).lamp).beginTaking.startDeciding).moves
    (Moves.start p _).finish

theorem Shifts.rereadChannel (returns : p.returns) (n : Ch) : Shifts p s (State.rereadChannel n t) := by
  unfold State.rereadChannel
  split
  · exact h
  · have still : Shifts p s (t.toStill n) := h.state n .still ⟨.inl returns, by simp [ChState.travel?], by simp [ChState.travel?]⟩
    exact (still.endCondition _).endCondition _

theorem Shifts.rereadRain (free : p.free .rain) (old new : Option RunCfg) (pins : PinSample) : Shifts p s (t.rereadRain old new pins) := by
  unfold State.rereadRain
  split
  · exact h.frame rfl rfl
  · split
    · exact h.frame rfl rfl
    · split
      · exact h
      · exact h.startRain free _ pins

theorem Shifts.rereadDraw (old new : Option RunCfg) : Shifts p s (t.rereadDraw old new) := by
  unfold State.rereadDraw
  split
  · dsimp only
    exact (h.moves ((Moves.start p t).submitDraw _ _)).frame rfl rfl
  · exact h

theorem Shifts.rereadPanel (new : Option RunCfg) : Shifts p s (t.rereadPanel new) := by
  unfold State.rereadPanel
  split
  · exact h.frame rfl rfl
  · exact h.judgePanel _

theorem Shifts.raiseHolding : Shifts p s t.raiseHolding := by
  refine h.moves ((Moves.start p t).foldl flagOrder (fun i u hu => ?_))
  split
  · exact hu.raise i
  · exact hu

theorem Shifts.rereadWetness : Shifts p s t.rereadWetness := by
  unfold State.rereadWetness
  split
  · exact h.moves (((Moves.start p t).submitWetness _ _ _).setRefresh _)
  · exact h

theorem Shifts.rereadEval (new : Option RunCfg) : Shifts p s (t.rereadEval new) := by
  unfold State.rereadEval
  split
  · exact h.frame rfl rfl
  · exact h.startDeciding

theorem Shifts.rereadConditions (new : Option RunCfg) : Shifts p s (t.rereadConditions new) :=
  (h.frame (u := t.setCondition .configStation new.isNone) rfl rfl).eachChannel (fun _ _ hu => hu.frame rfl rfl)

theorem Shifts.rereadAnem (old new : Option RunCfg) (pins : PinSample) : Shifts p s (t.rereadAnem old new pins) := by
  unfold State.rereadAnem
  split
  · split
    · exact h
    · exact h.frame rfl rfl
  · exact h.frame rfl rfl

theorem Shifts.rereadVane (old new : Option RunCfg) (pins : PinSample) : Shifts p s (t.rereadVane old new pins) := by
  unfold State.rereadVane
  split
  · exact h.frame rfl rfl
  · split
    · exact h.frame rfl rfl
    · split
      · exact h
      · exact h.frame rfl rfl

theorem Shifts.rereadIsolation (new : Option RunCfg) : Shifts p s (t.rereadIsolation new) := by
  unfold State.rereadIsolation
  split
  · exact h.frame rfl rfl
  · split
    · exact h
    · exact h.frame rfl rfl

theorem Shifts.startListening : Shifts p s t.startListening := h.frame rfl rfl

theorem Shifts.rereadSensors (free : p.free .rain) (old new : Option RunCfg) (pins : PinSample) :
    Shifts p s ((((t.rereadRain old new pins).rereadAnem old new pins).rereadVane old new pins).rereadIsolation new) :=
  (((h.rereadRain free old new pins).rereadAnem old new pins).rereadVane old new pins).rereadIsolation new

theorem Shifts.rereadReports (old new : Option RunCfg) : Shifts p s
    ((((((t.startListening).rereadDraw old new).rereadPanel new).submitStates).offerGust).rereadWetness).raiseHolding :=
  ((h.startListening.rereadDraw old new).rereadPanel new).submitStates.offerGust.rereadWetness.raiseHolding

theorem Shifts.rereadEnd (free : p.free .rain) (returns : p.returns) (image : Option Memory) (new : Option RunCfg) (pins : PinSample) :
    Shifts p s (t.rereadEnd image new pins) := by
  have read : Shifts p s { t with port := t.port.readEnded image new } := h.frame rfl rfl
  have conditions := (read.rereadConditions new).eachChannel (fun n _ hu => hu.rereadChannel returns n)
  exact (((((conditions.adoptUnits _ pins).rereadSensors free _ new pins).rereadReports _ new).rereadEval new).moves
    (Moves.start p _).lamp).moves (Moves.start p _).finish

theorem Shifts.restartChannel (n : Ch) : Shifts p s (State.restartChannel n t) := by
  have still : Shifts p s (match t.stateOf n with
      | .faulted _ _ => t
      | _ => t.toStill n) := by
    split
    · exact h
    · rename_i notFaulted
      refine h.state n _ (.still ?_)
      cases hs : t.stateOf n with
      | faulted o e => exact absurd hs (notFaulted o e)
      | _ => rfl
  have cleared (u : State) (hu : Shifts p s u) : Shifts p s (((u.setRec n { u.recs[n]'n.isLt with refusal := .accepted }).setUnit n
      { (u.setRec n { u.recs[n]'n.isLt with refusal := .accepted }).units[n] with
        illegal := 0, indexSeen := false, indexRecord := none }).checkView n) := by
    refine Shifts.moves ?_ ((Moves.start p _).checkView n)
    exact (hu.aside (u.setRec n { u.recs[n]'n.isLt with refusal := .accepted }) rfl (stateOf_setRec u n · _ rfl)).unit n _ rfl (.inr rfl)
  exact cleared _ still

theorem Shifts.restartBlocks : Shifts p s t.restartBlocks := h.frame rfl rfl

theorem Shifts.restartNow (clears : ∀ i, p.clears i) : Shifts p s t.restartNow := by
  have port : Shifts p s t.restartPort := h.frame rfl rfl
  have still := (port.eachChannel (fun n _ hu => hu.restartChannel n)).endCondition .lineFault
  rw [restartNow_eq]
  exact (still.restartBlocks.moves ((Moves.start p _).foldl flagOrder (fun i _ hu => hu.clear i (clears i)))).moves
    (Moves.start p _).lamp

end

theorem execReadTryFailed_shifted (free : p.free .rain) (returns : p.returns) : Shifted p s (execReadTryFailed s) := by
  unfold execReadTryFailed
  split
  · split
    · exact .frame rfl rfl
    · split
      · exact (Shifts.refl.rereadEnd free returns none none PinSample.blank).shifted
      · exact (Shifts.refl.startUpInvalid none).shifted
  · exact .same p s

theorem execConfigReadEnd_shifted (free : p.free .rain) (bytes : List Byte) (pins : PinSample) : Shifted p s (execConfigReadEnd bytes pins s) := by
  unfold execConfigReadEnd
  split
  · exact .same p s
  · split
    · dsimp only
      split
      · exact (Shifts.refl.startUpInvalid _).shifted
      · exact (Shifts.refl.startUpValid free _ _ pins).shifted
    · exact .same p s

theorem execRereadEnd_shifted (free : p.free .rain) (returns : p.returns) (bytes : List Byte) (pins : PinSample) :
    Shifted p s (execRereadEnd bytes pins s) := by
  unfold execRereadEnd
  split
  · exact .same p s
  · split
    · exact (Shifts.refl.rereadEnd free returns _ _ pins).shifted
    · exact .same p s

theorem execWarmRestart_shifted (clears : ∀ i, p.clears i) : Shifted p s (execWarmRestart s) := by
  unfold execWarmRestart
  split
  · exact (Shifts.refl.restartNow clears).shifted
  · exact .same p s

end commands

/-! ### The commands of a block

One rule for each block, to split a proof about the commands that set it. -/

/-- The commands that set `.port`. -/
theorem port_commands {motive : ∀ c : Instr, setsBlock c .port = true → Prop}
    (commandRestart : motive .commandRestart rfl) (readRetryExpiry : motive .readRetryExpiry rfl)
    (readTryFailed : motive .readTryFailed rfl) (rereadEnd : ∀ bytes pins, motive (.rereadEnd bytes pins) rfl)
    (configReadEnd : ∀ bytes pins, motive (.configReadEnd bytes pins) rfl) (warmRestart : motive .warmRestart rfl)
    (fullReset : ∀ straps enc panel anem, motive (.fullReset straps enc panel anem) rfl)
    (stationTimeStep : motive .stationTimeStep rfl)
    (c : Instr) : ∀ own : setsBlock c .port = true, motive c own := by
  cases c with
  | commandRestart => exact fun _ => commandRestart
  | readRetryExpiry => exact fun _ => readRetryExpiry
  | readTryFailed => exact fun _ => readTryFailed
  | rereadEnd => exact fun _ => rereadEnd ..
  | configReadEnd => exact fun _ => configReadEnd ..
  | warmRestart => exact fun _ => warmRestart
  | fullReset => exact fun _ => fullReset ..
  | stationTimeStep => exact fun _ => stationTimeStep
  | _ => exact fun own => absurd own Bool.false_ne_true

/-- The commands that set `.wind`. -/
theorem wind_commands {motive : ∀ c : Instr, setsBlock c .wind = true → Prop}
    (anemPulse : ∀ us, motive (.anemPulse us) rfl) (anemLevelFall : ∀ us, motive (.anemLevelFall us) rfl)
    (windowEnd : motive .windowEnd rfl) (anemSilenceExpiry : motive .anemSilenceExpiry rfl) (fileGust : motive .fileGust rfl)
    (readTryFailed : motive .readTryFailed rfl) (rereadEnd : ∀ bytes pins, motive (.rereadEnd bytes pins) rfl)
    (configReadEnd : ∀ bytes pins, motive (.configReadEnd bytes pins) rfl)
    (fullReset : ∀ straps enc panel anem, motive (.fullReset straps enc panel anem) rfl)
    (stationTimeStep : motive .stationTimeStep rfl)
    (c : Instr) : ∀ own : setsBlock c .wind = true, motive c own := by
  cases c with
  | anemPulse => exact fun _ => anemPulse ..
  | anemLevelFall => exact fun _ => anemLevelFall ..
  | windowEnd => exact fun _ => windowEnd
  | anemSilenceExpiry => exact fun _ => anemSilenceExpiry
  | fileGust => exact fun _ => fileGust
  | readTryFailed => exact fun _ => readTryFailed
  | rereadEnd => exact fun _ => rereadEnd ..
  | configReadEnd => exact fun _ => configReadEnd ..
  | fullReset => exact fun _ => fullReset ..
  | stationTimeStep => exact fun _ => stationTimeStep
  | _ => exact fun own => absurd own Bool.false_ne_true

/-- The commands that set `.vane`. -/
theorem vane_commands {motive : ∀ c : Instr, setsBlock c .vane = true → Prop}
    (vaneSample : ∀ x y z, motive (.vaneSample x y z) rfl) (sectorAccepted : motive .sectorAccepted rfl)
    (readTryFailed : motive .readTryFailed rfl) (rereadEnd : ∀ bytes pins, motive (.rereadEnd bytes pins) rfl)
    (configReadEnd : ∀ bytes pins, motive (.configReadEnd bytes pins) rfl)
    (fullReset : ∀ straps enc panel anem, motive (.fullReset straps enc panel anem) rfl)
    (stationTimeStep : motive .stationTimeStep rfl)
    (c : Instr) : ∀ own : setsBlock c .vane = true, motive c own := by
  cases c with
  | vaneSample => exact fun _ => vaneSample ..
  | sectorAccepted => exact fun _ => sectorAccepted
  | readTryFailed => exact fun _ => readTryFailed
  | rereadEnd => exact fun _ => rereadEnd ..
  | configReadEnd => exact fun _ => configReadEnd ..
  | fullReset => exact fun _ => fullReset ..
  | stationTimeStep => exact fun _ => stationTimeStep
  | _ => exact fun own => absurd own Bool.false_ne_true

/-- The commands that set `.supply`. -/
theorem supply_commands {motive : ∀ c : Instr, setsBlock c .supply = true → Prop}
    (msgoodLow : motive .msgoodLow rfl) (msgoodHigh : motive .msgoodHigh rfl)
    (supplyRecoveryExpiry : motive .supplyRecoveryExpiry rfl)
    (fullReset : ∀ straps enc panel anem, motive (.fullReset straps enc panel anem) rfl)
    (stationTimeStep : motive .stationTimeStep rfl)
    (c : Instr) : ∀ own : setsBlock c .supply = true, motive c own := by
  cases c with
  | msgoodLow => exact fun _ => msgoodLow
  | msgoodHigh => exact fun _ => msgoodHigh
  | supplyRecoveryExpiry => exact fun _ => supplyRecoveryExpiry
  | fullReset => exact fun _ => fullReset ..
  | stationTimeStep => exact fun _ => stationTimeStep
  | _ => exact fun own => absurd own Bool.false_ne_true

/-- The commands that set `.line`. -/
theorem line_commands {motive : ∀ c : Instr, setsBlock c .line = true → Prop}
    (listenOnlyExpiry : motive .listenOnlyExpiry rfl) (lineIdle : motive .lineIdle rfl)
    (frameAbandoned : ∀ bits, motive (.frameAbandoned bits) rfl) (ackHoldExpiry : motive .ackHoldExpiry rfl)
    (frameArrival : ∀ bits, motive (.frameArrival bits) rfl) (commandAcknowledge : motive .commandAcknowledge rfl)
    (warmRestart : motive .warmRestart rfl) (transmissionStart : motive .transmissionStart rfl)
    (frameSuccess : motive .frameSuccess rfl) (arbitrationLoss : ∀ pos, motive (.arbitrationLoss pos) rfl)
    (bitError : ∀ pos, motive (.bitError pos) rfl) (bitErrorHoldEnd : ∀ r, motive (.bitErrorHoldEnd r) rfl)
    (startBitFromAnotherStation : motive .startBitFromAnotherStation rfl)
    (fullReset : ∀ straps enc panel anem, motive (.fullReset straps enc panel anem) rfl)
    (stationTimeStep : motive .stationTimeStep rfl)
    (c : Instr) : ∀ own : setsBlock c .line = true, motive c own := by
  cases c with
  | listenOnlyExpiry => exact fun _ => listenOnlyExpiry
  | lineIdle => exact fun _ => lineIdle
  | frameAbandoned => exact fun _ => frameAbandoned ..
  | ackHoldExpiry => exact fun _ => ackHoldExpiry
  | frameArrival => exact fun _ => frameArrival ..
  | commandAcknowledge => exact fun _ => commandAcknowledge
  | warmRestart => exact fun _ => warmRestart
  | transmissionStart => exact fun _ => transmissionStart
  | frameSuccess => exact fun _ => frameSuccess
  | arbitrationLoss => exact fun _ => arbitrationLoss ..
  | bitError => exact fun _ => bitError ..
  | bitErrorHoldEnd => exact fun _ => bitErrorHoldEnd ..
  | startBitFromAnotherStation => exact fun _ => startBitFromAnotherStation
  | fullReset => exact fun _ => fullReset ..
  | stationTimeStep => exact fun _ => stationTimeStep
  | _ => exact fun own => absurd own Bool.false_ne_true

/-- The commands that set `.table`. -/
theorem table_commands {motive : ∀ c : Instr, setsBlock c .table = true → Prop}
    (frameArrival : ∀ bits, motive (.frameArrival bits) rfl) (fileWetness : motive .fileWetness rfl)
    (fileDraw : motive .fileDraw rfl) (fileGust : motive .fileGust rfl) (noticeNotFiled : motive .noticeNotFiled rfl)
    (partExpiry : ∀ origin part, motive (.partExpiry origin part) rfl) (commandOpen : motive .commandOpen rfl)
    (commandClose : motive .commandClose rfl) (commandStop : motive .commandStop rfl) (commandHold : motive .commandHold rfl)
    (commandRelease : motive .commandRelease rfl) (commandReport : motive .commandReport rfl)
    (commandAcknowledge : motive .commandAcknowledge rfl) (commandRestart : motive .commandRestart rfl)
    (readTryFailed : motive .readTryFailed rfl) (rereadEnd : ∀ bytes pins, motive (.rereadEnd bytes pins) rfl)
    (configReadEnd : ∀ bytes pins, motive (.configReadEnd bytes pins) rfl) (warmRestart : motive .warmRestart rfl)
    (fullReset : ∀ straps enc panel anem, motive (.fullReset straps enc panel anem) rfl)
    (stationTimeStep : motive .stationTimeStep rfl)
    (c : Instr) : ∀ own : setsBlock c .table = true, motive c own := by
  cases c with
  | frameArrival => exact fun _ => frameArrival ..
  | fileWetness => exact fun _ => fileWetness
  | fileDraw => exact fun _ => fileDraw
  | fileGust => exact fun _ => fileGust
  | noticeNotFiled => exact fun _ => noticeNotFiled
  | partExpiry => exact fun _ => partExpiry ..
  | commandOpen => exact fun _ => commandOpen
  | commandClose => exact fun _ => commandClose
  | commandStop => exact fun _ => commandStop
  | commandHold => exact fun _ => commandHold
  | commandRelease => exact fun _ => commandRelease
  | commandReport => exact fun _ => commandReport
  | commandAcknowledge => exact fun _ => commandAcknowledge
  | commandRestart => exact fun _ => commandRestart
  | readTryFailed => exact fun _ => readTryFailed
  | rereadEnd => exact fun _ => rereadEnd ..
  | configReadEnd => exact fun _ => configReadEnd ..
  | warmRestart => exact fun _ => warmRestart
  | fullReset => exact fun _ => fullReset ..
  | stationTimeStep => exact fun _ => stationTimeStep
  | _ => exact fun own => absurd own Bool.false_ne_true

/-- The commands that set `.isolation`. -/
theorem isolation_commands {motive : ∀ c : Instr, setsBlock c .isolation = true → Prop}
    (frameArrival : ∀ bits, motive (.frameArrival bits) rfl) (isolationExpiry : motive .isolationExpiry rfl)
    (readTryFailed : motive .readTryFailed rfl) (rereadEnd : ∀ bytes pins, motive (.rereadEnd bytes pins) rfl)
    (fullReset : ∀ straps enc panel anem, motive (.fullReset straps enc panel anem) rfl)
    (stationTimeStep : motive .stationTimeStep rfl)
    (c : Instr) : ∀ own : setsBlock c .isolation = true, motive c own := by
  cases c with
  | frameArrival => exact fun _ => frameArrival ..
  | isolationExpiry => exact fun _ => isolationExpiry
  | readTryFailed => exact fun _ => readTryFailed
  | rereadEnd => exact fun _ => rereadEnd ..
  | fullReset => exact fun _ => fullReset ..
  | stationTimeStep => exact fun _ => stationTimeStep
  | _ => exact fun own => absurd own Bool.false_ne_true

/-- The commands that set `.overflow`. -/
theorem overflow_commands {motive : ∀ c : Instr, setsBlock c .overflow = true → Prop}
    (fileWetness : motive .fileWetness rfl) (fileDraw : motive .fileDraw rfl) (fileGust : motive .fileGust rfl)
    (overflowConditionEnd : motive .overflowConditionEnd rfl)
    (fullReset : ∀ straps enc panel anem, motive (.fullReset straps enc panel anem) rfl)
    (stationTimeStep : motive .stationTimeStep rfl)
    (c : Instr) : ∀ own : setsBlock c .overflow = true, motive c own := by
  cases c with
  | fileWetness => exact fun _ => fileWetness
  | fileDraw => exact fun _ => fileDraw
  | fileGust => exact fun _ => fileGust
  | overflowConditionEnd => exact fun _ => overflowConditionEnd
  | fullReset => exact fun _ => fullReset ..
  | stationTimeStep => exact fun _ => stationTimeStep
  | _ => exact fun own => absurd own Bool.false_ne_true

/-- The commands that set `.clock`. -/
theorem clock_commands {motive : ∀ c : Instr, setsBlock c .clock = true → Prop}
    (fullReset : ∀ straps enc panel anem, motive (.fullReset straps enc panel anem) rfl)
    (stationTimeStep : motive .stationTimeStep rfl)
    (c : Instr) : ∀ own : setsBlock c .clock = true, motive c own := by
  cases c with
  | fullReset => exact fun _ => fullReset ..
  | stationTimeStep => exact fun _ => stationTimeStep
  | _ => exact fun own => absurd own Bool.false_ne_true

/-- The commands that are no chain of `Moves`. -/
theorem special_commands {motive : ∀ c : Instr, isOrdinary c = false → Prop}
    (fullReset : ∀ straps enc panel anem, motive (.fullReset straps enc panel anem) rfl)
    (stationTimeStep : motive .stationTimeStep rfl) (readTryFailed : motive .readTryFailed rfl)
    (configReadEnd : ∀ bytes pins, motive (.configReadEnd bytes pins) rfl) (warmRestart : motive .warmRestart rfl)
    (rereadEnd : ∀ bytes pins, motive (.rereadEnd bytes pins) rfl) (transmissionStart : motive .transmissionStart rfl)
    (frameSuccess : motive .frameSuccess rfl) (arbitrationLoss : ∀ pos, motive (.arbitrationLoss pos) rfl)
    (bitError : ∀ pos, motive (.bitError pos) rfl) (bitErrorHoldEnd : ∀ r, motive (.bitErrorHoldEnd r) rfl)
    (startBitFromAnotherStation : motive .startBitFromAnotherStation rfl) (refusalPatternEnd : motive .refusalPatternEnd rfl)
    (c : Instr) : ∀ own : isOrdinary c = false, motive c own := by
  cases c with
  | fullReset => exact fun _ => fullReset ..
  | stationTimeStep => exact fun _ => stationTimeStep
  | readTryFailed => exact fun _ => readTryFailed
  | configReadEnd => exact fun _ => configReadEnd ..
  | warmRestart => exact fun _ => warmRestart
  | rereadEnd => exact fun _ => rereadEnd ..
  | transmissionStart => exact fun _ => transmissionStart
  | frameSuccess => exact fun _ => frameSuccess
  | arbitrationLoss => exact fun _ => arbitrationLoss ..
  | bitError => exact fun _ => bitError ..
  | bitErrorHoldEnd => exact fun _ => bitErrorHoldEnd ..
  | startBitFromAnotherStation => exact fun _ => startBitFromAnotherStation
  | refusalPatternEnd => exact fun _ => refusalPatternEnd
  | _ => exact fun own => absurd own.symm Bool.false_ne_true

/-- Every command but the full reset and the clock step shifts units and channel states as its licence covers. -/
theorem exec_shifts {c : Instr} (reset : ∀ straps enc panel anem, c ≠ .fullReset straps enc panel anem)
    (clock : c ≠ .stationTimeStep) {s t : State} (h : exec c s = .next t) : Shifts (licenceOf c s) s t := by
  by_cases ordinary : isOrdinary c = true
  · exact (exec_moves ordinary h).shifts
  · rw [Bool.not_eq_true] at ordinary
    cases c, ordinary using special_commands with
    | fullReset straps enc panel anem => exact absurd rfl (reset straps enc panel anem)
    | stationTimeStep => exact absurd rfl clock
    | readTryFailed => exact execReadTryFailed_shifted (p := licenceOf _ s) s (by exact rfl) (.inr (.inr (.inl rfl))) t h
    | configReadEnd bytes pins => exact execConfigReadEnd_shifted s (by exact rfl) bytes pins t h
    | warmRestart => exact execWarmRestart_shifted (p := licenceOf _ s) s (fun _ => .inr (.inr (.inl rfl))) t h
    | rereadEnd bytes pins =>
      exact execRereadEnd_shifted (p := licenceOf _ s) s (by exact rfl) (.inr (.inr (.inr ⟨bytes, pins, rfl⟩))) bytes pins t h
    | transmissionStart => exact execTransmissionStart_shifted s t h
    | frameSuccess => exact execFrameSuccess_shifted s t h
    | arbitrationLoss pos => exact execArbitrationLoss_shifted s pos t h
    | bitError pos => exact execBitError_shifted s pos t h
    | bitErrorHoldEnd b => exact execBitErrorHoldEnd_shifted s b t h
    | startBitFromAnotherStation => exact execStartBit_shifted s t h
    | refusalPatternEnd => exact execRefusalPatternEnd_shifted s t h

end Sys2Proof.Machine

namespace Sys2Proof.Machine
set_option Elab.async false

/-! ### Steps, resets and the clock -/

/-- A step is a bit time, or the front command on the queue's rest. -/
theorem step_cases {s t : State} (h : step s = .next t) :
    t = s.bitTime ∨ ∃ c rest, exec c { s with pending := rest } = .next t := by
  unfold step at h
  split at h
  · cases h
    exact .inl rfl
  · exact .inr ⟨_, _, h⟩

/-- An invariant that reads neither the queue nor the line's bit times, and that every command keeps, every step keeps. -/
theorem step_keeps {P : State → Prop} (queue : ∀ (s : State) rest, P s → P { s with pending := rest })
    (bit : ∀ s : State, P s → P s.bitTime) (command : ∀ c s t, exec c s = .next t → P s → P t) {s t : State}
    (h : step s = .next t) (hs : P s) : P t := by
  obtain rfl | ⟨c, rest, hc⟩ := step_cases h
  · exact bit s hs
  · exact command c _ t hc (queue s rest hs)

theorem tick_unit (s : State) (n : Ch) : s.tick.units[n] = (s.units[n]'n.isLt).tick := by simp [State.tick]

theorem tick_stateOf (s : State) (n : Ch) : s.tick.stateOf n = (s.stateOf n).tick := by
  simp [State.tick, State.stateOf, ChanRec.tick]

theorem chState_tick_travel (c : ChState) : c.tick.travel? = c.travel? := by cases c <;> rfl

theorem chState_tick_driveDir (c : ChState) : c.tick.driveDir? = c.driveDir? := by cases c <;> rfl

theorem driveState_tick_dir (d : DriveState) : d.tick.dir? = d.dir? := by cases d <;> rfl

/-- What a full reset leaves of units and channel states. -/
theorem fullReset_channels {straps : BitVec 7} {enc : Vector EncLevels 4} {panel : PanelLevels} {anem : Bool} {s t : State}
    (h : exec (.fullReset straps enc panel anem) s = .next t) (n : Ch) :
    t.units[n]'n.isLt = ChanUnit.reset (enc[n]) ∧ t.stateOf n = .still := by
  have h : execFullReset straps enc panel anem s = .next t := h
  unfold execFullReset at h
  dsimp only at h
  split at h <;> cases h
  · simp [State.stateOf, State.reset, ChanRec.reset]
  · refine ⟨by simp, ?_⟩
    rw [stateOf_of_recs (beginCondition_recs _ _)]
    simp [State.stateOf, State.reset, ChanRec.reset]

/-- A command is the full reset, the clock step, or one that shifts units and channel states. -/
theorem exec_cases {c : Instr} {s t : State} (h : exec c s = .next t) :
    (∃ straps enc panel anem, c = .fullReset straps enc panel anem) ∨ (c = .stationTimeStep ∧ t = s.tick) ∨
      Shifts (licenceOf c s) s t := by
  by_cases reset : ∃ straps enc panel anem, c = .fullReset straps enc panel anem
  · exact .inl reset
  by_cases clock : c = .stationTimeStep
  · subst clock
    cases h
    exact .inr (.inl ⟨rfl, rfl⟩)
  · exact .inr (.inr (exec_shifts (fun a b c d e => reset ⟨a, b, c, d, e⟩) clock h))

/-! ### Drives (R15, R25) -/

theorem tick_driveOk {s : State} (hs : s.DriveOk) : s.tick.DriveOk := by
  intro n d hd
  rw [tick_unit] at hd
  rw [tick_stateOf, chState_tick_driveDir]
  exact hs n d ((driveState_tick_dir _).symm.trans hd)

theorem exec_driveOk (c : Instr) (s t : State) (h : exec c s = .next t) (hs : s.DriveOk) : t.DriveOk := by
  obtain ⟨straps, enc, panel, anem, rfl⟩ | ⟨-, rfl⟩ | moved := exec_cases h
  · intro n d hd
    rw [(fullReset_channels h n).1] at hd
    cases hd
  · exact tick_driveOk hs
  · exact moved.driveOk hs

/-- Settles O7: every command but the full reset and the clock step is a chain of changes each of which keeps the drives in
agreement with the channel states (`Shifts.driveOk`); at a full reset every drive is OFF, and a clock step turns none. -/
theorem driveFollowsState : Obligations.DriveFollowsState := fun _ _ hs h =>
  step_keeps (P := State.DriveOk) (fun _ _ => id) (fun _ => id) exec_driveOk h hs

/-! ### FAULTED (R35, R38) -/

theorem isFaulted_iff (c : ChState) : c.isFaulted = true ↔ ∃ o e, c = .faulted o e := by
  cases c <;> simp [ChState.isFaulted]

/-- Settles O11: in a chain of changes FAULTED is left by licence alone (`Shifts.faulted`), and the licence is that of the
acknowledges and of the ends of a reread; a clock step leaves it. -/
theorem faultedWaitsForAcknowledge : Obligations.FaultedWaitsForAcknowledge := by
  unfold Obligations.FaultedWaitsForAcknowledge
  intro c s t n o e h faulted
  obtain reset | ⟨-, rfl⟩ | moved := exec_cases h
  · exact .inr (.inr (.inr (.inr (.inr reset))))
  · exact .inl ⟨o, e, by rw [tick_stateOf, faulted]; rfl⟩
  · by_cases returns : (licenceOf c s).returns
    · obtain ack | hold | failed | reread := returns
      · exact .inr (.inl ack)
      · exact .inr (.inr (.inl hold))
      · exact .inr (.inr (.inr (.inl failed)))
      · exact .inr (.inr (.inr (.inr (.inl reread))))
    · exact .inl ((isFaulted_iff _).mp (moved.faulted n returns (by rw [faulted]; rfl)))

/-! ### Counts (R2) -/

/-- The chains of changes that set a count to C, without a step. -/
theorem Moves.count_eq_or {p : Licence} {s t : State} (h : Moves p s t) (m : Ch) (steps : ¬ p.steps m) (confirms : ¬ p.confirms) :
    (t.units[m]'m.isLt).count = (s.units[m]'m.isLt).count ∨ p.counts m ∧ ∃ k, s.chan? m = some k ∧ (t.units[m]'m.isLt).count = k.c := by
  by_cases counts : p.counts m
  · induction h with
    | refl => exact .inl rfl
    | state n new _ _ ih => rwa [setState_count]
    | unit n u _ hc _ ih =>
      rw [setUnit_unit]
      split
      · rename_i e
        subst e
        rwa [hc]
      · exact ih
    | step n up _ hn _ ih =>
      rw [State.judgeLamp_units, setUnit_unit, if_neg (fun e : m = n => steps (e ▸ hn))]
      exact ih
    | count n k before hn chan ih =>
      rw [State.setCount, State.judgeLamp_units, setUnit_unit]
      split
      · rename_i e
        subst e
        refine .inr ⟨counts, k, ?_, rfl⟩
        rw [← chan]
        unfold State.chan?
        rw [(before.config confirms).1]
      · exact ih
    | referenced | submitState | submitDraw | report | raise | clear | confirm | lamp | session => simpa using ‹_ ∨ _›
    | mark | condition => assumption
    | aside u _ hu _ _ ih => rwa [show u.units = _ from congrArg (·.units) hu]
    | rest _ ih => rwa [kept_count (finish_kept _)]
  · exact .inl (h.shifts.count_eq m steps counts)

/-- The count after a step that is not refused. -/
theorem step_count (u : ChanUnit) (up : Bool) (now : Nat) (h : stepRefused u.count up = false) :
    (u.step up now).count = u.count + 1 ∨ (u.step up now).count + 1 = u.count := by
  cases up with
  | true => exact .inl rfl
  | false =>
    simp only [stepRefused, Bool.false_eq_true, if_false, decide_eq_false_iff_not] at h
    exact .inr (by simp [ChanUnit.step]; omega)

section

variable {p : Licence} {s : State} {n : Ch}

/-- The count after the decoder's work: as it was, or one step from there. -/
def CountStepped (s t : State) (n : Ch) : Prop :=
  (t.units[n]'n.isLt).count = (s.units[n]'n.isLt).count ∨ (t.units[n]'n.isLt).count = (s.units[n]'n.isLt).count + 1 ∨ (t.units[n]'n.isLt).count + 1 = (s.units[n]'n.isLt).count

theorem Moves.countStepped {t : State} (h : Moves .plain s t) : CountStepped s t n :=
  .inl (h.shifts.count_eq n (fun h => h) (fun h => h))

theorem CountStepped.of_count {s s' t : State} (h : CountStepped s t n) (same : (s.units[n]'n.isLt).count = (s'.units[n]'n.isLt).count) :
    CountStepped s' t n := by
  unfold CountStepped at h ⊢
  rwa [same] at h

theorem stepCount_count (s : State) (n : Ch) (up : Bool) : CountStepped s (s.stepCount n up) n := by
  unfold State.stepCount
  split
  · split
    · exact (Moves.refl.encoderFault n).countStepped
    · exact .inl rfl
  · rename_i made
    have rest : ((((s.setUnit n ((s.units[n]'n.isLt).step up s.now)).judgeLamp).compareStep n).units[n]).count =
        ((s.units[n]'n.isLt).step up s.now).count := by
      rw [((Moves.start .plain _).compareStep n).shifts.count_eq n (fun h => h) (fun h => h), State.judgeLamp_units, setUnit_unit,
        if_pos rfl]
    unfold CountStepped
    rw [rest]
    exact .inr (step_count _ _ _ (by simpa using made))

theorem quadTransition_count (s : State) (n : Ch) (k : ChanCfg) (a b : Bool) :
    CountStepped s (s.quadTransition n k a b) n := by
  have same : ((s.setUnit n { s.units[n]'n.isLt with heldA := a, heldB := b }).units[n]).count = (s.units[n]'n.isLt).count := by
    rw [setUnit_unit, if_pos rfl]
  unfold State.quadTransition
  dsimp only
  split
  · exact .inl same
  · exact (stepCount_count _ n _).of_count same
  · exact (stepCount_count _ n _).of_count same
  · exact ((Moves.start .plain _).illegalTransition n).countStepped.of_count same

theorem decode_count (s : State) (n : Ch) (k : ChanCfg) (u : ChanUnit) (a b : Bool) : CountStepped s (s.decode n k u a b) n := by
  unfold State.decode
  split
  · split
    · unfold State.singleEdge
      split
      · exact .inl rfl
      · exact stepCount_count s n _
    · exact .inl rfl
  · split
    · exact .inl rfl
    · exact quadTransition_count s n k a b

theorem sampled_count (s : State) (n : Ch) (k : ChanCfg) (a b i : LineRun) : CountStepped s (s.sampled n k a b i) n :=
  (decode_count _ n k _ _ _).of_count (by rw [setUnit_unit, if_pos rfl]; rfl)

theorem sampled_chan (s : State) (n m : Ch) (k : ChanCfg) (a b i : LineRun) :
    (s.sampled n k a b i).chan? m = s.chan? m := by
  unfold State.chan? State.sampled
  rw [decode_config]
  rfl

/-- R2 to R11: what a sample of a channel's encoder lines does to its count. -/
theorem encoderLevelAccepted_count {a b i : LineRun} {s t : State} {n : Ch}
    (h : exec (.encoderLevelAccepted n a b i) s = .next t) :
    CountStepped s t n ∨ ∃ k, s.chan? n = some k ∧ (t.units[n]'n.isLt).count = k.c := by
  have h : execEncoderLevelAccepted n a b i s = .next t := h
  cases chan : s.chan? n with
  | none =>
    simp only [execEncoderLevelAccepted, chan] at h
    cases h
    exact .inl (.inl rfl)
  | some k =>
    rw [execEncoderLevelAccepted_of_chan s chan] at h
    cases h
    have rest : Moves { Licence.plain with counts := fun m => m = n } (s.sampled n k a b i)
        (if !k.indexMet (s.units[n]'n.isLt).accA (s.units[n]'n.isLt).accB (s.units[n]'n.isLt).accI &&
            k.indexMet ((s.units[n]'n.isLt).accept k a b i).accA ((s.units[n]'n.isLt).accept k a b i).accB ((s.units[n]'n.isLt).accept k a b i).accI
          then (s.sampled n k a b i).indexEvent n k else s.sampled n k a b i).finish := by
      refine Moves.finish ?_
      split
      · exact Moves.refl.indexEvent rfl (by rw [sampled_chan, chan])
      · exact .refl
    obtain same | ⟨-, k', chan', count⟩ := rest.count_eq_or n (fun h => h) (fun h => h)
    · left
      unfold CountStepped
      rw [same]
      exact sampled_count s n k a b i
    · rw [sampled_chan, chan] at chan'
      obtain rfl := Option.some.inj chan'
      exact .inr ⟨k, rfl, count⟩

end

theorem tick_count (s : State) (n : Ch) : (s.tick.units[n]).count = (s.units[n]'n.isLt).count := by
  rw [tick_unit]
  rfl

/-- A stop moment of a channel sets its count to C or leaves it. -/
theorem exec_stop_count {c : Instr} {s t : State} {n : Ch} (ordinary : isOrdinary c = true) (h : exec c s = .next t)
    (steps : ¬ (licenceOf c s).steps n) (confirms : ¬ (licenceOf c s).confirms) :
    (t.units[n]'n.isLt).count = (s.units[n]'n.isLt).count ∨ ∃ k, s.chan? n = some k ∧ (t.units[n]'n.isLt).count = k.c :=
  ((exec_moves ordinary h).count_eq_or n steps confirms).imp_right (·.2)

/-- Settles O12: a chain of changes leaves every count that its licence does not name (`Shifts.count_eq`); an encoder sample of
the channel makes at most one step before its index event, and a stop moment of it sets the count to C or leaves it. -/
theorem countMovesOnlyByItsChannel : Obligations.CountMovesOnlyByItsChannel := by
  unfold Obligations.CountMovesOnlyByItsChannel
  intro c s t n h
  obtain ⟨straps, enc, panel, anem, rfl⟩ | ⟨-, rfl⟩ | moved := exec_cases h
  · exact .inr (.inr (.inr ⟨⟨straps, enc, panel, anem, rfl⟩, by rw [(fullReset_channels h n).1]; rfl⟩))
  · exact .inl (tick_count s n)
  · by_cases steps : (licenceOf c s).steps n
    · obtain ⟨a, b, i, rfl⟩ := steps
      obtain (same | stepped) | set := encoderLevelAccepted_count h
      · exact .inl same
      · exact .inr (.inl ⟨⟨a, b, i, rfl⟩, stepped.imp_right .inl⟩)
      · exact .inr (.inl ⟨⟨a, b, i, rfl⟩, .inr (.inr set)⟩)
    · by_cases counts : (licenceOf c s).counts n
      · obtain sample | ⟨p, q, stop⟩ := counts
        · exact absurd sample steps
        · have set := exec_stop_count (n := n) (by obtain rfl | rfl | rfl := stop <;> rfl) h steps (by
            obtain rfl | rfl | rfl := stop <;> simp [licenceOf])
          exact set.imp_right (fun set => .inr (.inl ⟨⟨p, q, stop⟩, set⟩))
      · exact .inl (moved.count_eq n steps counts)

end Sys2Proof.Machine

namespace Sys2Proof.Machine
set_option Elab.async false

/-! ### Notices and flags

What every command but the full reset, the restart's emptying of the pool and the transmitter's own work does to the pool and to
the raised flags: it submits notices, and raises and clears flags (`Reports`). -/

/-- `t` comes from `s` by submissions, raises, clears that the licence covers, and changes of anything but pool, address and
raised flags. -/
inductive Reports (p : Licence) (s : State) : State → Prop
  | refl : Reports p s s
  | submit {t : State} (e : Notice) (r : Nat) : Reports p s t → Reports p s (t.submit e r)
  | raise {t : State} (i : Fin 21) : Reports p s t → Reports p s (t.raiseAt i)
  | clear {t : State} (i : Fin 21) : Reports p s t → p.clears i → Reports p s (t.clearAt i)
  | aside {t : State} (u : State) : Reports p s t → u.line.tx = t.line.tx → u.line.waiting = t.line.waiting →
      u.line.nextSeq = t.line.nextSeq → u.port.ownAddress = t.port.ownAddress →
      (∀ i : Fin 21, (u.flags[i]'i.isLt).raised = (t.flags[i]'i.isLt).raised) → Reports p s u

section

variable {p : Licence} {s t : State}

theorem Reports.trans {u : State} (h : Reports p s t) (h' : Reports p t u) : Reports p s u := by
  induction h' with
  | refl => exact h
  | submit e r _ ih => exact ih.submit e r
  | raise i _ ih => exact ih.raise i
  | clear i _ hc ih => exact ih.clear i hc
  | aside u _ tx waiting seq own flags ih => exact ih.aside u tx waiting seq own flags

/-- A change that leaves line, address and flags. -/
theorem Reports.frame (h : Reports p s t) {u : State} (line : u.line = t.line) (own : u.port.ownAddress = t.port.ownAddress)
    (flags : u.flags = t.flags) : Reports p s u :=
  h.aside u (by rw [line]) (by rw [line]) (by rw [line]) own (by simp [flags])

@[simp] theorem submitState_flags (s : State) (n : Ch) : (s.submitState n).flags = s.flags := by simp [State.submitState]

theorem setFlag_raised (s : State) (i j : Fin 21) (f : Flag) :
    (s.setFlag i f).flags[j] = if j = i then f else s.flags[j]'j.isLt := by
  by_cases hj : j = i
  · subst hj
    simp
  · have : i.val ≠ j.val := fun e => hj (Fin.ext e.symm)
    simp [this, hj]

theorem Reports.condition (h : Reports p s t) (f : FlagId) (b : Bool) : Reports p s (t.setCondition f b) := by
  refine h.aside _ rfl rfl rfl rfl (fun i => ?_)
  unfold State.setCondition
  rw [setFlag_raised]
  split
  · rename_i e
    subst e
    rfl
  · rfl

theorem Reports.submitState (h : Reports p s t) (n : Ch) : Reports p s (t.submitState n) :=
  (h.submit (.state n (t.view n)) 12).frame rfl rfl rfl

theorem Reports.checkView (h : Reports p s t) (n : Ch) : Reports p s (t.checkView n) := by
  unfold State.checkView
  split
  · exact h.submitState n
  · exact h

theorem Reports.submitDraw (h : Reports p s t) (c : DrawContent) (hold : Nat) : Reports p s (t.submitDraw c hold) :=
  (h.submit (.draw c hold) t.drawRank).frame rfl rfl rfl

theorem Reports.lamp (h : Reports p s t) : Reports p s t.judgeLamp := h.frame (by simp) (by simp) (by simp)

theorem Reports.checkLastTravel (h : Reports p s t) (old : ChState) : Reports p s (t.checkLastTravel old) := by
  obtain ⟨e, -⟩ | ⟨c, -, -, -, e⟩ := checkLastTravel_cases t old <;> rw [e]
  · exact h
  · exact h.submitDraw _ _

theorem Reports.askReview (h : Reports p s t) : Reports p s t.askReview := h.frame (by simp) (by simp) (by simp)

theorem Reports.state (h : Reports p s t) (n : Ch) (new : ChState) : Reports p s (t.setState n new) := by
  obtain ⟨u, eq, -, -, -, line⟩ := setState_pre t n new
  have kept : u.kept = t.kept := by
    rw [← setState_kept t n new, eq, checkLastTravel_kept, judgeLamp_kept, checkView_kept]
  rw [eq]
  exact ((h.frame line (kept_ownAddress kept) (kept_flags kept)).checkView n).lamp.checkLastTravel _

theorem Reports.referenced (h : Reports p s t) (n : Ch) (b : Bool) : Reports p s (t.setReferenced n b) := by
  unfold State.setReferenced
  split
  · exact h
  · exact (((h.frame (u := t.setRec n { t.recs[n]'n.isLt with referenced := b }) rfl rfl rfl).askReview).checkView n).lamp

/-- Reviews and evaluations report through the changes of channels, the lamp and the DRAWs. -/
theorem Reports.settles (h : Reports p s t) {r : Prop} {l : Option Ch} {u : State} (hu : Settles r l t u) : Reports p s u := by
  induction hu with
  | refl => exact h
  | turn _ _ ih => exact ih.state _ _
  | @create u n x _ _ ih =>
    exact ((ih.frame (u := u.setUnit n { u.units[n]'n.isLt with illegal := 0, indexRecord := none }) rfl rfl rfl).state n (.waiting x)).frame
      (State.askEval_line _) (congrArg (·.ownAddress) (State.askEval_port _)) (State.askEval_flags _)
  | @ended u q _ _ _ _ _ ih => exact (ih.frame (u := { u with port := { u.port with session := none, store := none } }) rfl rfl rfl).lamp
  | marks v e _ ih => exact ih.frame rfl rfl rfl
  | review c _ _ _ _ ih => exact ih.frame rfl rfl rfl
  | aside d h _ ih => exact ih.frame rfl rfl rfl
  | draw c _ _ ih => exact ih.submitDraw _ _

theorem Moves.reports (h : Moves p s t) : Reports p s t := by
  induction h with
  | refl => exact .refl
  | state n new _ _ ih => exact ih.state n new
  | unit n u _ _ _ ih => exact ih.frame rfl rfl rfl
  | step n up _ _ _ ih => exact (ih.frame (u := State.setUnit _ n _) rfl rfl rfl).lamp
  | count n k _ _ _ ih => exact (ih.frame (u := State.setUnit _ n _) rfl rfl rfl).lamp
  | referenced n b _ ih => exact ih.referenced n b
  | mark n r _ _ _ ih => exact ih.frame rfl rfl rfl
  | submitState n _ ih => exact ih.submitState n
  | submitDraw c h _ ih => exact ih.submitDraw c h
  | report e r _ _ ih => exact ih.submit e r
  | raise i _ ih => exact ih.raise i
  | clear i _ hc ih => exact ih.clear i hc
  | condition f b _ _ _ ih => exact ih.condition f b
  | @session t q x _ ih =>
    exact (ih.frame (u := { t with port := { t.port with session := q, store := x } }) rfl rfl rfl).lamp
  | confirm q _ _ ih => exact ih.frame (by simp [State.confirmLearn]) (by simp [State.confirmLearn]) (by simp [State.confirmLearn])
  | lamp _ ih => exact ih.lamp
  | rest _ ih => exact ih.settles (finish_settles _)
  | aside u _ hu _ _ ih =>
    exact ih.aside u (congrArg (·.line.tx) hu) (congrArg (·.line.waiting) hu) (congrArg (·.line.nextSeq) hu)
      (congrArg (·.port.ownAddress) hu) (fun i => congrArg (·.flags[i].raised) hu)

theorem Reports.moves {u : State} (h : Reports p s t) (m : Moves p t u) : Reports p s u := h.trans m.reports

/-! #### The ends of reads -/

section

variable (h : Reports p s t)

include h

theorem Reports.beginCondition (f : FlagId) : Reports p s (t.beginCondition f) := by
  unfold State.beginCondition
  split
  · exact h
  · exact (h.condition f true).raise _

theorem Reports.endCondition (f : FlagId) : Reports p s (t.endCondition f) := h.condition f false

theorem Reports.eachChannel {f : Ch → State → State} (hf : ∀ (n : Ch) (u : State), Reports p s u → Reports p s (f n u)) :
    Reports p s (t.eachChannel f) := by
  have fold : ∀ (ns : List Ch) (u : State), Reports p s u → Reports p s (ns.foldl (fun s n => f n s) u) := by
    intro ns
    induction ns with
    | nil => exact fun _ hu => hu
    | cons n ns ih => exact fun u hu => ih _ (hf n u hu)
  exact fold channels t h

theorem Reports.submitStates : Reports p s t.submitStates := h.eachChannel (fun n _ hu => hu.submitState n)

theorem Reports.submitGust : Reports p s t.submitGust := (h.submit _ _).frame rfl rfl rfl

theorem Reports.offerGust : Reports p s t.offerGust := by
  unfold State.offerGust
  split
  · exact h.submitGust
  · exact h

theorem Reports.beginTaking : Reports p s t.beginTaking := by
  unfold State.beginTaking
  split
  · exact h.aside _ rfl rfl rfl rfl (fun _ => rfl)
  · exact h

theorem Reports.startListening : Reports p s t.startListening := h.frame rfl rfl rfl

theorem Reports.readEnded (image : Option Memory) (config : Option RunCfg) :
    Reports p s { t with port := t.port.readEnded image config } := h.frame rfl rfl rfl

theorem Reports.startUpInvalid (image : Option Memory) : Reports p s (t.startUpInvalid image) :=
  ((((h.readEnded image none).beginCondition .configStation).startListening).submitStates).lamp.beginTaking

theorem Reports.adoptUnits (was : Ch → Bool) (pins : PinSample) : Reports p s (t.adoptUnits was pins) := by
  refine h.eachChannel (fun n u hu => ?_)
  split
  · exact hu
  · exact hu.frame rfl rfl rfl

theorem Reports.startRain (free : p.free .rain) (c : RunCfg) (pins : PinSample) : Reports p s (t.startRain c pins) := by
  have fresh : Reports p s { t with rain := { RainFront.reset with state := some .capturing } } := h.frame rfl rfl rfl
  exact fresh.moves ((Moves.start p _).takeRain free c _)

theorem Reports.startWeather (free : p.free .rain) (c : RunCfg) (pins : PinSample) : Reports p s (t.startWeather c pins) := by
  have rain : Reports p s (if c.rainFitted then t.startRain c pins else t) := by
    split
    · exact h.startRain free c pins
    · exact h
  unfold State.startWeather
  dsimp only
  split
  · split
    · exact rain.frame rfl rfl rfl
    · exact rain.frame rfl rfl rfl
  · split
    · exact rain.frame rfl rfl rfl
    · exact rain

theorem Reports.startTimers (c : RunCfg) : Reports p s (t.startTimers c) := h.frame rfl rfl rfl

theorem Reports.startDeciding : Reports p s t.startDeciding := by
  have timed : Reports p s { t with eval := { t.eval with timer := some 10 } } := h.frame rfl rfl rfl
  exact timed.moves ((Moves.start p _).askReview.askEval)

theorem Reports.judgePanel (c : RunCfg) :
    Reports p s ((t.setPanel (t.panel.startJudging c)).eachChannel (fun n s => s.holdForMaint n)) := by
  have judging : Reports p s (t.setPanel (t.panel.startJudging c)) := h.frame rfl rfl rfl
  exact judging.moves ((Moves.start p _).eachChannel (fun n _ hu => hu.holdForMaint n))

theorem Reports.channelErrors (c : RunCfg) :
    Reports p s (t.eachChannel (fun n s => if c.inError n then s.beginCondition (.configChannel n) else s)) :=
  h.eachChannel (fun n u hu => by
    split
    · exact hu.beginCondition _
    · exact hu)

theorem Reports.startUpValid (free : p.free .rain) (image : Memory) (c : RunCfg) (pins : PinSample) :
    Reports p s (t.startUpValid image c pins) := by
  have weather := (((h.readEnded (some image) (some c)).channelErrors c).adoptUnits (fun _ => false) pins).startWeather free c pins
  exact ((((weather.startTimers c).judgePanel c).submitStates.offerGust.lamp).beginTaking.startDeciding).moves
    (Moves.start p _).finish

theorem Reports.rereadChannel (n : Ch) : Reports p s (State.rereadChannel n t) := by
  unfold State.rereadChannel
  split
  · exact h
  · exact ((h.state n .still).endCondition _).endCondition _

theorem Reports.rereadRain (free : p.free .rain) (old new : Option RunCfg) (pins : PinSample) :
    Reports p s (t.rereadRain old new pins) := by
  have fresh : Reports p s { t with rain := RainFront.reset } := h.frame rfl rfl rfl
  unfold State.rereadRain
  split
  · exact fresh.endCondition _
  · split
    · exact fresh.endCondition _
    · split
      · exact h
      · exact h.startRain free _ pins

theorem Reports.withdrawGust : Reports p s t.withdrawGust := h.frame rfl rfl rfl

theorem Reports.rereadAnem (old new : Option RunCfg) (pins : PinSample) : Reports p s (t.rereadAnem old new pins) := by
  unfold State.rereadAnem
  split
  · split
    · exact h
    · exact h.frame rfl rfl rfl
  · have stopped : Reports p s { t with
        wind := { t.wind with window := none, silence := none, silencePassed := false, excluded := false } } := h.frame rfl rfl rfl
    exact (stopped.endCondition .windSensor).withdrawGust

theorem Reports.rereadVane (old new : Option RunCfg) (pins : PinSample) : Reports p s (t.rereadVane old new pins) := by
  unfold State.rereadVane
  split
  · exact h.frame rfl rfl rfl
  · split
    · exact h.frame rfl rfl rfl
    · split
      · exact h
      · exact h.frame rfl rfl rfl

theorem Reports.rereadIsolation (new : Option RunCfg) : Reports p s (t.rereadIsolation new) := by
  unfold State.rereadIsolation
  split
  · have ended : Reports p s { t with handler := { t.handler with isolated := false, isolation := none } } := h.frame rfl rfl rfl
    exact ended.endCondition .isolation
  · split
    · exact h
    · exact h.frame rfl rfl rfl

theorem Reports.rereadSensors (free : p.free .rain) (old new : Option RunCfg) (pins : PinSample) :
    Reports p s ((((t.rereadRain old new pins).rereadAnem old new pins).rereadVane old new pins).rereadIsolation new) :=
  (((h.rereadRain free old new pins).rereadAnem old new pins).rereadVane old new pins).rereadIsolation new

theorem Reports.rereadDraw (old new : Option RunCfg) : Reports p s (t.rereadDraw old new) := by
  unfold State.rereadDraw
  split
  · exact (h.submitDraw _ _).frame rfl rfl rfl
  · exact h

theorem Reports.rereadPanel (new : Option RunCfg) : Reports p s (t.rereadPanel new) := by
  unfold State.rereadPanel
  split
  · exact h.frame rfl rfl rfl
  · exact h.judgePanel _

theorem Reports.raiseHolding : Reports p s t.raiseHolding := by
  refine h.moves ((Moves.start p t).foldl flagOrder (fun i u hu => ?_))
  split
  · exact hu.raise i
  · exact hu

theorem Reports.rereadWetness : Reports p s t.rereadWetness := by
  unfold State.rereadWetness
  split
  · exact h.moves (((Moves.start p t).submitWetness _ _ _).setRefresh _)
  · exact h

theorem Reports.rereadEval (new : Option RunCfg) : Reports p s (t.rereadEval new) := by
  unfold State.rereadEval
  split
  · exact h.frame rfl rfl rfl
  · exact h.startDeciding

theorem Reports.rereadConditions (new : Option RunCfg) : Reports p s (t.rereadConditions new) :=
  (h.condition .configStation new.isNone).eachChannel (fun n _ hu => hu.condition (.configChannel n) _)

theorem Reports.rereadReports (old new : Option RunCfg) : Reports p s
    ((((((t.startListening).rereadDraw old new).rereadPanel new).submitStates).offerGust).rereadWetness).raiseHolding :=
  ((h.startListening.rereadDraw old new).rereadPanel new).submitStates.offerGust.rereadWetness.raiseHolding

theorem Reports.rereadEnd (free : p.free .rain) (image : Option Memory) (new : Option RunCfg) (pins : PinSample) :
    Reports p s (t.rereadEnd image new pins) := by
  have conditions := ((h.readEnded image new).rereadConditions new).eachChannel (fun n _ hu => hu.rereadChannel n)
  exact (((((conditions.adoptUnits _ pins).rereadSensors free _ new pins).rereadReports _ new).rereadEval new).moves
    (Moves.start p _).lamp).moves (Moves.start p _).finish

/-! #### The restart -/

theorem Reports.restartChannel (n : Ch) : Reports p s (State.restartChannel n t) := by
  have still : Reports p s (match t.stateOf n with
      | .faulted _ _ => t
      | _ => t.toStill n) := by
    split
    · exact h
    · exact h.state n .still
  have cleared (u : State) (hu : Reports p s u) : Reports p s (((u.setRec n { u.recs[n]'n.isLt with refusal := .accepted }).setUnit n
      { (u.setRec n { u.recs[n]'n.isLt with refusal := .accepted }).units[n] with
        illegal := 0, indexSeen := false, indexRecord := none }).checkView n) :=
    (hu.frame (u := ((u.setRec n { u.recs[n]'n.isLt with refusal := .accepted }).setUnit n _)) rfl rfl rfl).checkView n
  exact cleared _ still

/-- The travels end, with their reports, before the pool is emptied. -/
theorem Reports.restartTravels : Reports p s ((t.restartPort.eachChannel State.restartChannel).endCondition .lineFault) := by
  have port : Reports p s t.restartPort := h.frame rfl rfl rfl
  exact (port.eachChannel (fun n _ hu => hu.restartChannel n)).endCondition .lineFault

theorem Reports.clearAll (clears : ∀ i, p.clears i) : Reports p s t.clearAll :=
  h.moves ((Moves.start p t).foldl flagOrder (fun i _ hu => hu.clear i (clears i)))

end

end

end Sys2Proof.Machine

namespace Sys2Proof.Machine
set_option Elab.async false

theorem Reports.start (p : Licence) (s : State) : Reports p s s := .refl

theorem next_inj {s t : State} (h : (.next s : Result) = .next t) : t = s := (Host.Outcome.next.inj h).symm

/-! ### Which commands report, and what the others do to the line -/

/-- A command whose work on pool and flags is a chain of `Reports`. -/
def isReporting (c : Instr) : Bool :=
  isOrdinary c || match c with
    | .stationTimeStep | .readTryFailed | .configReadEnd .. | .rereadEnd .. | .refusalPatternEnd => true
    | _ => false

theorem execReadTryFailed_reports {p : Licence} (free : p.free .rain) {s t : State} (h : execReadTryFailed s = .next t) :
    Reports p s t := by
  unfold execReadTryFailed at h
  split at h
  · split at h
    · rw [next_inj h]
      exact (Reports.start p s).frame rfl rfl rfl
    · split at h
      · rw [next_inj h]
        exact (Reports.start p s).rereadEnd free none none PinSample.blank
      · rw [next_inj h]
        exact (Reports.start p s).startUpInvalid none
  · rw [next_inj h]
    exact .refl

theorem execConfigReadEnd_reports {p : Licence} (free : p.free .rain) {bytes : List Byte} {pins : PinSample} {s t : State}
    (h : execConfigReadEnd bytes pins s = .next t) : Reports p s t := by
  unfold execConfigReadEnd at h
  split at h
  · rw [next_inj h]
    exact .refl
  · split at h
    · dsimp only at h
      split at h
      · rw [next_inj h]
        exact (Reports.start p s).startUpInvalid _
      · rw [next_inj h]
        exact (Reports.start p s).startUpValid free _ _ pins
    · rw [next_inj h]
      exact .refl

theorem execRereadEnd_reports {p : Licence} (free : p.free .rain) {bytes : List Byte} {pins : PinSample} {s t : State}
    (h : execRereadEnd bytes pins s = .next t) : Reports p s t := by
  unfold execRereadEnd at h
  split at h
  · rw [next_inj h]
    exact .refl
  · split at h
    · rw [next_inj h]
      exact (Reports.start p s).rereadEnd free _ _ pins
    · rw [next_inj h]
      exact .refl

theorem execRefusalPatternEnd_reports {p : Licence} {s t : State} (h : execRefusalPatternEnd s = .next t) : Reports p s t := by
  unfold execRefusalPatternEnd at h
  split at h
  · cases h
    exact .refl
  · split at h
    · cases h
      exact (Reports.start p s).frame rfl rfl rfl
    · cases h
      exact .refl

theorem tick_reports {p : Licence} (s : State) : Reports p s s.tick :=
  (Reports.start p s).aside _ rfl rfl rfl rfl (fun _ => rfl)

theorem exec_reports {c : Instr} (hc : isReporting c = true) {s t : State} (h : exec c s = .next t) :
    Reports (licenceOf c s) s t := by
  by_cases ordinary : isOrdinary c = true
  · exact (exec_moves ordinary h).reports
  · rw [Bool.not_eq_true] at ordinary
    cases c, ordinary using special_commands with
    | stationTimeStep =>
      cases h
      exact tick_reports s
    | readTryFailed => exact execReadTryFailed_reports (by exact rfl) h
    | configReadEnd bytes pins => exact execConfigReadEnd_reports (by exact rfl) h
    | rereadEnd bytes pins => exact execRereadEnd_reports (by exact rfl) h
    | refusalPatternEnd => exact execRefusalPatternEnd_reports h
    | fullReset | warmRestart | transmissionStart | frameSuccess | arbitrationLoss | bitError | bitErrorHoldEnd
    | startBitFromAnotherStation => cases hc

/-- What the transmitter's commands do to the pool (R131, R137, R139): nothing, the head is LOCKED, the LOCKED notice leaves, is
kept for a dominant hold, or returns. -/
inductive LineCtl.Transmits (l : LineCtl) : LineCtl → Prop
  | same (m : LineCtl) : m.tx = l.tx → m.waiting = l.waiting → m.nextSeq = l.nextSeq → LineCtl.Transmits l m
  | locks (m : LineCtl) (e : PoolEntry) (frame : List Bool) : l.tx = .notSending → l.waiting = e :: m.waiting →
      m.tx = .sending e frame 0 → m.nextSeq = l.nextSeq → LineCtl.Transmits l m
  | sent (m : LineCtl) : m.tx = .notSending → m.waiting = l.waiting → m.nextSeq = l.nextSeq → LineCtl.Transmits l m
  | holds (m : LineCtl) (e : PoolEntry) : l.tx.locked? = some e → m.tx = .holding e 0 → m.waiting = l.waiting →
      m.nextSeq = l.nextSeq → LineCtl.Transmits l m
  | returned (m : LineCtl) (e : PoolEntry) : l.tx.locked? = some e → m.tx = .notSending →
      m.waiting = poolReturn e l.waiting → m.nextSeq = l.nextSeq → LineCtl.Transmits l m

theorem LineCtl.Transmits.out {s : State} (m : LineCtl) (h : s.line.Transmits m) :
    ∃ l, s.line.Transmits l ∧ s.setLine m = s.setLine l := ⟨m, h, rfl⟩

theorem execTransmissionStart_transmits {s t : State} (h : execTransmissionStart s = .next t) :
    ∃ l, s.line.Transmits l ∧ t = s.setLine l := by
  unfold execTransmissionStart at h
  split at h
  · rename_i a e w own tx waiting
    split at h
    · cases h
      exact LineCtl.Transmits.out _ (.locks _ e _ tx waiting rfl rfl)
    · cases h
      exact ⟨_, .same _ rfl rfl rfl, rfl⟩
  · cases h
    exact ⟨_, .same _ rfl rfl rfl, rfl⟩

theorem execFrameSuccess_transmits {s t : State} (h : execFrameSuccess s = .next t) :
    ∃ l, s.line.Transmits l ∧ t = s.setLine l := by
  unfold execFrameSuccess at h
  split at h
  · split at h
    · cases h
      exact LineCtl.Transmits.out _ (.sent _ rfl rfl rfl)
    · cases h
      exact ⟨_, .same _ rfl rfl rfl, rfl⟩
  · cases h
    exact ⟨_, .same _ rfl rfl rfl, rfl⟩

theorem execArbitrationLoss_transmits {pos : Nat} {s t : State} (h : execArbitrationLoss pos s = .next t) :
    ∃ l, s.line.Transmits l ∧ t = s.setLine l := by
  unfold execArbitrationLoss at h
  split at h
  · rename_i a e frame sent own tx
    split at h
    · cases h
      exact LineCtl.Transmits.out _ (.returned _ e (by rw [tx]; rfl) rfl rfl rfl)
    · cases h
      exact ⟨_, .same _ rfl rfl rfl, rfl⟩
  · cases h
    exact ⟨_, .same _ rfl rfl rfl, rfl⟩

theorem execBitError_transmits {pos : Nat} {s t : State} (h : execBitError pos s = .next t) :
    ∃ l, s.line.Transmits l ∧ t = s.setLine l := by
  unfold execBitError at h
  split at h
  · rename_i a e frame sent own tx
    split at h
    · cases h
      exact LineCtl.Transmits.out _ (.holds _ e (by rw [tx]; rfl) rfl rfl rfl)
    · cases h
      exact ⟨_, .same _ rfl rfl rfl, rfl⟩
  · cases h
    exact ⟨_, .same _ rfl rfl rfl, rfl⟩

theorem execStartBit_transmits {s t : State} (h : execStartBitFromAnotherStation s = .next t) :
    ∃ l, s.line.Transmits l ∧ t = s.setLine l := by
  have same : ∃ l, s.line.Transmits l ∧ s = s.setLine l := ⟨_, .same _ rfl rfl rfl, rfl⟩
  unfold execStartBitFromAnotherStation at h
  split at h
  · cases h
    exact same
  · split at h
    · split at h
      · cases h
        exact LineCtl.Transmits.out _ (.same _ rfl rfl rfl)
      · rename_i e _ tx
        cases h
        exact LineCtl.Transmits.out _ (.returned _ e (by rw [tx]; rfl) rfl rfl rfl)
      · cases h
        exact same
      · cases h
        exact same
    · cases h
      exact same

theorem execBitErrorHoldEnd_transmits {p : Licence} {b : Bool} {s t : State} (h : execBitErrorHoldEnd b s = .next t) :
    ∃ l, s.line.Transmits l ∧ Reports p (s.setLine l) t := by
  unfold execBitErrorHoldEnd at h
  split at h
  · rename_i e held tx
    split at h
    · cases h
      exact ⟨_, .same _ rfl rfl rfl, .refl⟩
    · have returned (m : LineCtl) (htx : m.tx = .notSending) (hw : m.waiting = poolReturn e s.line.waiting)
          (hn : m.nextSeq = s.line.nextSeq) : s.line.Transmits m := .returned m e (by rw [tx]; rfl) htx hw hn
      dsimp only at h
      split at h
      · cases h
        refine ⟨_, returned _ ?_ ?_ ?_, ((Reports.refl (s := s.setLine _)).beginCondition .lineFault).moves
          (Moves.start p _).finish⟩ <;> rfl
      · cases h
        refine ⟨_, returned _ ?_ ?_ ?_, .refl⟩ <;> rfl
  · cases h
    exact ⟨_, .same _ rfl rfl rfl, .refl⟩

/-- Every command but the full reset and the restart: the transmitter's work, then reports. -/
theorem exec_transmits_reports {c : Instr} (reset : ∀ straps enc panel anem, c ≠ .fullReset straps enc panel anem)
    (restart : c ≠ .warmRestart) {s t : State} (h : exec c s = .next t) :
    ∃ l, s.line.Transmits l ∧ Reports (licenceOf c s) (s.setLine l) t := by
  have reported (hr : Reports (licenceOf c s) s t) : ∃ l, s.line.Transmits l ∧ Reports (licenceOf c s) (s.setLine l) t :=
    ⟨s.line, .same _ rfl rfl rfl, hr⟩
  have transmitted (ht : ∃ l, s.line.Transmits l ∧ t = s.setLine l) :
      ∃ l, s.line.Transmits l ∧ Reports (licenceOf c s) (s.setLine l) t := by
    obtain ⟨l, hl, rfl⟩ := ht
    exact ⟨l, hl, .refl⟩
  by_cases reporting : isReporting c = true
  · exact reported (exec_reports reporting h)
  · have ordinary : isOrdinary c = false := by
      refine Bool.eq_false_iff.mpr fun ordinary => reporting ?_
      unfold isReporting
      rw [ordinary]
      rfl
    cases c, ordinary using special_commands with
    | fullReset straps enc panel anem => exact absurd rfl (reset straps enc panel anem)
    | warmRestart => exact absurd rfl restart
    | transmissionStart => exact transmitted (execTransmissionStart_transmits h)
    | frameSuccess => exact transmitted (execFrameSuccess_transmits h)
    | arbitrationLoss pos => exact transmitted (execArbitrationLoss_transmits h)
    | bitError pos => exact transmitted (execBitError_transmits h)
    | bitErrorHoldEnd b => exact execBitErrorHoldEnd_transmits h
    | startBitFromAnotherStation => exact transmitted (execStartBit_transmits h)
    | stationTimeStep | readTryFailed | configReadEnd | rereadEnd | refusalPatternEnd => exact absurd rfl reporting

/-- The restart: the travels end with their reports, the pool is emptied, the flags clear into it (R190, R213). -/
theorem execWarmRestart_reports {s t : State} (h : execWarmRestart s = .next t) :
    t = s ∨ s.line.tx = .notSending ∧
      ∃ u, u = (s.restartPort.eachChannel State.restartChannel).endCondition .lineFault ∧
        Reports .plain s u ∧ t = u.restartBlocks.clearAll.judgeLamp := by
  unfold execWarmRestart at h
  split at h
  · rename_i pending
    rw [next_inj h]
    exact .inr ⟨pending.2.2, _, rfl, (Reports.start .plain s).restartTravels, restartNow_eq s⟩
  · rw [next_inj h]
    exact .inl rfl

/-- The reset values, with ANEM as it stands. -/
structure State.ResetWith (u : State) (anem : Bool) : Prop where
  line : u.line = LineCtl.reset
  flags : u.flags = State.reset.flags
  handler : u.handler = Handler.reset
  rain : u.rain = RainFront.reset
  arb : u.arb = Arbiter.reset
  wind : u.wind = { WindFront.reset with level := anem }
  vane : u.vane = State.reset.vane
  now : u.now = 0
  recs : u.recs = State.reset.recs
  eval : u.eval = Evaluator.reset

/-- A full reset: the reset values, then perhaps the station CONFIG condition. -/
theorem execFullReset_cases {straps : BitVec 7} {enc : Vector EncLevels 4} {panel : PanelLevels} {anem : Bool} {s t : State}
    (h : exec (.fullReset straps enc panel anem) s = .next t) :
    ∃ u : State, u.ResetWith anem ∧
      (u.port = { Port.reset with ownAddress := some straps.toNat, read := .reading 1 false } ∧ t = u ∨
        u.port = Port.reset ∧ t = u.beginCondition .configStation) := by
  have h : execFullReset straps enc panel anem s = .next t := h
  unfold execFullReset at h
  dsimp only at h
  split at h <;> cases h
  · refine ⟨_, ⟨?_, ?_, ?_, ?_, ?_, ?_, ?_, ?_, ?_, ?_⟩, .inl ⟨?_, rfl⟩⟩ <;> rfl
  · refine ⟨_, ⟨?_, ?_, ?_, ?_, ?_, ?_, ?_, ?_, ?_, ?_⟩, .inr ⟨?_, rfl⟩⟩ <;> rfl

/-! ### The order of the pool (R136 to R139) -/

/-- The coalescing key of a notice; none of an ALARM (R138). -/
def Notice.key : Notice → Option (Nat × Nat)
  | .wetness .. => some (0, 0)
  | .gust .. => some (1, 0)
  | .draw .. => some (2, 0)
  | .state n _ => some (3, n.val)
  | .alarm .. => none

theorem sameKey_iff (e f : Notice) : sameKey e f = true ↔ ∃ k, e.key = some k ∧ f.key = some k := by
  cases e <;> cases f <;> simp [sameKey, Notice.key, Fin.val_inj, eq_comm]

theorem sameKey_symm {e f : Notice} (h : sameKey e f = true) : sameKey f e = true := by
  obtain ⟨k, he, hf⟩ := (sameKey_iff e f).mp h
  exact (sameKey_iff f e).mpr ⟨k, hf, he⟩

theorem sameKey_trans {e f g : Notice} (h : sameKey e f = true) (h' : sameKey f g = true) : sameKey e g = true := by
  obtain ⟨k, he, hf⟩ := (sameKey_iff e f).mp h
  obtain ⟨l, hf', hg⟩ := (sameKey_iff f g).mp h'
  rw [hf] at hf'
  exact (sameKey_iff e g).mpr ⟨k, he, hf' ▸ hg⟩

theorem before_trans {e f g : PoolEntry} (h : e.before f = true) (h' : f.before g = true) : e.before g = true := by
  simp only [PoolEntry.before, Bool.or_eq_true, Bool.and_eq_true, decide_eq_true_eq] at *
  omega

theorem before_of_not {e f : PoolEntry} (h : e.before f = false) (seq : e.seq ≠ f.seq) : f.before e = true := by
  simp only [PoolEntry.before, Bool.or_eq_true, Bool.and_eq_true, decide_eq_true_eq, Bool.or_eq_false_iff,
    Bool.and_eq_false_iff, decide_eq_false_iff_not] at *
  omega

/-- Two WAITING notices of a pool in order (R136). -/
def PoolEntry.Ordered (e f : PoolEntry) : Prop := e.before f = true ∧ e.seq ≠ f.seq ∧ sameKey e.notice f.notice = false

/-- Two WAITING notices that may stand in one pool, in whatever order. -/
def PoolEntry.Apart (e f : PoolEntry) : Prop := e.seq ≠ f.seq ∧ sameKey e.notice f.notice = false

theorem PoolEntry.Apart.symm {e f : PoolEntry} (h : e.Apart f) : f.Apart e :=
  ⟨h.1.symm, by
    by_contra same
    rw [Bool.not_eq_false] at same
    exact absurd h.2 (by simp [sameKey_symm same])⟩

/-- Placing a notice that may stand with all others keeps the order. -/
theorem poolInsert_ordered {e : PoolEntry} {w : List PoolEntry} (hw : w.Pairwise PoolEntry.Ordered) (he : ∀ f ∈ w, e.Apart f) :
    (poolInsert e w).Pairwise PoolEntry.Ordered := by
  induction w with
  | nil => simp [poolInsert]
  | cons f w ih =>
    obtain ⟨first, rest⟩ := List.pairwise_cons.mp hw
    have apart := he f (List.mem_cons_self ..)
    unfold poolInsert
    split
    · rename_i before
      refine List.pairwise_cons.mpr ⟨fun g hg => ?_, hw⟩
      refine ⟨?_, he g hg⟩
      obtain rfl | later := List.mem_cons.mp hg
      · exact before
      · exact before_trans before (first g later).1
    · rename_i after
      refine List.pairwise_cons.mpr ⟨fun g hg => ?_, ih rest (fun g hg => he g (List.mem_cons_of_mem _ hg))⟩
      obtain rfl | later := (mem_poolInsert e g w).mp hg
      · exact ⟨before_of_not (by simpa using after) apart.1, apart.symm⟩
      · exact first g later

theorem ordered_apart {w : List PoolEntry} (hw : w.Pairwise PoolEntry.Ordered) {e f : PoolEntry} (he : e ∈ w) (hf : f ∈ w)
    (ne : e ≠ f) : e.Apart f := by
  have symm : Std.Symm PoolEntry.Apart := ⟨fun _ _ h => h.symm⟩
  exact (hw.imp (fun h => h.2)).forall he hf ne

/-- A pool in order holds no notice twice. -/
theorem ordered_nodup {w : List PoolEntry} (hw : w.Pairwise PoolEntry.Ordered) : w.Nodup :=
  hw.imp (fun h e => h.2.1 (congrArg (·.seq) e))

/-- What makes a WAITING list, with the next queued time, one of a pool in order. -/
structure PoolWell (w : List PoolEntry) (next : Nat) (locked : Option PoolEntry) : Prop where
  ordered : w.Pairwise PoolEntry.Ordered
  queued : ∀ e ∈ w, e.seq < next
  lockedQueued : ∀ e, locked = some e → e.seq < next ∧ ∀ f ∈ w, f.seq ≠ e.seq

theorem poolOrdered_iff (s : State) :
    s.PoolOrdered ↔ PoolWell s.line.waiting s.line.nextSeq s.line.tx.locked? :=
  ⟨fun h => ⟨h.1, h.2.1, h.2.2⟩, fun h => ⟨h.1, h.2, h.3⟩⟩

/-- A new notice, queued last, may be placed in part of the pool where no notice of its key stands. -/
theorem PoolWell.insert {w v : List PoolEntry} {next : Nat} {locked : Option PoolEntry} (h : PoolWell w next locked)
    (hv : v.Sublist w) {e : PoolEntry} (seq : e.seq = next) (key : ∀ f ∈ v, sameKey e.notice f.notice = false) :
    PoolWell (poolInsert e v) (next + 1) locked where
  ordered := poolInsert_ordered (h.ordered.sublist hv) (fun f hf => ⟨by
    have := h.queued f (hv.subset hf)
    omega, key f hf⟩)
  queued := fun f hf => by
    obtain rfl | hf := (mem_poolInsert e f v).mp hf
    · omega
    · have := h.queued f (hv.subset hf)
      omega
  lockedQueued := fun l hl => by
    obtain ⟨lt, ne⟩ := h.lockedQueued l hl
    refine ⟨by omega, fun f hf => ?_⟩
    obtain rfl | hf := (mem_poolInsert e f v).mp hf
    · omega
    · exact ne f (hv.subset hf)

/-- A coalescing notice takes the queued time of the old one in its place. -/
theorem PoolWell.coalesce {w : List PoolEntry} {next : Nat} {locked : Option PoolEntry} (h : PoolWell w next locked)
    {e old : PoolEntry} (hold : old ∈ w) (key : sameKey e.notice old.notice = true) :
    PoolWell (poolInsert { e with seq := old.seq } (w.erase old)) (next + 1) locked := by
  have others : ∀ f ∈ w.erase old, f ∈ w ∧ old.Apart f := fun f hf => by
    obtain ⟨ne, hf⟩ := (ordered_nodup h.ordered).mem_erase_iff.mp hf
    exact ⟨hf, ordered_apart h.ordered hold hf ne.symm⟩
  have mem : ∀ f ∈ poolInsert { e with seq := old.seq } (w.erase old), ∃ g ∈ w, f.seq = g.seq := fun f hf => by
    obtain rfl | hf := (mem_poolInsert _ f _).mp hf
    · exact ⟨old, hold, rfl⟩
    · exact ⟨f, (others f hf).1, rfl⟩
  refine ⟨poolInsert_ordered (h.ordered.sublist List.erase_sublist) (fun f hf => ?_), fun f hf => ?_, fun l hl => ?_⟩
  · obtain ⟨-, seq, apart⟩ := others f hf
    refine ⟨seq, ?_⟩
    by_contra same
    rw [Bool.not_eq_false] at same
    rw [sameKey_trans (sameKey_symm key) same] at apart
    cases apart
  · obtain ⟨g, hg, same⟩ := mem f hf
    have := h.queued g hg
    omega
  · obtain ⟨lt, ne⟩ := h.lockedQueued l hl
    refine ⟨by omega, fun f hf => ?_⟩
    obtain ⟨g, hg, same⟩ := mem f hf
    rw [same]
    exact ne g hg

theorem PoolWell.later {w : List PoolEntry} {next : Nat} {locked : Option PoolEntry} (h : PoolWell w next locked) :
    PoolWell w (next + 1) locked :=
  ⟨h.ordered, fun e he => (h.queued e he).trans (Nat.lt_succ_self _), fun e he =>
    ⟨(h.lockedQueued e he).1.trans (Nat.lt_succ_self _), (h.lockedQueued e he).2⟩⟩

/-- A submission keeps the order of the pool (R138, R140). -/
theorem PoolWell.submit {w : List PoolEntry} {next : Nat} {locked : Option PoolEntry} (h : PoolWell w next locked)
    (n : Nat) {e : PoolEntry} (seq : e.seq = next) : PoolWell (poolSubmit n e w) (next + 1) locked := by
  unfold poolSubmit
  split
  · rename_i old find
    exact h.coalesce (List.mem_of_find?_eq_some find) (by simpa using List.find?_some find)
  · rename_i find
    have key : ∀ f ∈ w, sameKey e.notice f.notice = false := by simpa using find
    split
    · exact h.insert (List.Sublist.refl w) seq key
    · split
      · exact h.later
      · split
        · exact h.insert List.erase_sublist seq (fun f hf => key f (List.mem_of_mem_erase hf))
        · exact h.later

theorem submit_poolOrdered {s : State} (h : s.PoolOrdered) (n : Notice) (r : Nat) : (s.submit n r).PoolOrdered := by
  rw [poolOrdered_iff] at h ⊢
  unfold State.submit
  split
  · exact h
  · exact h.submit _ rfl

/-- The pool after changes of anything else. -/
theorem poolOrdered_of_pool {s t : State} (tx : t.line.tx = s.line.tx) (waiting : t.line.waiting = s.line.waiting)
    (seq : t.line.nextSeq = s.line.nextSeq) (h : s.PoolOrdered) : t.PoolOrdered := by
  rw [poolOrdered_iff] at h ⊢
  rwa [tx, waiting, seq]

theorem raiseAt_poolOrdered {s : State} (h : s.PoolOrdered) (i : Fin 21) : (s.raiseAt i).PoolOrdered := by
  unfold State.raiseAt
  split
  · exact h
  · refine poolOrdered_of_pool (s := (s.setFlag i { s.flags[i]'i.isLt with raised := true }).submitAlarm i true) ?_ ?_ ?_
      (submit_poolOrdered (s := s.setFlag i _) h _ _) <;> simp

theorem clearAt_poolOrdered {s : State} (h : s.PoolOrdered) (i : Fin 21) : (s.clearAt i).PoolOrdered := by
  unfold State.clearAt
  split
  · refine poolOrdered_of_pool (s := (s.setFlag i { s.flags[i]'i.isLt with raised := false }).submitAlarm i false) ?_ ?_ ?_
      (submit_poolOrdered (s := s.setFlag i _) h _ _) <;> simp
  · exact h

theorem Reports.poolOrdered {p : Licence} {s t : State} (h : Reports p s t) (hs : s.PoolOrdered) : t.PoolOrdered := by
  induction h with
  | refl => exact hs
  | submit e r _ ih => exact submit_poolOrdered ih e r
  | raise i _ ih => exact raiseAt_poolOrdered ih i
  | clear i _ _ ih => exact clearAt_poolOrdered ih i
  | aside u _ tx waiting seq _ _ ih => exact poolOrdered_of_pool tx waiting seq ih

/-- The LOCKED notice returns to a pool in order (R139). -/
theorem PoolWell.returned {w : List PoolEntry} {next : Nat} {e : PoolEntry} (h : PoolWell w next (some e)) :
    PoolWell (poolReturn e w) next none := by
  obtain ⟨lt, ne⟩ := h.lockedQueued e rfl
  unfold poolReturn
  split
  · exact ⟨h.ordered, h.queued, by simp⟩
  · rename_i key
    have key : ∀ f ∈ w, sameKey e.notice f.notice = false := by simpa using key
    refine ⟨poolInsert_ordered h.ordered (fun f hf => ⟨(ne f hf).symm, key f hf⟩), fun f hf => ?_, by simp⟩
    obtain rfl | hf := (mem_poolInsert e f w).mp hf
    · exact lt
    · exact h.queued f hf

/-- The transmitter's work keeps the order of the pool (R137, R139). -/
theorem LineCtl.Transmits.poolWell {l m : LineCtl} (h : l.Transmits m) (hl : PoolWell l.waiting l.nextSeq l.tx.locked?) :
    PoolWell m.waiting m.nextSeq m.tx.locked? := by
  cases h with
  | same tx waiting seq => rwa [tx, waiting, seq]
  | locks e frame tx waiting tx' seq =>
    rw [waiting] at hl
    obtain ⟨first, rest⟩ := List.pairwise_cons.mp hl.ordered
    rw [tx', seq]
    refine ⟨rest, fun f hf => hl.queued f (List.mem_cons_of_mem _ hf), ?_⟩
    rintro _ ⟨⟩
    exact ⟨hl.queued e (List.mem_cons_self ..), fun f hf => (first f hf).2.1.symm⟩
  | sent tx waiting seq =>
    rw [tx, waiting, seq]
    exact ⟨hl.ordered, hl.queued, by simp [Transmitter.locked?]⟩
  | holds e locked tx waiting seq =>
    rw [tx, waiting, seq]
    rwa [locked] at hl
  | returned e locked tx waiting seq =>
    rw [tx, waiting, seq]
    rw [locked] at hl
    exact hl.returned

/-! ### The size of the pool (R136) -/

theorem raiseAt_poolSize {s : State} (i : Fin 21) (h : s.line.poolSize ≤ Config.poolCapacity) :
    (s.raiseAt i).line.poolSize ≤ Config.poolCapacity := by
  unfold State.raiseAt
  split
  · exact h
  · rw [State.judgeLamp_line]
    exact submit_poolSize (s.setFlag i _) _ _ h

theorem clearAt_poolSize {s : State} (i : Fin 21) (h : s.line.poolSize ≤ Config.poolCapacity) :
    (s.clearAt i).line.poolSize ≤ Config.poolCapacity := by
  unfold State.clearAt
  split
  · rw [State.judgeLamp_line]
    exact submit_poolSize (s.setFlag i _) _ _ h
  · exact h

theorem Reports.poolBounded {p : Licence} {s t : State} (h : Reports p s t) (hs : s.PoolBounded) : t.PoolBounded := by
  induction h with
  | refl => exact hs
  | submit e r _ ih => exact submit_poolSize _ e r ih
  | raise i _ ih => exact raiseAt_poolSize i ih
  | clear i _ _ ih => exact clearAt_poolSize i ih
  | aside u _ tx waiting _ _ _ ih =>
    unfold State.PoolBounded LineCtl.poolSize at ih ⊢
    rwa [tx, waiting]

/-- The transmitter's work makes the pool no larger. -/
theorem LineCtl.Transmits.poolSize_le {l m : LineCtl} (h : l.Transmits m) : m.poolSize ≤ l.poolSize := by
  unfold LineCtl.poolSize
  cases h with
  | same tx waiting _ => rw [tx, waiting]
  | locks e frame tx waiting tx' _ => simp [tx, tx', waiting, Transmitter.locked?]
  | sent tx waiting _ => simp [tx, waiting, Transmitter.locked?]
  | holds e locked tx waiting _ =>
    rw [tx, waiting, locked]
    exact Nat.le_refl _
  | returned e locked tx waiting _ =>
    rw [tx, waiting, locked]
    exact poolReturn_length e l.waiting

theorem Reports.tx_eq {p : Licence} {s t : State} (h : Reports p s t) : t.line.tx = s.line.tx := by
  have submit (u : State) (e : Notice) (r : Nat) : (u.submit e r).line.tx = u.line.tx := by rw [submit_line]
  induction h with
  | refl => rfl
  | submit e r _ ih => rw [submit, ih]
  | raise i _ ih =>
    unfold State.raiseAt State.submitAlarm
    split
    · exact ih
    · rw [State.judgeLamp_line, submit]
      exact ih
  | clear i _ _ ih =>
    unfold State.clearAt State.submitAlarm
    split
    · rw [State.judgeLamp_line, submit]
      exact ih
    · exact ih
  | aside u _ tx _ _ _ _ ih => rw [tx, ih]

/-! ### The pool of every command -/

/-- An invariant of the pool that the transmitter's work and reports keep, and that an empty pool has, every command keeps. -/
theorem exec_pool {P : State → Prop} (reports : ∀ (p : Licence) (s t : State), Reports p s t → P s → P t)
    (transmits : ∀ (s : State) (l : LineCtl), s.line.Transmits l → P s → P (s.setLine l))
    (empty : ∀ s : State, s.line.waiting = [] → s.line.tx = .notSending → P s) {c : Instr} {s t : State}
    (h : exec c s = .next t) (hs : P s) : P t := by
  by_cases reset : ∃ straps enc panel anem, c = .fullReset straps enc panel anem
  · obtain ⟨straps, enc, panel, anem, rfl⟩ := reset
    obtain ⟨u, was, ⟨-, rfl⟩ | ⟨-, rfl⟩⟩ := execFullReset_cases h
    · exact empty _ (by rw [was.line]; rfl) (by rw [was.line]; rfl)
    · exact reports .plain u _ (Reports.refl.beginCondition _) (empty u (by rw [was.line]; rfl) (by rw [was.line]; rfl))
  by_cases restart : c = .warmRestart
  · subst restart
    obtain same | ⟨idle, u, -, ended, eq⟩ := execWarmRestart_reports h
    · rw [same]
      exact hs
    · rw [eq]
      refine reports { Licence.plain with clears := fun _ => True } u.restartBlocks _
        ((Reports.start _ _).clearAll (fun _ => trivial)).lamp (empty _ rfl ?_)
      have same : u.line.tx = s.line.tx := ended.tx_eq
      exact same.trans idle
  · obtain ⟨l, hl, hr⟩ := exec_transmits_reports (fun a b c d e => reset ⟨a, b, c, d, e⟩) restart h
    exact reports _ _ _ hr (transmits s l hl hs)

/-- Settles O4: every command is transmitter's work, which keeps the pool or returns the LOCKED notice to its place, and then a
chain of reports, each of which is a submission (`PoolWell.submit`); the pool of a reset or a restart is empty. -/
theorem poolKept : Obligations.PoolKept := by
  unfold Obligations.PoolKept
  intro s t h
  refine ⟨fun hs => ?_, fun hs => ?_⟩
  · refine step_keeps (P := State.PoolBounded) (fun _ _ => id) (fun s hs => ?_) (fun c s t h hs => exec_pool
      (fun _ _ _ h => h.poolBounded) (fun s l hl hs => hl.poolSize_le.trans hs) (fun s hw htx => ?_) h hs) h hs
    · obtain ⟨eq, locked, -⟩ := s.line.bitTime_eq
      unfold State.PoolBounded LineCtl.poolSize
      rw [State.bitTime_line, locked, eq]
      exact hs
    · simp [State.PoolBounded, LineCtl.poolSize, hw, htx, Transmitter.locked?]
  · refine step_keeps (P := State.PoolOrdered) (fun _ _ => id) (fun s hs => ?_) (fun c s t h hs => exec_pool
      (fun _ _ _ h => h.poolOrdered) (fun s l hl hs => (poolOrdered_iff _).mpr (hl.poolWell ((poolOrdered_iff _).mp hs)))
      (fun s hw htx => ?_) h hs) h hs
    · obtain ⟨eq, locked, -⟩ := s.line.bitTime_eq
      rw [poolOrdered_iff] at hs ⊢
      rw [State.bitTime_line, locked, eq]
      exact hs
    · simp [State.PoolOrdered, hw, htx, Transmitter.locked?]

end Sys2Proof.Machine

namespace Sys2Proof.Machine
set_option Elab.async false

/-! ### Raised flags and their ALARMs (R183 to R190) -/

/-- Kind code and channel of a flag are those of its place (R128, R183, R186). -/
theorem alarm_eq (f : FlagId) : f.alarm = (flagCode f.index, flagChannel f.index) := by
  cases f with
  | obstruction n | encoder n | configChannel n =>
    revert n
    decide
  | _ => rfl

theorem raiseAt_raised {s : State} {i : Fin 21} (h : (s.flags[i]'i.isLt).raised = true) : s.raiseAt i = s := by
  unfold State.raiseAt
  rw [if_pos h]

theorem raiseAt_flagsVec {s : State} {i : Fin 21} (h : (s.flags[i]'i.isLt).raised = false) :
    (s.raiseAt i).flags = s.flags.set i { s.flags[i]'i.isLt with raised := true } := by
  unfold State.raiseAt State.submitAlarm
  rw [if_neg (by simp only [h, Bool.false_eq_true, not_false_eq_true])]
  simp only [State.judgeLamp_flags, State.submit_flags, State.setFlag_flags]

theorem clearAt_flagsVec {s : State} {i : Fin 21} (h : (s.flags[i]'i.isLt).raised = true) :
    (s.clearAt i).flags = s.flags.set i { s.flags[i]'i.isLt with raised := false } := by
  unfold State.clearAt State.submitAlarm
  rw [if_pos h]
  simp only [State.judgeLamp_flags, State.submit_flags, State.setFlag_flags]

theorem clearAt_cleared {s : State} {i : Fin 21} (h : (s.flags[i]'i.isLt).raised = false) : s.clearAt i = s := by
  unfold State.clearAt
  rw [if_neg (by simp only [h, Bool.false_eq_true, not_false_eq_true])]

theorem flag_eq_of_raised {x : Flag} {b : Bool} (h : x.raised = b) : x = { x with raised := b } := by
  cases x
  subst h
  rfl

theorem raiseAt_flags (s : State) (i j : Fin 21) :
    (s.raiseAt i).flags[j] = if j = i then { s.flags[i]'i.isLt with raised := true } else s.flags[j]'j.isLt := by
  cases raised : (s.flags[i]'i.isLt).raised with
  | false =>
    rw [show (s.raiseAt i).flags[j] = (s.flags.set i _)[j] from congrArg (·[j]) (raiseAt_flagsVec raised)]
    exact setFlag_raised s i j _
  | true =>
    rw [raiseAt_raised raised]
    split
    · rename_i e
      subst e
      exact flag_eq_of_raised raised
    · rfl

theorem clearAt_flags (s : State) (i j : Fin 21) :
    (s.clearAt i).flags[j] = if j = i then { s.flags[i]'i.isLt with raised := false } else s.flags[j]'j.isLt := by
  cases raised : (s.flags[i]'i.isLt).raised with
  | true =>
    rw [show (s.clearAt i).flags[j] = (s.flags.set i _)[j] from congrArg (·[j]) (clearAt_flagsVec raised)]
    exact setFlag_raised s i j _
  | false =>
    rw [clearAt_cleared raised]
    split
    · rename_i e
      subst e
      exact flag_eq_of_raised raised
    · rfl

/-- What a submission does to the line rests on the address and the line alone. -/
theorem submit_line_congr {s t : State} (port : t.port.ownAddress = s.port.ownAddress) (line : t.line = s.line) (e : Notice)
    (r : Nat) : (t.submit e r).line = (s.submit e r).line := by
  unfold State.submit
  rw [port, line]
  split
  · exact line
  · rfl

theorem raiseAt_line {s : State} {i : Fin 21} (h : (s.flags[i]'i.isLt).raised = false) :
    (s.raiseAt i).line = (s.submit (.alarm (flagCode i) (flagChannel i) true) 10).line := by
  unfold State.raiseAt State.submitAlarm
  rw [if_neg (by simp only [h, Bool.false_eq_true, not_false_eq_true]), State.judgeLamp_line]
  exact submit_line_congr (s := s) (t := s.setFlag i _) rfl rfl _ _

theorem clearAt_line {s : State} {i : Fin 21} (h : (s.flags[i]'i.isLt).raised = true) :
    (s.clearAt i).line = (s.submit (.alarm (flagCode i) (flagChannel i) false) 10).line := by
  unfold State.clearAt State.submitAlarm
  rw [if_pos h, State.judgeLamp_line]
  exact submit_line_congr (s := s) (t := s.setFlag i _) rfl rfl _ _

/-- A chain of reports clears no flag that its licence does not name (R185, R188). -/
theorem Reports.raised {p : Licence} {s t : State} (h : Reports p s t) {i : Fin 21} (clears : ¬ p.clears i)
    (hs : (s.flags[i]'i.isLt).raised = true) : (t.flags[i]'i.isLt).raised = true := by
  induction h with
  | refl => exact hs
  | submit e r _ ih => rwa [State.submit_flags]
  | raise j _ ih =>
    rw [raiseAt_flags]
    split
    · rfl
    · exact ih
  | clear j _ hj ih => rwa [clearAt_flags, if_neg (fun e : i = j => clears (e ▸ hj))]
  | aside u _ _ _ _ _ flags ih => rwa [flags]

/-! #### What a submission leaves in the pool while there is room -/

/-- No submission makes the pool smaller. -/
theorem poolSubmit_length_ge (locked : Nat) (e : PoolEntry) (w : List PoolEntry) :
    w.length ≤ (poolSubmit locked e w).length := by
  unfold poolSubmit
  split
  · rename_i old find
    have mem := List.mem_of_find?_eq_some find
    have := List.length_erase_of_mem mem
    rw [poolInsert_length]
    omega
  · split
    · rw [poolInsert_length]
      omega
    · split
      · exact Nat.le_refl _
      · rename_i v least
        split
        · have := List.length_erase_of_mem (leastUrgent_mem least)
          rw [poolInsert_length]
          omega
        · exact Nat.le_refl _

/-- While there is room left after a submission, it has joined, and every notice of another key stands where it stood. -/
theorem mem_poolSubmit_of_room {locked : Nat} {e : PoolEntry} {w : List PoolEntry}
    (room : (poolSubmit locked e w).length + locked < Config.poolCapacity) :
    (∃ f ∈ poolSubmit locked e w, f.notice = e.notice ∧ f.rank = e.rank) ∧
      ∀ f ∈ w, sameKey e.notice f.notice = false → f ∈ poolSubmit locked e w := by
  have bigger := poolSubmit_length_ge locked e w
  unfold poolSubmit
  split
  · rename_i old find
    refine ⟨⟨_, (mem_poolInsert _ _ _).mpr (.inl rfl), rfl, rfl⟩, fun f hf key => ?_⟩
    refine (mem_poolInsert _ _ _).mpr (.inr ((List.mem_erase_of_ne ?_).mpr hf))
    rintro rfl
    have same := List.find?_some find
    simp only [key, Bool.false_eq_true] at same
  · have small : w.length + locked < Config.poolCapacity := by
      omega
    rw [if_pos small]
    exact ⟨⟨e, (mem_poolInsert _ _ _).mpr (.inl rfl), rfl, rfl⟩, fun f hf _ => (mem_poolInsert _ _ _).mpr (.inr hf)⟩

theorem submit_own (s : State) (e : Notice) (r : Nat) : (s.submit e r).port.ownAddress = s.port.ownAddress := by simp

theorem submit_tx (s : State) (e : Notice) (r : Nat) : (s.submit e r).line.tx = s.line.tx := by rw [submit_line]

theorem submit_waiting_length_ge (s : State) (e : Notice) (r : Nat) :
    s.line.waiting.length ≤ (s.submit e r).line.waiting.length := by
  unfold State.submit
  split
  · exact Nat.le_refl _
  · exact poolSubmit_length_ge _ _ _

/-- The room a submission leaves was there before it. -/
theorem poolHasRoom_of_submit {s : State} {e : Notice} {r : Nat} (h : (s.submit e r).PoolHasRoom) : s.PoolHasRoom := by
  obtain ⟨own, room⟩ := h
  rw [submit_own] at own
  refine ⟨own, lt_of_le_of_lt ?_ room⟩
  unfold LineCtl.poolSize
  rw [submit_tx]
  exact Nat.add_le_add_right (submit_waiting_length_ge s e r) _

/-- While there is room left after a submission, its notice stands in the pool, and so does every one of another key. -/
theorem mem_submit_of_room {s : State} {e : Notice} {r : Nat} (h : (s.submit e r).PoolHasRoom) :
    (∃ f ∈ (s.submit e r).line.waiting, f.notice = e ∧ f.rank = r) ∧
      ∀ f ∈ s.line.waiting, sameKey e f.notice = false → f ∈ (s.submit e r).line.waiting := by
  obtain ⟨own, room⟩ := h
  rw [submit_own] at own
  obtain ⟨a, ha⟩ := Option.isSome_iff_exists.mp own
  have waiting : (s.submit e r).line.waiting = poolSubmit (if s.line.tx.locked?.isSome then 1 else 0)
      { notice := e, rank := r, seq := s.line.nextSeq } s.line.waiting := by
    simp only [State.submit, ha]
  unfold LineCtl.poolSize at room
  rw [submit_tx, waiting] at room
  rw [waiting]
  exact mem_poolSubmit_of_room room

theorem poolHasRoom_congr {s t : State} (tx : t.line.tx = s.line.tx) (waiting : t.line.waiting = s.line.waiting)
    (own : t.port.ownAddress = s.port.ownAddress) : t.PoolHasRoom ↔ s.PoolHasRoom := by
  unfold State.PoolHasRoom LineCtl.poolSize
  rw [tx, waiting, own]

theorem raiseAt_own (s : State) (i : Fin 21) : (s.raiseAt i).port.ownAddress = s.port.ownAddress := by simp

theorem clearAt_own (s : State) (i : Fin 21) : (s.clearAt i).port.ownAddress = s.port.ownAddress := by simp

/-- The pool after a raise or a clear of a flag is that after the submission of its ALARM. -/
theorem poolHasRoom_of_line {s t : State} {e : Notice} {r : Nat} (line : t.line = (s.submit e r).line)
    (own : t.port.ownAddress = s.port.ownAddress) (h : t.PoolHasRoom) : (s.submit e r).PoolHasRoom := by
  rwa [← poolHasRoom_congr (s := s.submit e r) (t := t) (by rw [line]) (by rw [line]) (by rw [own, submit_own])]

/-! #### ALARMs -/

/-- An ALARM of the flag's place and this change stands in the pool, at its rank (R186). -/
def AlarmStands (t : State) (i : Fin 21) (b : Bool) : Prop :=
  ∃ e ∈ t.line.waiting, e.notice = .alarm (flagCode i) (flagChannel i) b ∧ e.rank = 10

theorem alarm_noKey (e : Notice) (a b : Nat) (c : Bool) : sameKey e (.alarm a b c) = false := by cases e <;> rfl

/-- An ALARM stays in the pool while there is room. -/
theorem AlarmStands.submit {t : State} {i : Fin 21} {b : Bool} (h : AlarmStands t i b) {e : Notice} {r : Nat}
    (room : (t.submit e r).PoolHasRoom) : AlarmStands (t.submit e r) i b := by
  obtain ⟨f, hf, notice, rank⟩ := h
  exact ⟨f, (mem_submit_of_room room).2 f hf (by rw [notice, alarm_noKey]), notice, rank⟩

/-- R185, R186: after a chain of reports that leaves room in the pool, every flag it has raised or cleared has its ALARM there. -/
theorem Reports.alarms {p : Licence} {s t : State} (h : Reports p s t) (i : Fin 21) (room : t.PoolHasRoom)
    (changed : (t.flags[i]'i.isLt).raised ≠ (s.flags[i]'i.isLt).raised) : AlarmStands t i (t.flags[i]'i.isLt).raised := by
  induction h with
  | refl => exact absurd rfl changed
  | submit e r _ ih =>
    rw [State.submit_flags] at changed ⊢
    exact (ih (poolHasRoom_of_submit room) changed).submit room
  | @raise t j _ ih =>
    by_cases raised : (t.flags[j]'j.isLt).raised = true
    · rw [raiseAt_raised raised] at room changed ⊢
      exact ih room changed
    · rw [Bool.not_eq_true] at raised
      have line := raiseAt_line raised
      have left := poolHasRoom_of_line line (raiseAt_own t j) room
      unfold AlarmStands
      rw [line]
      rw [raiseAt_flags] at changed ⊢
      split
      · rename_i e
        subst e
        exact (mem_submit_of_room left).1
      · rename_i ne
        rw [if_neg ne] at changed
        exact (ih (poolHasRoom_of_submit left) changed).submit left
  | @clear t j _ _ ih =>
    by_cases raised : (t.flags[j]'j.isLt).raised = true
    · have line := clearAt_line raised
      have left := poolHasRoom_of_line line (clearAt_own t j) room
      unfold AlarmStands
      rw [line]
      rw [clearAt_flags] at changed ⊢
      split
      · rename_i e
        subst e
        exact (mem_submit_of_room left).1
      · rename_i ne
        rw [if_neg ne] at changed
        exact (ih (poolHasRoom_of_submit left) changed).submit left
    · rw [Bool.not_eq_true] at raised
      rw [clearAt_cleared raised] at room changed ⊢
      exact ih room changed
  | aside u _ tx waiting _ own flags ih =>
    rw [flags] at changed ⊢
    unfold AlarmStands
    rw [waiting]
    exact ih ((poolHasRoom_congr tx waiting own).mp room) changed

/-! #### The restart -/

/-- The travels of a restart end without a raise or a clear. -/
theorem restartTravels_flags (s : State) (i : Fin 21) :
    (((s.restartPort.eachChannel State.restartChannel).endCondition .lineFault).flags[i]).raised = (s.flags[i]'i.isLt).raised := by
  have channel (n : Ch) (u : State) : (State.restartChannel n u).flags = u.flags := by
    unfold State.restartChannel
    dsimp only
    rw [kept_flags (checkView_kept _ n)]
    have still : (u.toStill n).flags = u.flags := kept_flags (toStill_kept u n)
    split
    · rfl
    · exact still
  have flags := eachChannel_keeps State.flags State.restartChannel channel s.restartPort
  unfold State.endCondition State.setCondition
  rw [setFlag_raised]
  split
  · rename_i e
    subst e
    dsimp only
    rw [flags]
    rfl
  · rw [flags]
    rfl

/-- The commands by the chain of reports they end with: one from a state with the flags before the command. -/
theorem exec_reports_flags {c : Instr} {s t : State} (reset : ∀ straps enc panel anem, c ≠ .fullReset straps enc panel anem)
    (h : exec c s = .next t) : ∃ u : State, Reports (licenceOf c s) u t ∧ ∀ i : Fin 21, (u.flags[i]'i.isLt).raised = (s.flags[i]'i.isLt).raised := by
  by_cases restart : c = .warmRestart
  · subst restart
    obtain same | ⟨-, u, hu, -, eq⟩ := execWarmRestart_reports h
    · rw [same]
      exact ⟨s, .refl, fun _ => rfl⟩
    · refine ⟨u.restartBlocks, ?_, fun i => ?_⟩
      · rw [eq]
        have clears (i : Fin 21) : (licenceOf .warmRestart s).clears i := .inr (.inr (.inl rfl))
        exact ((Reports.start _ _).clearAll clears).lamp
      · rw [hu]
        exact restartTravels_flags s i
  · obtain ⟨l, -, hr⟩ := exec_transmits_reports reset restart h
    exact ⟨_, hr, fun _ => rfl⟩

/-- Settles O13: every command but the full reset ends with a chain of reports that starts from the flags as they stood; such a
chain clears what its licence names (`Reports.raised`), and each raise or clear in it submits its ALARM, which nothing drops
while the pool has room (`Reports.alarms`). -/
theorem raisedFlagsStayAndReport : Obligations.RaisedFlagsStayAndReport := by
  unfold Obligations.RaisedFlagsStayAndReport
  refine ⟨fun c s t i h raised => ?_, fun c s t f h reset room changed => ?_, fun s t f => ⟨fun raised => ?_, fun clear eq => ?_⟩⟩
  · by_cases reset : ∃ straps enc panel anem, c = .fullReset straps enc panel anem
    · exact .inr (.inr (.inr (.inr (.inr reset))))
    · obtain ⟨u, chain, flags⟩ := exec_reports_flags (fun a b c d e => reset ⟨a, b, c, d, e⟩) h
      by_cases clears : (licenceOf c s).clears i
      · obtain ack | hold | restart | expiry := clears
        · exact .inr (.inl ack)
        · exact .inr (.inr (.inl hold))
        · exact .inr (.inr (.inr (.inl restart)))
        · exact .inr (.inr (.inr (.inr (.inl expiry))))
      · exact .inl (chain.raised clears (by rw [flags]; exact raised))
  · obtain ⟨u, chain, flags⟩ := exec_reports_flags reset h
    rw [alarm_eq]
    exact chain.alarms f.index room (by rw [flags]; exact changed)
  · exact raiseAt_raised raised
  · subst eq
    refine ⟨?_, ?_, fun g ne => ?_⟩
    · unfold State.flag State.raise
      rw [raiseAt_flags, if_pos rfl]
    · rw [alarm_eq]
      exact raiseAt_line clear
    · unfold State.flag State.raise
      rw [raiseAt_flags, if_neg (fun e => ne (FlagId.index_injective e))]

end Sys2Proof.Machine

namespace Sys2Proof.Machine
set_option Elab.async false

/-! ### The blocks at the ends of reads and at a restart -/

section

variable (s : State) {b : Block}

theorem finish_block (b : Block) : s.finish.block b = s.block b := block_of_kept (finish_kept s) b

theorem eachChannel_block {f : Ch → State → State} (hf : ∀ (n : Ch) (u : State), (f n u).block b = u.block b) :
    (s.eachChannel f).block b = s.block b := eachChannel_keeps (State.block b) f hf s

theorem setPanel_block (x : Panel) (b : Block) : (s.setPanel x).block b = s.block b := block_of_outer (by rfl) b

theorem readEnded_block (image : Option Memory) (config : Option RunCfg) (hb : b ≠ .port) :
    ({ s with port := s.port.readEnded image config } : State).block b = s.block b := by
  refine block_of_sans (b := .port) (s := s) ?_ hb
  rfl

theorem beginCondition_block (f : FlagId) (hf : f.block ≠ some b) : (s.beginCondition f).block b = s.block b := by
  unfold State.beginCondition State.raise
  split
  · rfl
  · rw [raiseAt_block, setCondition_block s f true hf]

theorem endCondition_block (f : FlagId) (hf : f.block ≠ some b) : (s.endCondition f).block b = s.block b :=
  setCondition_block s f false hf

theorem channelErrors_block (c : RunCfg) (b : Block) :
    (s.eachChannel (fun n s => if c.inError n then s.beginCondition (.configChannel n) else s)).block b = s.block b := by
  refine eachChannel_block s (fun n u => ?_)
  split
  · exact beginCondition_block u _ nofun
  · rfl

theorem adoptUnits_block (was : Ch → Bool) (pins : PinSample) (b : Block) : (s.adoptUnits was pins).block b = s.block b := by
  refine eachChannel_block s (fun n u => ?_)
  split
  · rfl
  · exact setUnit_block u n _ b

theorem submitStates_block (b : Block) : s.submitStates.block b = s.block b :=
  eachChannel_block s (fun n u => block_of_kept (submitState_kept u n) b)

theorem submitGust_block (b : Block) : s.submitGust.block b = s.block b :=
  ((Moves.start .plain s).submitGust).block id (.inl id)

theorem offerGust_block (b : Block) : s.offerGust.block b = s.block b := by
  unfold State.offerGust
  split
  · exact submitGust_block s b
  · rfl

theorem judgeLamp_block (b : Block) : s.judgeLamp.block b = s.block b := block_of_kept (judgeLamp_kept s) b

theorem startListening_block (b : Block) : s.startListening.block b = s.block b := block_of_outer (by rfl) b

theorem startTimers_block (c : RunCfg) (b : Block) : (s.startTimers c).block b = s.block b := block_of_outer (by rfl) b

theorem startDeciding_block (b : Block) : s.startDeciding.block b = s.block b := by
  unfold State.startDeciding
  rw [block_of_kept (askEval_kept _), block_of_kept (askReview_kept _)]
  exact block_of_outer (by rfl) b

theorem beginTaking_block (hb : b ≠ .table) : s.beginTaking.block b = s.block b := by
  unfold State.beginTaking
  split
  · exact block_of_sans (b := .table) (s := s) (by rfl) hb
  · rfl

theorem holdForMaints_block (b : Block) : (s.eachChannel (fun n s => s.holdForMaint n)).block b = s.block b :=
  ((Moves.start .plain s).eachChannel (fun n _ hu => hu.holdForMaint n)).block id (.inl id)

theorem takeRain_block (c : RunCfg) (r : Nat) (hb : b ≠ .rain) : (s.takeRain c r).block b = s.block b :=
  ((Moves.start { Licence.plain with free := fun d => d = .rain } s).takeRain rfl c r).block hb (.inl id)

theorem startRain_block (c : RunCfg) (pins : PinSample) (hb : b ≠ .rain) : (s.startRain c pins).block b = s.block b := by
  unfold State.startRain
  rw [takeRain_block _ _ _ hb]
  exact block_of_sans (b := .rain) (s := s) (by rfl) hb

/-- The weather front end's blocks. -/
def Block.isWeather : Block → Bool
  | .rain | .wind | .vane => true
  | _ => false

theorem startWeather_block (c : RunCfg) (pins : PinSample) (hb : b.isWeather = false) :
    (s.startWeather c pins).block b = s.block b := by
  have rain : b ≠ .rain := by rintro rfl; cases hb
  have wind : b ≠ .wind := by rintro rfl; cases hb
  have vane : b ≠ .vane := by rintro rfl; cases hb
  unfold State.startWeather
  have started : (if c.rainFitted then s.startRain c pins else s).block b = s.block b := by
    split
    · exact startRain_block s c pins rain
    · rfl
  dsimp only
  rw [← started]
  generalize (if c.rainFitted then s.startRain c pins else s) = u
  have blown : (if c.anemFitted then { u with wind := u.wind.start pins.anem } else u).block b = u.block b := by
    split
    · exact block_of_sans (b := .wind) (s := u) (by rfl) wind
    · rfl
  rw [← blown]
  generalize (if c.anemFitted then { u with wind := u.wind.start pins.anem } else u) = w
  split
  · exact block_of_sans (b := .vane) (s := w) (by rfl) vane
  · rfl

/-- Of the blocks but the table's, the end of a VALID start-up read leaves what the start of the weather front end leaves. -/
theorem startUpValid_block (image : Memory) (c : RunCfg) (pins : PinSample) (hb : b ≠ .table) :
    (s.startUpValid image c pins).block b = (State.startWeather
      (State.adoptUnits (State.eachChannel { s with port := s.port.readEnded (some image) (some c) }
        (fun n s => if c.inError n then s.beginCondition (.configChannel n) else s)) (fun _ => false) pins) c pins).block b := by
  unfold State.startUpValid
  rw [finish_block, startDeciding_block, beginTaking_block _ hb, judgeLamp_block, offerGust_block, submitStates_block,
    holdForMaints_block, setPanel_block, startTimers_block]

/-- The end of an INVALID start-up read changes the port and the table. -/
theorem startUpInvalid_block (image : Option Memory) (hb : b ≠ .table) :
    (s.startUpInvalid image).block b = (State.beginCondition { s with port := s.port.readEnded image none } .configStation).block b := by
  unfold State.startUpInvalid
  rw [beginTaking_block _ hb, judgeLamp_block, submitStates_block, startListening_block]

theorem rereadConditions_block (new : Option RunCfg) (hb : b ≠ .port) : (s.rereadConditions new).block b = s.block b := by
  unfold State.rereadConditions
  dsimp only
  rw [eachChannel_block]
  · exact setCondition_block s .configStation _ (fun e => hb (Option.some.inj e).symm)
  · exact fun n u => setCondition_block u (.configChannel n) _ nofun

theorem rereadChannel_block (n : Ch) (b : Block) : (State.rereadChannel n s).block b = s.block b := by
  unfold State.rereadChannel
  split
  · rfl
  · rw [endCondition_block _ (.encoder n) nofun, endCondition_block _ (.obstruction n) nofun]
    exact block_of_kept (toStill_kept s n) b

theorem rereadRain_block (old new : Option RunCfg) (pins : PinSample) (hb : b ≠ .rain) :
    (s.rereadRain old new pins).block b = s.block b := by
  have fresh : (({ s with rain := RainFront.reset } : State).endCondition .rainSensor).block b = s.block b := by
    rw [endCondition_block _ .rainSensor (fun e => hb (Option.some.inj e).symm)]
    exact block_of_sans (b := .rain) (s := s) (by rfl) hb
  unfold State.rereadRain
  split
  · exact fresh
  · split
    · exact fresh
    · split
      · rfl
      · exact startRain_block s _ pins hb

theorem withdrawGust_block (b : Block) : s.withdrawGust.block b = s.block b := block_of_outer (by rfl) b

theorem rereadAnem_block (old new : Option RunCfg) (pins : PinSample) (hb : b ≠ .wind) :
    (s.rereadAnem old new pins).block b = s.block b := by
  unfold State.rereadAnem
  split
  · split
    · rfl
    · exact block_of_sans (b := .wind) (s := s) (by rfl) hb
  · rw [withdrawGust_block, endCondition_block _ .windSensor (fun e => hb (Option.some.inj e).symm)]
    exact block_of_sans (b := .wind) (s := s) (by rfl) hb

theorem rereadVane_block (old new : Option RunCfg) (pins : PinSample) (hb : b ≠ .vane) :
    (s.rereadVane old new pins).block b = s.block b := by
  unfold State.rereadVane
  split
  · exact block_of_sans (b := .vane) (s := s) (by rfl) hb
  · split
    · exact block_of_sans (b := .vane) (s := s) (by rfl) hb
    · split
      · rfl
      · exact block_of_sans (b := .vane) (s := s) (by rfl) hb

theorem rereadIsolation_block (new : Option RunCfg) (hb : b ≠ .isolation) : (s.rereadIsolation new).block b = s.block b := by
  unfold State.rereadIsolation
  split
  · rw [endCondition_block _ .isolation (fun e => hb (Option.some.inj e).symm)]
    exact block_of_sans (b := .isolation) (s := s) (by rfl) hb
  · split
    · rfl
    · exact block_of_outer (by rfl) b

theorem rereadDraw_block (old new : Option RunCfg) (b : Block) : (s.rereadDraw old new).block b = s.block b := by
  unfold State.rereadDraw
  split
  · exact (block_of_outer (s := State.submitFinalDraw _ _) (by rfl) b).trans (block_of_kept (submitDraw_kept s _ _) b)
  · rfl

theorem rereadPanel_block (new : Option RunCfg) (b : Block) : (s.rereadPanel new).block b = s.block b := by
  unfold State.rereadPanel
  split
  · exact setPanel_block s _ b
  · rw [holdForMaints_block, setPanel_block]

theorem rereadWetness_block (b : Block) : s.rereadWetness.block b = s.block b := by
  unfold State.rereadWetness
  split
  · exact (((Moves.start .plain s).submitWetness _ _ _).setRefresh _).block id (.inl id)
  · rfl

theorem raiseHolding_block (b : Block) : s.raiseHolding.block b = s.block b := by
  refine ((Moves.start .plain s).foldl flagOrder (fun i u hu => ?_)).block id (.inl id)
  split
  · exact hu.raise i
  · exact hu

theorem rereadEval_block (new : Option RunCfg) (b : Block) : (s.rereadEval new).block b = s.block b := by
  unfold State.rereadEval
  split
  · exact block_of_outer (by rfl) b
  · exact startDeciding_block s b

/-- What the end of a reread does before it turns to the sensors. -/
def State.rereadStart (s : State) (image : Option Memory) (new : Option RunCfg) (pins : PinSample) : State :=
  State.adoptUnits (State.eachChannel (State.rereadConditions { s with port := s.port.readEnded image new } new) State.rereadChannel)
    (fun n => s.port.config.any (fun c => match c.chans[n]'n.isLt with
      | .fitted _ => true
      | _ => false)) pins

theorem rereadStart_block (image : Option Memory) (new : Option RunCfg) (pins : PinSample) (b : Block) :
    (s.rereadStart image new pins).block b =
      (State.setCondition { s with port := s.port.readEnded image new } .configStation new.isNone).block b := by
  unfold State.rereadStart
  rw [adoptUnits_block, eachChannel_block _ (fun n u => rereadChannel_block u n b)]
  exact eachChannel_block _ (fun n u => setCondition_block u (.configChannel n) _ nofun)

/-- Of the blocks, the end of a reread leaves what the sensors and isolation leave. -/
theorem rereadEnd_block (image : Option Memory) (new : Option RunCfg) (pins : PinSample) (b : Block) :
    (s.rereadEnd image new pins).block b = (((((s.rereadStart image new pins).rereadRain s.port.config new pins).rereadAnem
      s.port.config new pins).rereadVane s.port.config new pins).rereadIsolation new).block b := by
  unfold State.rereadEnd
  dsimp only
  rw [finish_block, judgeLamp_block, rereadEval_block, raiseHolding_block, rereadWetness_block, offerGust_block,
    submitStates_block, rereadPanel_block, rereadDraw_block, startListening_block]
  rfl

end

end Sys2Proof.Machine

namespace Sys2Proof.Machine
set_option Elab.async false

/-! ### What the reads and the restart come to -/

/-- READ_TRY_FAILED: nothing, the next try, or the end of the read with no image (R208). -/
theorem execReadTryFailed_cases {s t : State} (h : execReadTryFailed s = .next t) :
    t = s ∨ ∃ k, s.port.read = .reading k false ∧
      (k < 3 ∧ t = { s with port := { s.port with read := .reading (k + 1) true } } ∨
        s.port.restart = true ∧ t = s.rereadEnd none none PinSample.blank ∨ s.port.restart = false ∧ t = s.startUpInvalid none) := by
  unfold execReadTryFailed at h
  split at h
  · rename_i k read
    refine .inr ⟨k, read, ?_⟩
    split at h
    · rename_i more
      rw [next_inj h]
      exact .inl ⟨more, rfl⟩
    · split at h
      · rename_i restart
        rw [next_inj h]
        exact .inr (.inl ⟨restart, rfl⟩)
      · rename_i restart
        rw [next_inj h]
        exact .inr (.inr ⟨by simpa using restart, rfl⟩)
  · rw [next_inj h]
    exact .inl rfl

theorem takesBytes_iff (s : State) (bytes : List Byte) :
    s.takesBytes bytes = true ↔ (∃ k, s.port.read = .reading k false) ∧ bytes.length = Config.imageBytes := by
  unfold State.takesBytes
  split
  · rename_i k read
    simp [read]
  · rename_i other
    simp only [Bool.false_and, Bool.false_eq_true, false_iff, not_and]
    rintro ⟨k, read⟩
    exact absurd read (other k)

/-- CONFIG_READ_END: nothing, or the start-up read ends with the image judged (R209). -/
theorem execConfigReadEnd_cases {bytes : List Byte} {pins : PinSample} {s t : State} (h : execConfigReadEnd bytes pins s = .next t) :
    t = s ∨ ∃ own k m, s.port.ownAddress = some own ∧ s.port.read = .reading k false ∧ s.port.restart = false ∧ m.wf = true ∧
      (judgeImage own m = none ∧ t = s.startUpInvalid (some m) ∨ ∃ c, judgeImage own m = some c ∧ t = s.startUpValid m c pins) := by
  unfold execConfigReadEnd at h
  split at h
  · rw [next_inj h]
    exact .inl rfl
  · rename_i own address
    split at h
    · rename_i taken
      simp only [Bool.and_eq_true, Bool.not_eq_true', takesBytes_iff] at taken
      obtain ⟨⟨⟨k, read⟩, -⟩, restart⟩ := taken
      refine .inr ⟨own, k, Memory.ofBytes 0 bytes, address, read, restart, ofBytes_wf bytes, ?_⟩
      dsimp only at h
      split at h
      · rename_i judged
        rw [next_inj h]
        exact .inl ⟨judged, rfl⟩
      · rename_i c judged
        rw [next_inj h]
        exact .inr ⟨c, judged, rfl⟩
    · rw [next_inj h]
      exact .inl rfl

/-- REREAD_END: nothing, or the reread ends with the image judged (R214). -/
theorem execRereadEnd_cases {bytes : List Byte} {pins : PinSample} {s t : State} (h : execRereadEnd bytes pins s = .next t) :
    t = s ∨ ∃ own k m, s.port.ownAddress = some own ∧ s.port.read = .reading k false ∧ s.port.restart = true ∧ m.wf = true ∧
      t = s.rereadEnd (some m) (judgeImage own m) pins := by
  unfold execRereadEnd at h
  split at h
  · rw [next_inj h]
    exact .inl rfl
  · rename_i own address
    split at h
    · rename_i taken
      simp only [Bool.and_eq_true, takesBytes_iff] at taken
      obtain ⟨⟨⟨k, read⟩, -⟩, restart⟩ := taken
      rw [next_inj h]
      exact .inr ⟨own, k, Memory.ofBytes 0 bytes, address, read, restart, ofBytes_wf bytes, rfl⟩
    · rw [next_inj h]
      exact .inl rfl

theorem execWarmRestart_cases {s t : State} (h : execWarmRestart s = .next t) :
    t = s ∨ (s.port.restart = true ∧ s.port.read = .ended ∧ s.line.tx = .notSending) ∧ t = s.restartNow := by
  unfold execWarmRestart at h
  split at h
  · rename_i pending
    rw [next_inj h]
    exact .inr ⟨pending, rfl⟩
  · rw [next_inj h]
    exact .inl rfl

/-! #### The blocks that such a command leaves -/

section

variable {s t : State} {b : Block}

theorem tryRead_block (s : State) (r : ReadState) (hb : b ≠ .port) :
    ({ s with port := { s.port with read := r } } : State).block b = s.block b := by
  refine block_of_sans (b := .port) (s := s) ?_ hb
  rfl

theorem startUpInvalid_block_same (s : State) (image : Option Memory) (hb : b ≠ .port) (hb' : b ≠ .table) :
    (s.startUpInvalid image).block b = s.block b := by
  rw [startUpInvalid_block s image hb', beginCondition_block _ .configStation (fun e => hb (Option.some.inj e).symm),
    readEnded_block s _ _ hb]

theorem startUpValid_block_same (s : State) (image : Memory) (c : RunCfg) (pins : PinSample) (hb : b ≠ .port) (hb' : b ≠ .table)
    (weather : b.isWeather = false) : (s.startUpValid image c pins).block b = s.block b := by
  rw [startUpValid_block s image c pins hb', startWeather_block _ c pins weather, adoptUnits_block, channelErrors_block,
    readEnded_block s _ _ hb]

theorem rereadEnd_block_same (s : State) (image : Option Memory) (new : Option RunCfg) (pins : PinSample) (hb : b ≠ .port)
    (weather : b.isWeather = false) (isolation : b ≠ .isolation) : (s.rereadEnd image new pins).block b = s.block b := by
  rw [rereadEnd_block, rereadIsolation_block _ _ isolation, rereadVane_block _ _ _ _ (by rintro rfl; cases weather),
    rereadAnem_block _ _ _ _ (by rintro rfl; cases weather), rereadRain_block _ _ _ _ (by rintro rfl; cases weather),
    rereadStart_block, setCondition_block _ .configStation _ (fun e => hb (Option.some.inj e).symm), readEnded_block s _ _ hb]

theorem restartChannel_block (n : Ch) (s : State) (b : Block) : (State.restartChannel n s).block b = s.block b := by
  have cleared (u : State) : (((u.setRec n { u.recs[n]'n.isLt with refusal := .accepted }).setUnit n
      { (u.setRec n { u.recs[n]'n.isLt with refusal := .accepted }).units[n] with
        illegal := 0, indexSeen := false, indexRecord := none }).checkView n).block b = u.block b := by
    rw [block_of_kept (checkView_kept _ n), setUnit_block, setRec_block]
  refine (cleared _).trans ?_
  split
  · rfl
  · exact block_of_kept (toStill_kept s n) b

theorem clearAll_block (s : State) (b : Block) : s.clearAll.block b = s.block b :=
  ((Moves.start { Licence.plain with clears := fun _ => True } s).foldl flagOrder (fun i _ hu => hu.clear i trivial)).block id (.inl id)

/-- Of the blocks, a restart leaves what its turn of the blocks leaves. -/
theorem restartNow_block (s : State) (b : Block) : s.restartNow.block b =
    ((s.restartPort.eachChannel State.restartChannel).endCondition .lineFault).restartBlocks.block b := by
  rw [restartNow_eq, judgeLamp_block, clearAll_block]

theorem restartBlocks_block (s : State) (line : b ≠ .line) (table : b ≠ .table) : s.restartBlocks.block b = s.block b := by
  cases b <;> first | rfl | exact absurd rfl line | exact absurd rfl table

theorem restartNow_block_same (s : State) (port : b ≠ .port) (line : b ≠ .line) (table : b ≠ .table) :
    s.restartNow.block b = s.block b := by
  rw [restartNow_block, restartBlocks_block _ line table, endCondition_block _ .lineFault (fun e => line (Option.some.inj e).symm),
    eachChannel_block _ (fun n u => restartChannel_block n u b)]
  refine block_of_sans (b := .port) (s := s) ?_ port
  rfl

theorem setLine_block (s : State) (l : LineCtl) (queue : l.queue = s.line.queue) (hb : b ≠ .line) :
    (s.setLine l).block b = s.block b := by
  refine block_of_sans (b := .line) (s := s) ?_ hb
  unfold State.sans State.outer State.setLine
  simp only [queue]

theorem execTransmissionStart_block (h : execTransmissionStart s = .next t) (hb : b ≠ .line) : t.block b = s.block b := by
  unfold execTransmissionStart at h
  split at h
  · split at h <;> rw [next_inj h]
    exact setLine_block s _ rfl hb
  · rw [next_inj h]

theorem execFrameSuccess_block (h : execFrameSuccess s = .next t) (hb : b ≠ .line) : t.block b = s.block b := by
  unfold execFrameSuccess at h
  split at h
  · split at h <;> rw [next_inj h]
    exact setLine_block s _ rfl hb
  · rw [next_inj h]

theorem execArbitrationLoss_block {pos : Nat} (h : execArbitrationLoss pos s = .next t) (hb : b ≠ .line) :
    t.block b = s.block b := by
  unfold execArbitrationLoss at h
  split at h
  · split at h <;> rw [next_inj h]
    exact setLine_block s _ rfl hb
  · rw [next_inj h]

theorem execBitError_block {pos : Nat} (h : execBitError pos s = .next t) (hb : b ≠ .line) : t.block b = s.block b := by
  unfold execBitError at h
  split at h
  · split at h <;> rw [next_inj h]
    exact setLine_block s _ rfl hb
  · rw [next_inj h]

theorem execStartBit_block (h : execStartBitFromAnotherStation s = .next t) (hb : b ≠ .line) : t.block b = s.block b := by
  unfold execStartBitFromAnotherStation at h
  split at h
  · rw [next_inj h]
  · split at h
    · split at h <;> rw [next_inj h]
      · exact setLine_block s _ rfl hb
      · exact setLine_block s _ rfl hb
    · rw [next_inj h]

theorem execBitErrorHoldEnd_block {r : Bool} (h : execBitErrorHoldEnd r s = .next t) (hb : b ≠ .line) : t.block b = s.block b := by
  unfold execBitErrorHoldEnd at h
  split at h
  · split at h
    · rw [next_inj h]
    · dsimp only at h
      split at h <;> rw [next_inj h]
      · rw [finish_block, beginCondition_block _ .lineFault (fun e => hb (Option.some.inj e).symm)]
        exact setLine_block s _ rfl hb
      · exact setLine_block s _ rfl hb
  · rw [next_inj h]

/-- A command leaves each block that is not among its own (`setsBlock`); a confirm changes the port too. -/
theorem exec_block {c : Instr} (h : exec c s = .next t) (other : setsBlock c b = false)
    (confirms : ¬ (licenceOf c s).confirms ∨ b ≠ .port) : t.block b = s.block b := by
  by_cases ordinary : isOrdinary c = true
  · refine (exec_moves ordinary h).block ?_ confirms
    show ¬ setsBlock c b = true
    rw [other]
    exact Bool.false_ne_true
  have ne (d : Block) (hd : setsBlock c d = true) : b ≠ d := by
    rintro rfl
    rw [other] at hd
    cases hd
  have weather (hd : setsBlock c .rain = true ∧ setsBlock c .wind = true ∧ setsBlock c .vane = true) :
      b.isWeather = false := by
    obtain ⟨rain, wind, vane⟩ := hd
    cases b <;> first | rfl | exact absurd rfl (ne _ rain) | exact absurd rfl (ne _ wind) | exact absurd rfl (ne _ vane)
  cases c with
  | fullReset | stationTimeStep => cases b <;> cases other
  | readTryFailed =>
    obtain eq | ⟨k, -, ⟨-, eq⟩ | ⟨-, eq⟩ | ⟨-, eq⟩⟩ := execReadTryFailed_cases h <;> rw [eq]
    · exact tryRead_block s _ (ne .port rfl)
    · exact rereadEnd_block_same s _ _ _ (ne .port rfl) (weather ⟨rfl, rfl, rfl⟩) (ne .isolation rfl)
    · exact startUpInvalid_block_same s _ (ne .port rfl) (ne .table rfl)
  | configReadEnd bytes pins =>
    obtain eq | ⟨own, k, m, -, -, -, -, ⟨-, eq⟩ | ⟨c, -, eq⟩⟩ := execConfigReadEnd_cases h <;> rw [eq]
    · exact startUpInvalid_block_same s _ (ne .port rfl) (ne .table rfl)
    · exact startUpValid_block_same s _ _ _ (ne .port rfl) (ne .table rfl) (weather ⟨rfl, rfl, rfl⟩)
  | rereadEnd bytes pins =>
    obtain eq | ⟨own, k, m, -, -, -, -, eq⟩ := execRereadEnd_cases h <;> rw [eq]
    · exact rereadEnd_block_same s _ _ _ (ne .port rfl) (weather ⟨rfl, rfl, rfl⟩) (ne .isolation rfl)
  | warmRestart =>
    obtain eq | ⟨-, eq⟩ := execWarmRestart_cases h <;> rw [eq]
    · exact restartNow_block_same s (ne .port rfl) (ne .line rfl) (ne .table rfl)
  | transmissionStart => exact execTransmissionStart_block h (ne .line rfl)
  | frameSuccess => exact execFrameSuccess_block h (ne .line rfl)
  | arbitrationLoss pos => exact execArbitrationLoss_block h (ne .line rfl)
  | bitError pos => exact execBitError_block h (ne .line rfl)
  | bitErrorHoldEnd r => exact execBitErrorHoldEnd_block h (ne .line rfl)
  | startBitFromAnotherStation => exact execStartBit_block h (ne .line rfl)
  | refusalPatternEnd =>
    have h : execRefusalPatternEnd s = .next t := h
    unfold execRefusalPatternEnd at h
    split at h
    · rw [next_inj h]
    · split at h <;> rw [next_inj h]
      exact setPanel_block s _ b
  | _ => exact absurd rfl ordinary

end

end Sys2Proof.Machine

namespace Sys2Proof.Machine
set_option Elab.async false

/-! ### What a block says of its fields -/

section

variable {s t : State}

theorem block_now (h : t.block .clock = s.block .clock) : t.now = s.now := congrArg (·.now) h

theorem block_port (h : t.block .port = s.block .port) :
    t.port.ownAddress = s.port.ownAddress ∧ t.port.read = s.port.read ∧ t.port.image = s.port.image ∧
      t.port.config = s.port.config ∧ t.port.restart = s.port.restart :=
  ⟨congrArg (·.port.ownAddress) h, congrArg (·.port.read) h, congrArg (·.port.image) h, congrArg (·.port.config) h,
    congrArg (·.port.restart) h⟩

theorem block_config (h : t.block .port = s.block .port) : t.port.config = s.port.config := congrArg (·.port.config) h

theorem chan?_of_config (h : t.port.config = s.port.config) (n : Ch) : t.chan? n = s.chan? n := by
  unfold State.chan?
  rw [h]

theorem chan?_iff {n : Ch} {k : ChanCfg} : s.chan? n = some k ↔ ∃ c, s.port.config = some c ∧ c.chans[n]'n.isLt = .fitted k := by
  unfold State.chan?
  split
  · rename_i config
    simp [config]
  · rename_i c config
    split
    · rename_i k' fit
      simp only [config, Option.some.injEq, exists_eq_left']
      rw [fit]
      simp
    · rename_i other
      simp only [config, Option.some.injEq, exists_eq_left', reduceCtorEq, false_iff]
      exact other k

end

/-! ### The running configuration and the image (R211) -/

/-- A restart leaves the running configuration and the image. -/
theorem restartNow_config (s : State) : s.restartNow.port.config = s.port.config ∧ s.restartNow.port.image = s.port.image := by
  have ended : (((s.restartPort.eachChannel State.restartChannel).endCondition .lineFault).restartBlocks).block .port =
      s.restartPort.block .port := by
    rw [restartBlocks_block _ (by decide) (by decide), endCondition_block (b := .port) _ .lineFault (by decide),
      eachChannel_block _ (fun n u => restartChannel_block n u .port)]
  obtain ⟨-, -, image, config, -⟩ := block_port ((restartNow_block s .port).trans ended)
  exact ⟨config, image⟩

/-- Settles O14: an ordinary command changes configuration and image by a confirm alone (`Moves.config`), and of the others only the
ends of reads and the full reset change the port beside the read state. -/
theorem configurationChangesAtReads : Obligations.ConfigurationChangesAtReads := by
  unfold Obligations.ConfigurationChangesAtReads
  intro c s t h
  by_cases ordinary : isOrdinary c = true
  · by_cases confirms : (licenceOf c s).confirms
    · exact .inr (.inr (.inr (.inl confirms)))
    · exact .inl ((exec_moves ordinary h).config confirms)
  · have port (other : setsBlock c .port = false) (no : ¬ (licenceOf c s).confirms) :
        t.port.config = s.port.config ∧ t.port.image = s.port.image := by
      obtain ⟨-, -, image, config, -⟩ := block_port (exec_block h other (.inl no))
      exact ⟨config, image⟩
    have no {level ms q} (e : c = .panelInputChange .learn level ms ∧ s.port.session = some q ∧ q.phase = .awaitingConfirm) :
        False := ordinary (e.1 ▸ rfl)
    have noConfirm : ¬ (licenceOf c s).confirms := fun ⟨_, _, _, e⟩ => no e
    rw [Bool.not_eq_true] at ordinary
    cases c, ordinary using special_commands with
    | fullReset straps enc panel anem => exact .inr (.inr (.inr (.inr ⟨_, _, _, _, rfl⟩)))
    | stationTimeStep =>
      cases h
      exact .inl ⟨rfl, rfl⟩
    | readTryFailed => exact .inr (.inl rfl)
    | configReadEnd bytes pins => exact .inr (.inr (.inl ⟨bytes, pins, .inl rfl⟩))
    | rereadEnd bytes pins => exact .inr (.inr (.inl ⟨bytes, pins, .inr rfl⟩))
    | warmRestart =>
      obtain eq | ⟨-, eq⟩ := execWarmRestart_cases h
      · rw [eq]
        exact .inl ⟨rfl, rfl⟩
      · rw [eq]
        exact .inl (restartNow_config s)
    | transmissionStart | frameSuccess | arbitrationLoss | bitError | bitErrorHoldEnd | startBitFromAnotherStation
    | refusalPatternEnd => exact .inl (port rfl noConfirm)

/-! ### Station time and counts (R1, R2, R8, R210) -/

/-- A channel record that a read accepts has its closed count in range (R210). -/
theorem judgeImage_closed {own : Nat} {m : Memory} {c : RunCfg} (judged : judgeImage own m = some c) {n : Ch} {k : ChanCfg}
    (fit : c.chans[n]'n.isLt = .fitted k) : k.c ≤ Config.maxCount := by
  unfold judgeImage at judged
  split at judged
  · cases judged
    have fit : m.judgeChannel (m.u16 0x002) n = .fitted k := by simpa [Memory.runCfg] using fit
    unfold Memory.judgeChannel at fit
    dsimp only at fit
    split at fit
    · cases fit
    · split at fit
      · rename_i ok
        cases fit
        simp only [Memory.recordOk, inRange, Bool.and_eq_true, decide_eq_true_eq] at ok
        have : Config.maxCount = 65535 := rfl
        omega
      · cases fit
  · cases judged

/-- Every fitted channel's closed count is in range (R210). -/
def State.ClosedOk (s : State) : Prop := ∀ (n : Ch) (k : ChanCfg), s.chan? n = some k → k.c ≤ Config.maxCount

theorem State.ClosedOk.of_config {s t : State} (config : t.port.config = s.port.config) (hs : s.ClosedOk) : t.ClosedOk := by
  intro n k hk
  rw [chan?_of_config config n] at hk
  exact hs n k hk

theorem State.ClosedOk.of_judged {t : State} (h : t.port.config = none ∨ ∃ own m c, judgeImage own m = some c ∧ t.port.config = some c) :
    t.ClosedOk := by
  intro n k hk
  obtain ⟨c, config, fit⟩ := chan?_iff.mp hk
  obtain none | ⟨own, m, c', judged, some⟩ := h
  · rw [none] at config
    cases config
  · rw [some] at config
    cases config
    exact judgeImage_closed judged fit

/-- A confirm leaves closed counts. -/
theorem applyLearned_chan {c : RunCfg} {p : Session} {n : Ch} {k : ChanCfg} (h : (c.applyLearned p).chans[n] = .fitted k) :
    ∃ k', c.chans[n]'n.isLt = .fitted k' ∧ k.c = k'.c := by
  unfold RunCfg.applyLearned at h
  split at h
  · rename_i k' fit
    by_cases hn : n = p.channel
    · subst hn
      simp only [Fin.getElem_fin, Vector.getElem_set_self, ChanFit.fitted.injEq] at h
      subst h
      exact ⟨k', fit, rfl⟩
    · have : p.channel.val ≠ n.val := fun e => hn (Fin.ext e.symm)
      simp only [Fin.getElem_fin, Vector.getElem_set_ne _ _ this] at h
      exact ⟨k, h, rfl⟩
  · exact ⟨k, h, rfl⟩

theorem confirmLearn_port (s : State) (p : Session) :
    (s.confirmLearn p).port.config = s.port.config.map (fun c => c.applyLearned p) ∧
      (s.confirmLearn p).port.image =
        s.port.image.map (fun m => m.applyLearned p.channel p.measured.1 p.measured.2.1 p.measured.2.2) := by
  unfold State.confirmLearn
  simp only [State.askReview_port, State.judgeLamp_port, and_self]

theorem State.ClosedOk.confirm {s : State} (hs : s.ClosedOk) (p : Session) : (s.confirmLearn p).ClosedOk := by
  intro n k hk
  obtain ⟨c, config, fit⟩ := chan?_iff.mp hk
  rw [(confirmLearn_port s p).1, Option.map_eq_some_iff] at config
  obtain ⟨c', config', rfl⟩ := config
  obtain ⟨k', fit', same⟩ := applyLearned_chan fit
  rw [same]
  exact hs n k' (chan?_iff.mpr ⟨c', config', fit'⟩)

/-- The counts, and the closed counts that stops set them to. -/
def State.UnitsOk (s : State) : Prop := (∀ n : Ch, (s.units[n]'n.isLt).count ≤ Config.maxCount) ∧ s.ClosedOk

theorem State.UnitsOk.frame {s t : State} (hs : s.UnitsOk) (units : ∀ n : Ch, (t.units[n]'n.isLt).count = (s.units[n]'n.isLt).count)
    (config : t.port.config = s.port.config) : t.UnitsOk :=
  ⟨fun n => (units n).symm ▸ hs.1 n, hs.2.of_config config⟩

theorem State.UnitsOk.set {s : State} (hs : s.UnitsOk) {n : Ch} {u : ChanUnit} (hu : u.count ≤ Config.maxCount) : (s.setUnit n u).UnitsOk := by
  refine ⟨fun m => ?_, hs.2.of_config rfl⟩
  rw [setUnit_unit]
  split
  · exact hu
  · exact hs.1 m

theorem State.UnitsOk.lamp {s : State} (hs : s.UnitsOk) : s.judgeLamp.UnitsOk := hs.frame (fun n => by rw [State.judgeLamp_units]) (by simp)

/-- A step that is not refused stays in the range (R8). -/
theorem step_count_le {u : ChanUnit} (hu : u.count ≤ Config.maxCount) {up : Bool} (now : Nat) (h : stepRefused u.count up = false) :
    (u.step up now).count ≤ Config.maxCount := by
  cases up with
  | true =>
    simp only [stepRefused, if_true, decide_eq_false_iff_not, Nat.not_le] at h
    exact h
  | false =>
    simp only [ChanUnit.step, Bool.false_eq_true, if_false]
    omega

theorem Moves.unitsOk {p : Licence} {s t : State} (h : Moves p s t) (hs : s.UnitsOk) : t.UnitsOk := by
  induction h with
  | refl => exact hs
  | state n new _ _ ih => exact ih.frame (fun m => setState_count _ n m new) (setState_port _ n new).config.1
  | @unit t n u _ hc _ ih => exact ih.set (hc ▸ ih.1 n)
  | @step t n up _ _ hr ih => exact (ih.set (step_count_le (ih.1 n) t.now hr)).lamp
  | count n k _ _ chan ih => exact (ih.set (ih.2 n k chan)).lamp
  | confirm q _ _ ih =>
    refine ⟨fun m => ?_, ih.2.confirm q⟩
    unfold State.confirmLearn
    rw [State.askReview_units, State.judgeLamp_units]
    exact ih.1 m
  | aside u _ hu _ _ ih => exact ih.frame (fun m => congrArg (·.units[m].count) hu) (congrArg (·.port.config) hu)
  | rest _ ih => exact ih.frame (fun m => kept_count (finish_kept _) m) (kept_config (finish_kept _))
  | mark | condition => exact State.UnitsOk.frame ‹_› (fun _ => rfl) rfl
  | referenced n b _ ih => exact ih.frame (fun m => by rw [setReferenced_units]) (by simp)
  | submitState | submitDraw | report | raise | clear | lamp | session =>
    exact State.UnitsOk.frame ‹_› (fun m => by simp) (by simp)

/-! ### The port at the ends of reads -/

theorem startUpInvalid_port (s : State) (image : Option Memory) : (s.startUpInvalid image).block .port =
    (State.beginCondition { s with port := s.port.readEnded image none } .configStation).block .port :=
  startUpInvalid_block s image (by decide)

theorem startUpValid_port (s : State) (image : Memory) (c : RunCfg) (pins : PinSample) :
    (s.startUpValid image c pins).block .port = ({ s with port := s.port.readEnded (some image) (some c) } : State).block .port := by
  rw [startUpValid_block s image c pins (by decide), startWeather_block _ c pins rfl, adoptUnits_block, channelErrors_block]

theorem rereadEnd_port (s : State) (image : Option Memory) (new : Option RunCfg) (pins : PinSample) :
    (s.rereadEnd image new pins).block .port =
      (State.setCondition { s with port := s.port.readEnded image new } .configStation new.isNone).block .port := by
  rw [rereadEnd_block, rereadIsolation_block _ _ (by decide), rereadVane_block _ _ _ _ (by decide),
    rereadAnem_block _ _ _ _ (by decide), rereadRain_block _ _ _ _ (by decide), rereadStart_block]

theorem beginCondition_port (s : State) (f : FlagId) : (s.beginCondition f).port = s.port := by
  unfold State.beginCondition State.raise
  split
  · rfl
  · rw [raiseAt_port]
    rfl

/-- The port after a command of the reads: as it was, in another try, or at the end of the read with no image, with one judged
INVALID, or with one judged VALID. -/
inductive ReadEnds (s t : State) : Prop
  | same : t = s → ReadEnds s t
  | tries (k : Nat) (w : Bool) : s.port.read = .reading k w → k < 3 → t = { s with port := { s.port with read := .reading (k + 1) true } } →
      ReadEnds s t
  | ended (image : Option Memory) (config : Option RunCfg) : (∀ m, image = some m → m.wf = true) →
      (∀ c, config = some c → ∃ own m, judgeImage own m = some c) →
      t.port.ownAddress = s.port.ownAddress → t.port.read = .ended → t.port.image = image → t.port.config = config →
      t.port.restart = false → ReadEnds s t

/-- The commands that end reads. -/
def isRead (c : Instr) : Bool :=
  match c with
  | .readTryFailed | .configReadEnd .. | .rereadEnd .. => true
  | _ => false

/-- The commands that end a try of a read. -/
theorem read_commands {motive : ∀ c : Instr, isRead c = true → Prop}
    (readTryFailed : motive .readTryFailed rfl) (configReadEnd : ∀ bytes pins, motive (.configReadEnd bytes pins) rfl)
    (rereadEnd : ∀ bytes pins, motive (.rereadEnd bytes pins) rfl)
    (c : Instr) : ∀ own : isRead c = true, motive c own := by
  cases c with
  | readTryFailed => exact fun _ => readTryFailed
  | configReadEnd => exact fun _ => configReadEnd ..
  | rereadEnd => exact fun _ => rereadEnd ..
  | _ => exact fun own => absurd own Bool.false_ne_true

theorem ReadEnds.of_port {s t u : State} (image : Option Memory) (config : Option RunCfg) (h : t.block .port = u.block .port)
    (port : u.port = s.port.readEnded image config) (wf : ∀ m, image = some m → m.wf = true)
    (judged : ∀ c, config = some c → ∃ own m, judgeImage own m = some c) : ReadEnds s t := by
  obtain ⟨address, read, im, conf, restart⟩ := block_port h
  rw [port] at address read im conf restart
  exact .ended image config wf judged address read im conf restart

theorem exec_readEnds {c : Instr} {s t : State} (h : exec c s = .next t) (read : isRead c = true) : ReadEnds s t := by
  have invalid (image : Option Memory) (wf : ∀ m, image = some m → m.wf = true) : ReadEnds s (s.startUpInvalid image) :=
    .of_port image none (startUpInvalid_port s image) (beginCondition_port _ _) wf (fun _ valid => nomatch valid)
  cases c, read using read_commands with
  | readTryFailed =>
    obtain eq | ⟨k, read, ⟨more, eq⟩ | ⟨-, eq⟩ | ⟨-, eq⟩⟩ := execReadTryFailed_cases h
    · exact .same eq
    · exact .tries k false read more eq
    · rw [eq]
      exact .of_port none none (rereadEnd_port s _ _ _) rfl (fun _ read => nomatch read) (fun _ valid => nomatch valid)
    · rw [eq]
      exact invalid none (fun _ read => nomatch read)
  | configReadEnd bytes pins =>
    obtain eq | ⟨own, k, m, -, -, -, wf, ⟨-, eq⟩ | ⟨c, judged, eq⟩⟩ := execConfigReadEnd_cases h
    · exact .same eq
    · rw [eq]
      exact invalid (some m) (by rintro _ ⟨⟩; exact wf)
    · rw [eq]
      exact .of_port (some m) (some c) (startUpValid_port s m c pins) rfl (by rintro _ ⟨⟩; exact wf)
        (by rintro _ ⟨⟩; exact ⟨own, m, judged⟩)
  | rereadEnd bytes pins =>
    obtain eq | ⟨own, k, m, -, -, -, wf, eq⟩ := execRereadEnd_cases h
    · exact .same eq
    · rw [eq]
      exact .of_port (some m) (judgeImage own m) (rereadEnd_port s _ _ _) rfl (by rintro _ ⟨⟩; exact wf)
        (fun c judged => ⟨own, m, judged⟩)

/-- A command that is neither ordinary nor a reset, the clock, or a read leaves configuration and image. -/
theorem exec_config_of_special {c : Instr} {s t : State} (h : exec c s = .next t) (ordinary : isOrdinary c = false)
    (read : isRead c = false) (reset : ∀ straps enc panel anem, c ≠ .fullReset straps enc panel anem) :
    t.port.config = s.port.config ∧ t.port.image = s.port.image := by
  obtain same | rfl | ⟨bytes, pins, rfl | rfl⟩ | ⟨level, ms, q, rfl, -⟩ | ⟨straps, enc, panel, anem, eq⟩ :=
    configurationChangesAtReads c s t h
  · exact same
  · cases read
  · cases read
  · cases read
  · cases ordinary
  · exact absurd eq (reset straps enc panel anem)

theorem exec_unitsOk {c : Instr} {s t : State} (h : exec c s = .next t) (hs : s.UnitsOk) : t.UnitsOk := by
  cases ordinary : isOrdinary c with
  | true => exact (exec_moves ordinary h).unitsOk hs
  | false =>
    obtain ⟨straps, enc, panel, anem, rfl⟩ | ⟨rfl, rfl⟩ | moved := exec_cases h
    · refine ⟨fun n => by rw [(fullReset_channels h n).1]; exact Nat.zero_le _, .of_judged (.inl ?_)⟩
      obtain ⟨u, was, ⟨port, rfl⟩ | ⟨port, rfl⟩⟩ := execFullReset_cases h
      · rw [port]
        rfl
      · rw [beginCondition_port, port]
        rfl
    · exact hs.frame (fun n => by rw [tick_unit]; rfl) rfl
    · have units (n : Ch) : (t.units[n]'n.isLt).count = (s.units[n]'n.isLt).count := by
        refine moved.count_eq n ?_ ?_
        · rintro ⟨a, b, i, rfl⟩
          cases ordinary
        · rintro (⟨a, b, i, rfl⟩ | ⟨p, q, rfl | rfl | rfl⟩) <;> cases ordinary
      refine ⟨fun n => (units n).symm ▸ hs.1 n, ?_⟩
      cases read : isRead c with
      | true =>
        obtain rfl | ⟨k, w, -, -, rfl⟩ | ⟨image, config, -, judged, -, -, -, conf, -⟩ := exec_readEnds h read
        · exact hs.2
        · exact hs.2
        · refine .of_judged ?_
          rw [conf]
          cases config with
          | none => exact .inl rfl
          | some c =>
            obtain ⟨own, m, e⟩ := judged c rfl
            exact .inr ⟨own, m, c, e, rfl⟩
      | false =>
        by_cases reset : ∃ straps enc panel anem, c = .fullReset straps enc panel anem
        · obtain ⟨straps, enc, panel, anem, rfl⟩ := reset
          refine .of_judged (.inl ?_)
          obtain ⟨u, was, ⟨port, rfl⟩ | ⟨port, rfl⟩⟩ := execFullReset_cases h
          · rw [port]
            rfl
          · rw [beginCondition_port, port]
            rfl
        · exact hs.2.of_config (exec_config_of_special h ordinary read (fun a b c d e => reset ⟨a, b, c, d, e⟩)).1

/-- Station time stays in range (R1). -/
theorem exec_now_le {c : Instr} {s t : State} (h : exec c s = .next t) (hs : s.now ≤ Config.maxStationTime) :
    t.now ≤ Config.maxStationTime := by
  by_cases clock : setsBlock c .clock = false
  · rw [block_now (exec_block h clock (.inr (by decide)))]
    exact hs
  · rw [Bool.not_eq_false] at clock
    cases c, clock using clock_commands with
    | fullReset straps enc panel anem =>
      obtain ⟨u, was, ⟨-, rfl⟩ | ⟨-, rfl⟩⟩ := execFullReset_cases h
      · rw [was.now]
        exact Nat.zero_le _
      · rw [block_now (beginCondition_block u .configStation (by decide)), was.now]
        exact Nat.zero_le _
    | stationTimeStep =>
      cases h
      exact Nat.min_le_right _ _

/-- Settles O6: a count moves by a step that is not refused, or to a closed count, and both stay in range (`Moves.unitsOk`); a
closed count comes from an image whose record passed its ranges (`judgeImage_closed`). -/
theorem countsKept : Obligations.CountsKept := by
  unfold Obligations.CountsKept
  intro s t hs h
  refine step_keeps (P := State.CountsOk) (fun _ _ => id) (fun _ => id) (fun c s t h hs => ?_) h hs
  obtain ⟨now, units⟩ := hs
  exact ⟨exec_now_le h now, exec_unitsOk h units⟩

end Sys2Proof.Machine

namespace Sys2Proof.Machine
set_option Elab.async false

/-! ### The image and the ranges of the small counters -/

section

variable {s t : State}

/-! #### The image (R208) -/

theorem Moves.imageOk {p : Licence} (h : Moves p s t) (hs : s.ImageOk) : t.ImageOk := by
  induction h with
  | refl => exact hs
  | confirm q _ _ ih =>
    intro m hm
    rw [(confirmLearn_port _ q).2, Option.map_eq_some_iff] at hm
    obtain ⟨m', image, rfl⟩ := hm
    exact applyLearned_wf (ih m' image) ..
  | state n new _ _ ih =>
    unfold State.ImageOk
    rw [(setState_port _ n new).config.2]
    exact ih
  | rest _ ih =>
    unfold State.ImageOk
    rw [kept_image (finish_kept _)]
    exact ih
  | aside u _ hu _ _ ih =>
    unfold State.ImageOk
    rw [show u.port.image = _ from congrArg (·.port.image) hu]
    exact ih
  | _ => simpa only [State.ImageOk, State.setUnit_port, State.judgeLamp_port, setCount_port, setReferenced_port, State.setRec_port,
      submitState_port, submitDraw_port, State.submit_port, raiseAt_port, clearAt_port] using ‹State.ImageOk _›

theorem exec_imageOk {c : Instr} (h : exec c s = .next t) (hs : s.ImageOk) : t.ImageOk := by
  cases ordinary : isOrdinary c with
  | true => exact (exec_moves ordinary h).imageOk hs
  | false =>
    cases read : isRead c with
    | true =>
      obtain rfl | ⟨k, w, -, -, rfl⟩ | ⟨image, config, wf, -, -, -, im, -⟩ := exec_readEnds h read
      · exact hs
      · exact hs
      · exact fun m hm => wf m (im.symm.trans hm)
    | false =>
      by_cases reset : ∃ straps enc panel anem, c = .fullReset straps enc panel anem
      · obtain ⟨straps, enc, panel, anem, rfl⟩ := reset
        obtain ⟨u, was, ⟨port, rfl⟩ | ⟨port, rfl⟩⟩ := execFullReset_cases h
        · intro m hm
          rw [port] at hm
          cases hm
        · intro m hm
          rw [beginCondition_port, port] at hm
          cases hm
      · intro m hm
        rw [(exec_config_of_special h ordinary read (fun a b c d e => reset ⟨a, b, c, d, e⟩)).2] at hm
        exact hs m hm

/-! #### What a confirm leaves of the port -/

/-- A running configuration without its channel records. -/
def RunCfg.station (c : RunCfg) : RunCfg := { c with chans := Vector.replicate 4 .unfitted }

/-- The port without image, channel records, session and store: what a confirm leaves. -/
def Port.frame (p : Port) : Port := { p with image := none, config := p.config.map RunCfg.station, session := none, store := none }

theorem applyLearned_station (c : RunCfg) (q : Session) : (c.applyLearned q).station = c.station := by
  unfold RunCfg.applyLearned
  split <;> rfl

theorem confirmLearn_frame (s : State) (q : Session) : (s.confirmLearn q).port.frame = s.port.frame := by
  unfold State.confirmLearn
  rw [State.askReview_port, State.judgeLamp_port]
  unfold Port.frame
  simp only [Option.map_map, Function.comp_def, applyLearned_station]

/-- A chain of changes that does not free the port leaves its frame. -/
theorem Moves.portFrame {p : Licence} (h : Moves p s t) (free : ¬ p.free .port) : t.port.frame = s.port.frame := by
  induction h with
  | refl => rfl
  | confirm q _ _ ih => rw [confirmLearn_frame, ih]
  | state n new _ _ ih =>
    obtain ⟨x, eq, -⟩ := setState_port _ n new
    rw [eq]
    exact ih
  | rest _ ih =>
    rw [← ih]
    exact congrArg (·.port.frame) (block_of_kept (finish_kept _) .port)
  | aside u _ _ ho _ ih =>
    rw [← ih]
    exact congrArg (·.port.frame) ((ho .port).resolve_left free)
  | session q x _ ih =>
    rw [State.judgeLamp_port]
    exact ih
  | condition f b _ _ _ ih => exact ih
  | _ => simpa only [State.setUnit_port, State.judgeLamp_port, setCount_port, setReferenced_port, State.setRec_port,
      submitState_port, submitDraw_port, State.submit_port, raiseAt_port, clearAt_port] using ‹Port.frame _ = _›

theorem frame_read {p q : Port} (h : p.frame = q.frame) :
    p.ownAddress = q.ownAddress ∧ p.read = q.read ∧ p.restart = q.restart ∧ p.config.map RunCfg.station = q.config.map RunCfg.station :=
  ⟨congrArg (·.ownAddress) h, congrArg (·.read) h, congrArg (·.restart) h, congrArg (·.config) h⟩

/-! #### The read state (R208) -/

/-- The try of a read. -/
def ReadState.InRange (r : ReadState) : Prop := ∀ k w, r = .reading k w → 1 ≤ k ∧ k ≤ 3

/-- A command that does not change the port, but by a confirm, leaves its frame. -/
theorem exec_portFrame {c : Instr} (h : exec c s = .next t) (other : setsBlock c .port = false) :
    t.port.frame = s.port.frame := by
  by_cases ordinary : isOrdinary c = true
  · refine (exec_moves ordinary h).portFrame ?_
    show ¬ setsBlock c .port = true
    rw [other]
    exact Bool.false_ne_true
  · have no : ¬ (licenceOf c s).confirms := fun ⟨_, _, _, e, _⟩ => ordinary (e ▸ rfl)
    exact congrArg (·.port.frame) (exec_block h other (.inl no))

theorem exec_read_inRange {c : Instr} (h : exec c s = .next t) (hs : s.port.read.InRange) : t.port.read.InRange := by
  by_cases other : setsBlock c .port = false
  · exact (frame_read (exec_portFrame h other)).2.1 ▸ hs
  by_cases read : isRead c = true
  · obtain rfl | ⟨k, w, reading, more, rfl⟩ | ⟨image, config, -, -, -, ended, -⟩ := exec_readEnds h read
    · exact hs
    · intro k' w' e
      cases e
      have := hs k w reading
      omega
    · intro k w e
      rw [ended] at e
      cases e
  rw [Bool.not_eq_false] at other
  cases c, other using port_commands with
  | fullReset straps enc panel anem =>
    obtain ⟨u, was, ⟨port, rfl⟩ | ⟨port, rfl⟩⟩ := execFullReset_cases h
    · rw [port]
      rintro k w ⟨⟩
      decide
    · rw [beginCondition_port, port]
      exact nofun
  | stationTimeStep =>
    cases h
    exact hs
  | warmRestart =>
    obtain eq | ⟨-, eq⟩ := execWarmRestart_cases h
    · rw [eq]
      exact hs
    · rw [eq]
      have port : s.restartNow.block .port = s.restartPort.block .port := by
        rw [restartNow_block, restartBlocks_block _ (by decide) (by decide), endCondition_block (b := .port) _ .lineFault (by decide),
          eachChannel_block _ (fun n u => restartChannel_block n u .port)]
      rw [(block_port port).2.1]
      rintro k w ⟨⟩
      decide
  | readRetryExpiry =>
    have h : execReadRetryExpiry s = .next t := h
    unfold execReadRetryExpiry at h
    split at h <;> rw [next_inj h]
    · rename_i k reading
      rintro k' w' ⟨⟩
      exact hs k true reading
    · exact hs
  | commandRestart =>
    have h : execCommandRestart s = .next t := h
    unfold execCommandRestart at h
    split at h
    · rw [next_inj h]
      exact hs
    · rw [next_inj h]
      refine Eq.subst (motive := ReadState.InRange) ?_ hs
      exact (kept_read (finish_kept { s with port := { s.port with restart := true } })).symm
  | readTryFailed | configReadEnd | rereadEnd => exact absurd rfl read

end

end Sys2Proof.Machine

namespace Sys2Proof.Machine
set_option Elab.async false

/-! ### Condition marks (R184) -/

/-- The condition mark of a flag. -/
def State.mark (s : State) (f : FlagId) : Bool := (s.flag f).condition

section

variable {s t : State}

theorem mark_of_flags (h : t.flags = s.flags) (f : FlagId) : t.mark f = s.mark f := by
  unfold State.mark State.flag
  rw [h]

/-- A block's marks are its own. -/
theorem mark_of_block {b : Block} {f : FlagId} (hf : f.block = some b) (h : t.block b = s.block b) : t.mark f = s.mark f := by
  have marks : marksOf b t.flags = marksOf b s.flags := congrArg (·.flags) h
  have place := congrArg (fun v : Vector Flag 21 => (v[f.index]'f.index.isLt).condition) marks
  simpa [marksOf, flagAt_index, hf, State.mark, State.flag] using place

theorem setCondition_mark (s : State) (f g : FlagId) (b : Bool) : (s.setCondition f b).mark g = if g = f then b else s.mark g := by
  unfold State.mark State.flag State.setCondition
  rw [setFlag_raised]
  by_cases h : g = f
  · subst h
    rw [if_pos rfl, if_pos rfl]
  · rw [if_neg (fun e => h (FlagId.index_injective e)), if_neg h]

theorem endCondition_mark (s : State) (f g : FlagId) : (s.endCondition f).mark g = if g = f then false else s.mark g :=
  setCondition_mark s f g false

theorem raiseAt_mark (s : State) (i : Fin 21) (g : FlagId) : (s.raiseAt i).mark g = s.mark g := by
  unfold State.mark State.flag
  rw [raiseAt_flags]
  split
  · rename_i e
    exact congrArg (fun j : Fin 21 => (s.flags[j]'j.isLt).condition) e.symm
  · rfl

theorem clearAt_mark (s : State) (i : Fin 21) (g : FlagId) : (s.clearAt i).mark g = s.mark g := by
  unfold State.mark State.flag
  rw [clearAt_flags]
  split
  · rename_i e
    exact congrArg (fun j : Fin 21 => (s.flags[j]'j.isLt).condition) e.symm
  · rfl

theorem beginCondition_mark (s : State) (f g : FlagId) : (s.beginCondition f).mark g = if g = f then true else s.mark g := by
  unfold State.beginCondition State.raise
  split
  · rename_i begun
    split
    · rename_i e
      rw [e]
      exact begun
    · rfl
  · rw [raiseAt_mark, setCondition_mark]

end

/-! ### The anemometer (R67, R68, R73) -/

/-- A sensor's block in the configuration in force. -/
def State.anemFitted (s : State) : Bool := s.port.config.any (·.anemFitted)

def State.rainFitted (s : State) : Bool := s.port.config.any (·.rainFitted)

/-- What a command that leaves the configuration does to the anemometer and the mark of WIND SENSOR. -/
inductive State.Blows (s : State) : WindFront → Bool → Prop
  | same : s.Blows s.wind (s.mark .windSensor)
  | pulse : s.Blows s.wind.pulse (if s.wind.excluded then false else s.mark .windSensor)
  | level : s.Blows { s.wind with level := false } (s.mark .windSensor)
  | window (k : Nat) : s.Blows (s.wind.endWindow k) (s.mark .windSensor)
  | silent : s.Blows { s.wind with silence := none, silencePassed := true } (s.mark .windSensor)
  | excludes (w : WindFront) : w = s.wind ∨ w = { s.wind with silence := none, silencePassed := true } → s.anemFitted = true →
      s.Blows { w with excluded := true } true

section

variable {s t : State}

theorem block_wind (h : t.block .wind = s.block .wind) : t.wind = s.wind ∧ t.mark .windSensor = s.mark .windSensor :=
  ⟨congrArg (·.wind) h, mark_of_block rfl h⟩

theorem State.Blows.of_block {u : State} (h : t.block .wind = u.block .wind) (hu : s.Blows u.wind (u.mark .windSensor)) :
    s.Blows t.wind (t.mark .windSensor) := by
  obtain ⟨wind, mark⟩ := block_wind h
  rwa [wind, mark]

theorem anemCfg?_iff {c : RunCfg} : s.anemCfg? = some c ↔ s.port.config = some c ∧ c.anemFitted = true := by
  unfold State.anemCfg?
  split
  · rename_i config
    simp [config]
  · rename_i c' config
    rw [config]
    split
    · rename_i fitted
      simp only [Option.some.injEq]
      exact ⟨fun e => ⟨e, e ▸ fitted⟩, (·.1)⟩
    · rename_i fitted
      simp only [reduceCtorEq, Option.some.injEq, false_iff, not_and]
      rintro rfl
      exact fitted

theorem anemFitted_of_cfg {c : RunCfg} (h : s.anemCfg? = some c) : s.anemFitted = true := by
  obtain ⟨config, fitted⟩ := anemCfg?_iff.mp h
  simp [State.anemFitted, config, fitted]

/-- The judgement of exclusion excludes the anemometer with the WIND SENSOR condition, or does nothing (R73). -/
theorem judgeExclusion_cases (s : State) : s.judgeExclusion = s ∨ s.anemFitted = true ∧ s.wind.excluded = false ∧
    s.judgeExclusion =
      ((({ s with wind := { s.wind with excluded := true } } : State).beginCondition .windSensor).withdrawGust).askReview := by
  unfold State.judgeExclusion
  split
  · exact .inl rfl
  · rename_i c config
    split
    · rename_i excludes
      simp only [Bool.and_eq_true, Bool.not_eq_true'] at excludes
      exact .inr ⟨anemFitted_of_cfg config, excludes.1.1, rfl⟩
    · exact .inl rfl

theorem askReview_block (s : State) (b : Block) : s.askReview.block b = s.block b := block_of_kept (askReview_kept s) b

theorem askEval_block (s : State) (b : Block) : s.askEval.block b = s.block b := block_of_kept (askEval_kept s) b

theorem handReport_block (s : State) (b : Block) : s.handReport.block b = s.block b := by
  obtain h | h | h := handReport_cases s <;> rw [h]
  · exact askReview_block s b
  · rw [submitGust_block, askReview_block]

theorem judgeExclusion_wind (s : State) :
    s.judgeExclusion.block .wind = s.block .wind ∨ s.anemFitted = true ∧ s.wind.excluded = false ∧
      s.judgeExclusion.wind = { s.wind with excluded := true } ∧ s.judgeExclusion.mark .windSensor = true := by
  obtain h | ⟨fitted, excluded, h⟩ := judgeExclusion_cases s
  · exact .inl (by rw [h])
  · refine .inr ⟨fitted, excluded, ?_⟩
    have same : s.judgeExclusion.block .wind =
        (({ s with wind := { s.wind with excluded := true } } : State).beginCondition .windSensor).block .wind := by
      rw [h, askReview_block, withdrawGust_block]
    obtain ⟨wind, mark⟩ := block_wind same
    rw [wind, mark, beginCondition_mark, beginCondition_wind]
    exact ⟨rfl, rfl⟩

theorem execAnemPulse_blows {us : Nat} (h : execAnemPulse us s = .next t) : s.Blows t.wind (t.mark .windSensor) := by
  unfold execAnemPulse at h
  split at h
  · rw [next_inj h]
    exact .same
  · split at h
    · dsimp only at h
      have pulsed : s.Blows s.wind.pulse (if s.wind.excluded then false else s.mark .windSensor) := .pulse
      split at h
      · rename_i excluded
        rw [if_pos excluded] at pulsed
        rw [next_inj h]
        refine .of_block (u := State.endCondition _ .windSensor)
          (by rw [finish_block, askReview_block, submitGust_block]) ?_
        rw [endCondition_mark]
        exact pulsed
      · rename_i excluded
        rw [if_neg excluded] at pulsed
        rw [next_inj h]
        exact pulsed
    · rw [next_inj h]
      exact .same

theorem execAnemLevelFall_blows {us : Nat} (h : execAnemLevelFall us s = .next t) : s.Blows t.wind (t.mark .windSensor) := by
  unfold execAnemLevelFall at h
  split at h
  · rw [next_inj h]
    exact .same
  · split at h <;> rw [next_inj h]
    · exact .level
    · exact .same

theorem execWindowEnd_blows (h : execWindowEnd s = .next t) : s.Blows t.wind (t.mark .windSensor) := by
  unfold execWindowEnd at h
  split at h
  · rw [next_inj h]
    exact .same
  · rename_i c _
    split at h <;> rw [next_inj h]
    · refine .of_block (u := { s with wind := s.wind.endWindow c.k }) (by rw [finish_block, handReport_block]) ?_
      exact .window c.k
    · exact .same

theorem execAnemSilenceExpiry_blows (h : execAnemSilenceExpiry s = .next t) : s.Blows t.wind (t.mark .windSensor) := by
  unfold execAnemSilenceExpiry at h
  split at h <;> rw [next_inj h]
  · refine .of_block (u := State.judgeExclusion _) (finish_block _ _) ?_
    obtain same | ⟨fitted, -, wind, mark⟩ :=
      judgeExclusion_wind { s with wind := { s.wind with silence := none, silencePassed := true } }
    · exact .of_block same .silent
    · rw [wind, mark]
      exact .excludes _ (.inr rfl) fitted
  · exact .same

theorem takeNext_block (s : State) {b : Block} (hb : b ≠ .table) : s.takeNext.block b = s.block b := by
  refine block_of_sans (b := .table) (s := s) ?_ hb
  rfl

theorem setPeers_block (s : State) (l : List PeerEntry) {b : Block} (hb : b ≠ .table) : (s.setPeers l).block b = s.block b := by
  refine block_of_sans (b := .table) (s := s) ?_ hb
  rfl

theorem overflowed_block (s : State) {b : Block} (hb : b ≠ .overflow) : s.overflowed.block b = s.block b := by
  unfold State.overflowed State.raise
  dsimp only
  rw [raiseAt_block, setCondition_block _ .peerOverflow _ (fun e => hb (Option.some.inj e).symm)]
  refine block_of_sans (b := .overflow) (s := s) ?_ hb
  rfl

/-- A filing: told of the table with the entry put in, overflowed, or nothing. -/
theorem fileInto_cases (s : State) (f : RxFrame) (gives : Bool) (update : PeerEntry → PeerEntry) (told : State → State) :
    (∃ l, s.fileInto f gives update told = told (s.setPeers l)) ∨ s.fileInto f gives update told = s.overflowed ∨
      s.fileInto f gives update told = s := by
  unfold State.fileInto
  split
  · exact .inl ⟨_, rfl⟩
  · split
    · split
      · exact .inr (.inl rfl)
      · exact .inl ⟨_, rfl⟩
    · exact .inr (.inr rfl)

theorem execFileGust_blows (h : execFileGust s = .next t) : s.Blows t.wind (t.mark .windSensor) := by
  unfold execFileGust at h
  split at h
  · rw [next_inj h]
    exact .same
  · split at h <;> rw [next_inj h]
    · exact .of_block (takeNext_block s (by decide)) .same
    · rename_i f _ _ g _
      refine .of_block (u := s.fileGust f g) (by rw [takeNext_block _ (by decide), finish_block]) ?_
      unfold State.fileGust
      obtain ⟨l, eq⟩ | eq | eq := fileInto_cases s f true (fun p => { p with
          wind := some { assessment := g.assessment, sector := g.sector, left := 1800 - f.age } }) (fun s => s.judgeExclusion.askReview)
      · rw [eq]
        refine .of_block (u := (s.setPeers l).judgeExclusion) (askReview_block _ _) ?_
        obtain same | ⟨fitted, -, wind, mark⟩ := judgeExclusion_wind (s.setPeers l)
        · exact .of_block (same.trans (setPeers_block s l (by decide))) .same
        · rw [wind, mark]
          exact .excludes _ (.inl rfl) fitted
      · rw [eq]
        exact .of_block (overflowed_block s (by decide)) .same
      · rw [eq]
        exact .same

/-- The commands that set every block: the reads, the full reset, the clock. -/
def isWide (c : Instr) : Bool :=
  match c with
  | .readTryFailed | .configReadEnd .. | .rereadEnd .. | .fullReset .. | .stationTimeStep => true
  | _ => false

/-- The commands that set every block. -/
theorem wide_commands {motive : ∀ c : Instr, isWide c = true → Prop}
    (readTryFailed : motive .readTryFailed rfl) (configReadEnd : ∀ bytes pins, motive (.configReadEnd bytes pins) rfl)
    (rereadEnd : ∀ bytes pins, motive (.rereadEnd bytes pins) rfl)
    (fullReset : ∀ straps enc panel anem, motive (.fullReset straps enc panel anem) rfl)
    (stationTimeStep : motive .stationTimeStep rfl)
    (c : Instr) : ∀ own : isWide c = true, motive c own := by
  cases c with
  | readTryFailed => exact fun _ => readTryFailed
  | configReadEnd => exact fun _ => configReadEnd ..
  | rereadEnd => exact fun _ => rereadEnd ..
  | fullReset => exact fun _ => fullReset ..
  | stationTimeStep => exact fun _ => stationTimeStep
  | _ => exact fun own => absurd own Bool.false_ne_true

theorem exec_blows {c : Instr} (h : exec c s = .next t) (wide : isWide c = false) : s.Blows t.wind (t.mark .windSensor) := by
  by_cases other : setsBlock c .wind = false
  · exact .of_block (exec_block h other (.inr (by decide))) .same
  · rw [Bool.not_eq_false] at other
    cases c, other using wind_commands with
    | anemPulse us => exact execAnemPulse_blows h
    | anemLevelFall us => exact execAnemLevelFall_blows h
    | windowEnd => exact execWindowEnd_blows h
    | anemSilenceExpiry => exact execAnemSilenceExpiry_blows h
    | fileGust => exact execFileGust_blows h
    | readTryFailed | configReadEnd | rereadEnd | fullReset | stationTimeStep => cases wide

end

/-- The ranges of the anemometer's counters (R67, R69). -/
def WindFront.InRange (w : WindFront) : Prop := w.count ≤ 65535 ∧ w.done ≤ 19 ∧ w.gusts.length ≤ 5

theorem pushGust_length (gusts : List Nat) (peak : Nat) (h : gusts.length ≤ 5) : (pushGust gusts peak).length ≤ 5 := by
  unfold pushGust
  split
  · simp
    omega
  · simp
    omega

theorem endWindow_inRange {w : WindFront} (h : w.InRange) (k : Nat) : (w.endWindow k).InRange := by
  obtain ⟨count, done, gusts⟩ := h
  unfold WindFront.endWindow
  dsimp only
  split
  · exact ⟨Nat.zero_le _, Nat.zero_le _, pushGust_length _ _ gusts⟩
  · refine ⟨Nat.zero_le _, ?_, gusts⟩
    show w.done + 1 ≤ 19
    omega

theorem State.Blows.inRange {s : State} {w : WindFront} {b : Bool} (h : s.Blows w b) (hs : s.wind.InRange) : w.InRange := by
  cases h with
  | same => exact hs
  | pulse => exact ⟨Nat.min_le_left _ _, hs.2⟩
  | level => exact hs
  | window k => exact endWindow_inRange hs k
  | silent => exact hs
  | excludes w hw => obtain rfl | rfl := hw <;> exact hs

end Sys2Proof.Machine

namespace Sys2Proof.Machine
set_option Elab.async false

/-! ### The sensors at the ends of reads -/

section

variable {s t : State}

theorem block_vane (h : t.block .vane = s.block .vane) : t.vane = s.vane := congrArg (·.vane) h

theorem block_rain (h : t.block .rain = s.block .rain) :
    t.rain.state = s.rain.state ∧ t.mark .rainSensor = s.mark .rainSensor :=
  ⟨congrArg (·.rain.state) h, mark_of_block rfl h⟩

/-- The rain sensor, the anemometer and the vane as the end of a start-up read starts them (R74). -/
theorem startWeather_rain (s : State) (c : RunCfg) (pins : PinSample) :
    (s.startWeather c pins).rain = (if c.rainFitted then s.startRain c pins else s).rain ∧
      (s.startWeather c pins).mark .rainSensor = (if c.rainFitted then s.startRain c pins else s).mark .rainSensor := by
  unfold State.startWeather
  dsimp only
  generalize (if c.rainFitted then s.startRain c pins else s) = u
  split <;> split <;> exact ⟨rfl, rfl⟩

theorem startWeather_wind (s : State) (c : RunCfg) (pins : PinSample) :
    (s.startWeather c pins).wind = (if c.anemFitted then s.wind.start pins.anem else s.wind) ∧
      (s.startWeather c pins).mark .windSensor = s.mark .windSensor := by
  have started : (if c.rainFitted then s.startRain c pins else s).block .wind = s.block .wind := by
    split
    · exact startRain_block s c pins (by decide)
    · rfl
  unfold State.startWeather
  dsimp only
  obtain ⟨wind, mark⟩ := block_wind started
  rw [← wind, ← mark]
  generalize (if c.rainFitted then s.startRain c pins else s) = u
  split <;> split <;> exact ⟨rfl, rfl⟩

theorem startWeather_vane (s : State) (c : RunCfg) (pins : PinSample) :
    (s.startWeather c pins).vane = if c.vaneFitted && c.anemFitted then
      { sector := c.sector pins.van2 pins.van1 pins.van0, candidate := none } else s.vane := by
  have started : (if c.rainFitted then s.startRain c pins else s).block .vane = s.block .vane := by
    split
    · exact startRain_block s c pins (by decide)
    · rfl
  unfold State.startWeather
  dsimp only
  rw [← block_vane started]
  generalize (if c.rainFitted then s.startRain c pins else s) = u
  split <;> split <;> rfl

/-- The state from which the end of a start-up read starts the weather front end. -/
def State.adopted (s : State) (image : Memory) (c : RunCfg) (pins : PinSample) : State :=
  State.adoptUnits (State.eachChannel { s with port := s.port.readEnded (some image) (some c) }
    (fun n s => if c.inError n then s.beginCondition (.configChannel n) else s)) (fun _ => false) pins

theorem adopted_block (s : State) (image : Memory) (c : RunCfg) (pins : PinSample) {b : Block} (hb : b ≠ .port) :
    (s.adopted image c pins).block b = s.block b := by
  unfold State.adopted
  rw [adoptUnits_block, channelErrors_block, readEnded_block s _ _ hb]

theorem startUpValid_wind (s : State) (image : Memory) (c : RunCfg) (pins : PinSample) :
    (s.startUpValid image c pins).wind = (if c.anemFitted then s.wind.start pins.anem else s.wind) ∧
      (s.startUpValid image c pins).mark .windSensor = s.mark .windSensor := by
  obtain ⟨wind, mark⟩ := block_wind (startUpValid_block s image c pins (by decide))
  obtain ⟨wind', mark'⟩ := block_wind (adopted_block s image c pins (b := .wind) (by decide))
  obtain ⟨wind'', mark''⟩ := startWeather_wind (s.adopted image c pins) c pins
  rw [wind'] at wind''
  exact ⟨wind.trans wind'', mark.trans (mark''.trans mark')⟩

theorem startUpValid_vane (s : State) (image : Memory) (c : RunCfg) (pins : PinSample) :
    (s.startUpValid image c pins).vane = if c.vaneFitted && c.anemFitted then
      { sector := c.sector pins.van2 pins.van1 pins.van0, candidate := none } else s.vane := by
  rw [← block_vane (adopted_block s image c pins (b := .vane) (by decide)), ← startWeather_vane]
  exact block_vane (startUpValid_block s image c pins (by decide))

theorem rereadAnem_wind (s : State) (old new : Option RunCfg) (pins : PinSample) :
    (s.rereadAnem old new pins).wind = (if new.any (·.anemFitted) then
        if old.any (·.anemFitted) then s.wind else s.wind.start pins.anem
      else { s.wind with window := none, silence := none, silencePassed := false, excluded := false }) ∧
    (s.rereadAnem old new pins).mark .windSensor =
      if new.any (·.anemFitted) then s.mark .windSensor else false := by
  unfold State.rereadAnem
  split
  · split <;> exact ⟨rfl, rfl⟩
  · refine ⟨rfl, ?_⟩
    rw [(block_wind (withdrawGust_block _ .wind)).2, endCondition_mark]
    rfl

/-- Before its turn of the sensors, the end of a reread leaves all blocks but the port. -/
theorem rereadStart_block_same (s : State) (image : Option Memory) (new : Option RunCfg) (pins : PinSample) {b : Block}
    (hb : b ≠ .port) : (s.rereadStart image new pins).block b = s.block b := by
  rw [rereadStart_block, setCondition_block _ .configStation _ (fun e => hb (Option.some.inj e).symm), readEnded_block s _ _ hb]

theorem rereadEnd_wind (s : State) (image : Option Memory) (new : Option RunCfg) (pins : PinSample) :
    (s.rereadEnd image new pins).wind = (if new.any (·.anemFitted) then
        if s.anemFitted then s.wind else s.wind.start pins.anem
      else { s.wind with window := none, silence := none, silencePassed := false, excluded := false }) ∧
    (s.rereadEnd image new pins).mark .windSensor =
      if new.any (·.anemFitted) then s.mark .windSensor else false := by
  have before : ((s.rereadStart image new pins).rereadRain s.port.config new pins).block .wind = s.block .wind := by
    rw [rereadRain_block _ _ _ _ (by decide), rereadStart_block_same s _ _ _ (by decide)]
  have after : (s.rereadEnd image new pins).block .wind =
      (((s.rereadStart image new pins).rereadRain s.port.config new pins).rereadAnem s.port.config new pins).block .wind := by
    rw [rereadEnd_block, rereadIsolation_block _ _ (by decide), rereadVane_block _ _ _ _ (by decide)]
  obtain ⟨wind, mark⟩ := block_wind after
  obtain ⟨wind', mark'⟩ := block_wind before
  obtain ⟨wind'', mark''⟩ := rereadAnem_wind ((s.rereadStart image new pins).rereadRain s.port.config new pins) s.port.config new pins
  rw [wind'] at wind''
  rw [mark'] at mark''
  exact ⟨wind.trans wind'', mark.trans mark''⟩

theorem rereadVane_vane (s : State) (old new : Option RunCfg) (pins : PinSample) :
    (s.rereadVane old new pins).vane = { sector := 8, candidate := none } ∨ (s.rereadVane old new pins).vane = s.vane ∨
      ∃ c, new = some c ∧ (s.rereadVane old new pins).vane = { sector := c.sector pins.van2 pins.van1 pins.van0, candidate := none } := by
  unfold State.rereadVane
  split
  · exact .inl rfl
  · rename_i c
    split
    · exact .inl rfl
    · split
      · exact .inr (.inl rfl)
      · exact .inr (.inr ⟨c, rfl, rfl⟩)

end

/-! ### The vane's range (R71) -/

def VaneFront.InRange (v : VaneFront) : Prop := v.sector ≤ 8 ∧ ∀ d a, v.candidate = some (d, a) → d ≤ 7

theorem sector_lt (c : RunCfg) (x y z : Bool) : c.sector x y z < 8 := Nat.mod_lt _ (by decide)

theorem accepted_inRange (c : RunCfg) (x y z : Bool) :
    ({ sector := c.sector x y z, candidate := none } : VaneFront).InRange := ⟨(sector_lt c x y z).le, nofun⟩

theorem sample_inRange {v : VaneFront} (h : v.InRange) {d : Nat} (hd : d < 8) : (v.sample d).InRange := by
  have fresh (age : Nat) : ({ v with candidate := some (d, age) } : VaneFront).InRange := by
    refine ⟨h.1, fun d' a e => ?_⟩
    cases e
    omega
  unfold VaneFront.sample
  split
  · exact ⟨h.1, nofun⟩
  · split
    · exact fresh 0
    · split
      · rename_i e
        rw [e]
        exact fresh _
      · exact fresh 0

section

variable {s t : State}

theorem exec_vane_inRange {c : Instr} (h : exec c s = .next t) (hs : s.vane.InRange) : t.vane.InRange := by
  by_cases other : setsBlock c .vane = false
  · rw [block_vane (exec_block h other (.inr (by decide)))]
    exact hs
  have reread (image : Option Memory) (new : Option RunCfg) (pins : PinSample) : (s.rereadEnd image new pins).vane.InRange := by
    have before : (((s.rereadStart image new pins).rereadRain s.port.config new pins).rereadAnem s.port.config new pins).vane =
        s.vane := by
      refine block_vane ?_
      rw [rereadAnem_block _ _ _ _ (by decide), rereadRain_block _ _ _ _ (by decide), rereadStart_block_same s _ _ _ (by decide)]
    rw [block_vane ((rereadEnd_block s image new pins .vane).trans (rereadIsolation_block _ _ (by decide)))]
    obtain e | e | ⟨c, -, e⟩ := rereadVane_vane (((s.rereadStart image new pins).rereadRain s.port.config new pins).rereadAnem
      s.port.config new pins) s.port.config new pins
    · rw [e]
      exact ⟨Nat.le_refl 8, nofun⟩
    · rw [e, before]
      exact hs
    · rw [e]
      exact accepted_inRange ..
  have invalid (image : Option Memory) : (s.startUpInvalid image).vane.InRange := by
    rw [block_vane (startUpInvalid_block_same s image (by decide) (by decide))]
    exact hs
  rw [Bool.not_eq_false] at other
  cases c, other using vane_commands with
  | vaneSample x y z =>
    have h : execVaneSample x y z s = .next t := h
    unfold execVaneSample at h
    split at h <;> rw [next_inj h]
    · exact hs
    · exact sample_inRange hs (sector_lt _ x y z)
  | sectorAccepted =>
    have h : execSectorAccepted s = .next t := h
    unfold execSectorAccepted at h
    split at h
    · rename_i c d age _ candidate
      split at h <;> rw [next_inj h]
      · rw [block_vane ((finish_block _ .vane).trans (handReport_block _ .vane))]
        exact ⟨(hs.2 d age candidate).trans (by decide), nofun⟩
      · exact hs
    · rw [next_inj h]
      exact hs
  | readTryFailed =>
    obtain eq | ⟨k, -, ⟨-, eq⟩ | ⟨-, eq⟩ | ⟨-, eq⟩⟩ := execReadTryFailed_cases h <;> rw [eq]
    · exact hs
    · exact hs
    · exact reread ..
    · exact invalid _
  | configReadEnd bytes pins =>
    obtain eq | ⟨own, k, m, -, -, -, -, ⟨-, eq⟩ | ⟨c, -, eq⟩⟩ := execConfigReadEnd_cases h <;> rw [eq]
    · exact hs
    · exact invalid _
    · rw [startUpValid_vane]
      split
      · exact accepted_inRange ..
      · exact hs
  | rereadEnd bytes pins =>
    obtain eq | ⟨own, k, m, -, -, -, -, eq⟩ := execRereadEnd_cases h <;> rw [eq]
    · exact hs
    · exact reread ..
  | fullReset straps enc panel anem =>
    have reset : State.reset.vane.InRange := ⟨by decide, nofun⟩
    obtain ⟨u, was, ⟨-, rfl⟩ | ⟨-, rfl⟩⟩ := execFullReset_cases h
    · rw [was.vane]
      exact reset
    · rw [block_vane (beginCondition_block u .configStation (by decide)), was.vane]
      exact reset
  | stationTimeStep =>
    cases h
    refine ⟨hs.1, fun d a e => ?_⟩
    obtain ⟨x, candidate, ⟨⟩⟩ := Option.map_eq_some_iff.mp e
    exact hs.2 _ _ candidate

theorem exec_wind_inRange {c : Instr} (h : exec c s = .next t) (hs : s.wind.InRange) : t.wind.InRange := by
  have reread (image : Option Memory) (new : Option RunCfg) (pins : PinSample) : (s.rereadEnd image new pins).wind.InRange := by
    rw [(rereadEnd_wind s image new pins).1]
    split
    · split
      · exact hs
      · exact ⟨Nat.zero_le _, Nat.zero_le _, hs.2.2⟩
    · exact hs
  have invalid (image : Option Memory) : (s.startUpInvalid image).wind.InRange := by
    rw [(block_wind (startUpInvalid_block_same s image (by decide) (by decide))).1]
    exact hs
  cases wide : isWide c with
  | false => exact (exec_blows h wide).inRange hs
  | true =>
    cases c, wide using wide_commands with
    | readTryFailed =>
      obtain eq | ⟨k, -, ⟨-, eq⟩ | ⟨-, eq⟩ | ⟨-, eq⟩⟩ := execReadTryFailed_cases h <;> rw [eq]
      · exact hs
      · exact hs
      · exact reread ..
      · exact invalid _
    | configReadEnd bytes pins =>
      obtain eq | ⟨own, k, m, -, -, -, -, ⟨-, eq⟩ | ⟨c, -, eq⟩⟩ := execConfigReadEnd_cases h <;> rw [eq]
      · exact hs
      · exact invalid _
      · rw [(startUpValid_wind s m c pins).1]
        split
        · exact ⟨Nat.zero_le _, Nat.zero_le _, hs.2.2⟩
        · exact hs
    | rereadEnd bytes pins =>
      obtain eq | ⟨own, k, m, -, -, -, -, eq⟩ := execRereadEnd_cases h <;> rw [eq]
      · exact hs
      · exact reread ..
    | fullReset straps enc panel anem =>
      have reset : ({ WindFront.reset with level := anem } : WindFront).InRange := ⟨Nat.zero_le _, Nat.zero_le _, Nat.zero_le _⟩
      obtain ⟨u, was, ⟨-, rfl⟩ | ⟨-, rfl⟩⟩ := execFullReset_cases h
      · rw [was.wind]
        exact reset
      · rw [beginCondition_wind, was.wind]
        exact reset
    | stationTimeStep =>
      cases h
      exact hs

end

end Sys2Proof.Machine

namespace Sys2Proof.Machine
set_option Elab.async false

/-! ### The line mode, the failure count and the marks of the line (R131, R132, R134) -/

/-- The mode after a restart (R142). -/
def LineMode.restart : LineMode → LineMode
  | .listenOnly _ => .normal
  | m => m

/-- What a command but the full reset does to the line mode, the failure count, the note of an acknowledge, and the marks of LINE
FAULT and ADDRESS CLASH. -/
inductive State.LineTurns (s : State) : LineMode → Nat → Option Nat → Bool → Bool → Prop
  | same (failures : Nat) : failures ≤ 16 ∨ failures = s.line.failures →
      s.LineTurns s.line.mode failures s.line.faultAck (s.mark .lineFault) (s.mark .addressClash)
  | listens : s.line.mode = .normal → s.LineTurns (.listenOnly 600) 16 s.line.faultAck true (s.mark .addressClash)
  | expires (l : Nat) : s.line.mode = .listenOnly l → s.LineTurns .normal 0 none false (s.mark .addressClash)
  | clashes : s.LineTurns .clashed s.line.failures none (if s.line.mode.isNormal then s.mark .lineFault else false) true
  | notes (a : Nat) : s.mark .lineFault = true →
      s.LineTurns s.line.mode s.line.failures (some a) (s.mark .lineFault) (s.mark .addressClash)
  | restarts : s.LineTurns s.line.mode.restart 0 none false (s.mark .addressClash)
  | ticks : s.LineTurns s.line.mode.tick s.line.failures s.line.faultAck (s.mark .lineFault) (s.mark .addressClash)

/-- The line after a command, by `State.LineTurns`. -/
def State.LineTurned (s t : State) : Prop :=
  s.LineTurns t.line.mode t.line.failures t.line.faultAck (t.mark .lineFault) (t.mark .addressClash)

section

variable {s t : State}

theorem block_line (h : t.block .line = s.block .line) :
    t.line.mode = s.line.mode ∧ t.line.failures = s.line.failures ∧ t.line.faultAck = s.line.faultAck ∧
      t.mark .lineFault = s.mark .lineFault ∧ t.mark .addressClash = s.mark .addressClash :=
  ⟨congrArg (·.line.mode) h, congrArg (·.line.failures) h, congrArg (·.line.faultAck) h, mark_of_block rfl h, mark_of_block rfl h⟩

theorem State.LineTurned.refl (s : State) : s.LineTurned s := .same _ (.inr rfl)

theorem State.LineTurned.of_block {u : State} (h : t.block .line = u.block .line) (hu : s.LineTurned u) : s.LineTurned t := by
  obtain ⟨mode, failures, ack, fault, clash⟩ := block_line h
  unfold State.LineTurned
  rw [mode, failures, ack, fault, clash]
  exact hu

/-- The line after a command, from a state that agrees on it. -/
theorem State.LineTurned.of_source {u : State} (mode : u.line.mode = s.line.mode) (failures : u.line.failures = s.line.failures)
    (ack : u.line.faultAck = s.line.faultAck) (fault : u.mark .lineFault = s.mark .lineFault)
    (clash : u.mark .addressClash = s.mark .addressClash) (h : u.LineTurned t) : s.LineTurned t := by
  unfold State.LineTurned at h ⊢
  generalize t.line.mode = m, t.line.failures = f, t.line.faultAck = a, t.mark .lineFault = x, t.mark .addressClash = y at h ⊢
  cases h with
  | same f hf =>
    rw [mode, ack, fault, clash]
    exact .same f (failures ▸ hf)
  | listens normal =>
    rw [ack, clash]
    exact .listens (mode ▸ normal)
  | expires l listens =>
    rw [clash]
    exact .expires l (mode ▸ listens)
  | clashes =>
    rw [mode, failures, fault]
    exact .clashes
  | notes a hf =>
    rw [mode, failures, fault, clash]
    exact .notes a (fault ▸ hf)
  | restarts =>
    rw [mode, clash]
    exact .restarts
  | ticks =>
    rw [mode, failures, ack, fault, clash]
    exact .ticks

/-- A setting of the line that leaves mode, count and note. -/
theorem State.LineTurned.setLine {l : LineCtl} (mode : l.mode = s.line.mode) (failures : l.failures ≤ 16 ∨ l.failures = s.line.failures)
    (ack : l.faultAck = s.line.faultAck) : s.LineTurned (s.setLine l) := by
  unfold State.LineTurned
  rw [State.setLine_line, mode, ack]
  exact .same _ failures

theorem execTransmissionStart_line (h : execTransmissionStart s = .next t) : s.LineTurned t := by
  unfold execTransmissionStart at h
  split at h
  · split at h <;> rw [next_inj h]
    · exact .setLine rfl (.inr rfl) rfl
    · exact .refl s
  · rw [next_inj h]
    exact .refl s

theorem execFrameSuccess_line (h : execFrameSuccess s = .next t) : s.LineTurned t := by
  unfold execFrameSuccess at h
  split at h
  · split at h <;> rw [next_inj h]
    · exact .setLine rfl (.inl (Nat.zero_le _)) rfl
    · exact .refl s
  · rw [next_inj h]
    exact .refl s

theorem execArbitrationLoss_line {pos : Nat} (h : execArbitrationLoss pos s = .next t) : s.LineTurned t := by
  unfold execArbitrationLoss at h
  split at h
  · split at h <;> rw [next_inj h]
    · exact .setLine rfl (.inr rfl) rfl
    · exact .refl s
  · rw [next_inj h]
    exact .refl s

theorem execBitError_line {pos : Nat} (h : execBitError pos s = .next t) : s.LineTurned t := by
  unfold execBitError at h
  split at h
  · split at h <;> rw [next_inj h]
    · exact .setLine rfl (.inr rfl) rfl
    · exact .refl s
  · rw [next_inj h]
    exact .refl s

theorem execStartBit_line (h : execStartBitFromAnotherStation s = .next t) : s.LineTurned t := by
  unfold execStartBitFromAnotherStation at h
  split at h
  · rw [next_inj h]
    exact .refl s
  · split at h
    · split at h <;> rw [next_inj h]
      · exact .setLine rfl (.inr rfl) rfl
      · exact .setLine rfl (.inr rfl) rfl
      · exact .refl s
      · exact .refl s
    · rw [next_inj h]
      exact .refl s

theorem isNormal_iff {m : LineMode} : m.isNormal = true ↔ m = .normal := by
  cases m <;> simp [LineMode.isNormal]

/-- A raise changes of the line the pool alone. -/
theorem raiseAt_line_eq (s : State) (i : Fin 21) :
    (s.raiseAt i).line = { s.line with nextSeq := (s.raiseAt i).line.nextSeq, waiting := (s.raiseAt i).line.waiting } := by
  unfold State.raiseAt State.submitAlarm
  split
  · rfl
  · rw [State.judgeLamp_line, submit_line]
    rfl

theorem clearAt_line_eq (s : State) (i : Fin 21) :
    (s.clearAt i).line = { s.line with nextSeq := (s.clearAt i).line.nextSeq, waiting := (s.clearAt i).line.waiting } := by
  unfold State.clearAt State.submitAlarm
  split
  · rw [State.judgeLamp_line, submit_line]
    rfl
  · rfl

theorem beginCondition_line_eq (s : State) (f : FlagId) : (s.beginCondition f).line =
    { s.line with nextSeq := (s.beginCondition f).line.nextSeq, waiting := (s.beginCondition f).line.waiting } := by
  unfold State.beginCondition State.raise
  split
  · rfl
  · rw [raiseAt_line_eq]
    rfl

theorem State.LineTurned.listens {u : State} (normal : s.line.mode = .normal) (mode : u.line.mode = .listenOnly 600)
    (failures : u.line.failures = 16) (ack : u.line.faultAck = s.line.faultAck) (clash : u.mark .addressClash = s.mark .addressClash) :
    s.LineTurned (u.beginCondition .lineFault) := by
  have other : FlagId.addressClash ≠ .lineFault := nofun
  unfold State.LineTurned
  rw [beginCondition_mark, beginCondition_mark, if_pos rfl, if_neg other, beginCondition_line_eq, mode, failures, ack, clash]
  exact .listens normal

theorem execBitErrorHoldEnd_line {r : Bool} (h : execBitErrorHoldEnd r s = .next t) : s.LineTurned t := by
  unfold execBitErrorHoldEnd at h
  split at h
  · split at h
    · rw [next_inj h]
      exact .refl s
    · dsimp only at h
      split at h <;> rw [next_inj h]
      · rename_i limit
        rw [Bool.and_eq_true, decide_eq_true_eq, isNormal_iff] at limit
        exact .of_block (finish_block _ _) (.listens limit.2 rfl limit.1 rfl rfl)
      · exact .setLine rfl (.inl (Nat.min_le_left _ _)) rfl
  · rw [next_inj h]
    exact .refl s

/-- The end of the LINE FAULT condition (R132). -/
theorem endLineFault_line (s : State) : s.endLineFault.line.mode = s.line.mode ∧ s.endLineFault.line.failures = s.line.failures ∧
    s.endLineFault.line.faultAck = none ∧ s.endLineFault.mark .lineFault = false ∧
    s.endLineFault.mark .addressClash = s.mark .addressClash := by
  have other : FlagId.addressClash ≠ .lineFault := nofun
  unfold State.endLineFault
  dsimp only
  split
  · rw [clearAt_mark, clearAt_mark, endCondition_mark, endCondition_mark, if_pos rfl, if_neg other, clearAt_line_eq]
    exact ⟨rfl, rfl, rfl, rfl, rfl⟩
  · rw [endCondition_mark, endCondition_mark, if_pos rfl, if_neg other]
    exact ⟨rfl, rfl, rfl, rfl, rfl⟩

theorem execListenOnlyExpiry_line (h : execListenOnlyExpiry s = .next t) : s.LineTurned t := by
  unfold execListenOnlyExpiry at h
  split at h
  · rename_i listens
    rw [next_inj h]
    have ended : s.LineTurned (s.setLine { s.line with mode := .normal, failures := 0 }).endLineFault := by
      obtain ⟨mode, failures, ack, fault, clash⟩ := endLineFault_line (s.setLine { s.line with mode := .normal, failures := 0 })
      unfold State.LineTurned
      rw [mode, failures, ack, fault, clash]
      exact .expires 0 listens
    refine .of_block (finish_block _ _) (.of_block ?_ ended)
    split
    · rfl
    · exact askEval_block _ _
  · rw [next_inj h]
    exact .refl s

theorem execLineIdle_line (h : execLineIdle s = .next t) : s.LineTurned t := by
  unfold execLineIdle at h
  split at h <;> rw [next_inj h]
  · exact .setLine rfl (.inr rfl) rfl
  · exact .refl s

theorem execFrameAbandoned_line {bits : List Bool} (h : execFrameAbandoned bits s = .next t) : s.LineTurned t := by
  unfold execFrameAbandoned at h
  split at h <;> rw [next_inj h]
  · exact .setLine rfl (.inr rfl) rfl
  · exact .refl s

/-- What of the blocks an acknowledge leaves before it notes LINE FAULT. -/
theorem returned_block (s : State) (b : Block) : (s.eachChannel State.returnFaulted).clearEnded.block b = s.block b :=
  ((Moves.start { Licence.plain with returns := True, clears := fun _ => True } s).eachChannel
    (fun n _ hu => hu.returnFaulted trivial n) |>.clearEnded (fun _ => trivial)).block id (.inl id)

theorem acknowledge_line (s : State) : s.LineTurned s.acknowledge := by
  obtain ⟨mode, failures, ack, fault, clash⟩ := block_line (returned_block s .line)
  have same : s.LineTurned (s.eachChannel State.returnFaulted).clearEnded := .of_block (returned_block s .line) (.refl s)
  unfold State.acknowledge State.noteFaultAck
  generalize (s.eachChannel State.returnFaulted).clearEnded = u at *
  split
  · rename_i notes
    simp only [Bool.and_eq_true] at notes
    show s.LineTurns u.line.mode u.line.failures (some u.now) (u.mark .lineFault) (u.mark .addressClash)
    rw [mode, failures, fault, clash]
    exact .notes _ (fault.symm.trans notes.1.2)
  · exact same

theorem execCommandAcknowledge_line (h : execCommandAcknowledge s = .next t) : s.LineTurned t := by
  unfold execCommandAcknowledge at h
  split at h <;> rw [next_inj h]
  · exact .refl s
  · refine .of_block ?_ (acknowledge_line s)
    rw [takeNext_block _ (by decide), finish_block]

theorem execAckHoldExpiry_line (h : execAckHoldExpiry s = .next t) : s.LineTurned t := by
  unfold execAckHoldExpiry at h
  split at h <;> rw [next_inj h]
  · refine .of_block (finish_block _ _) ?_
    exact .of_source (by rfl) (by rfl) (by rfl) (by rfl) (by rfl) (acknowledge_line (s.setPanel _))
  · exact .refl s

theorem clash_line (s : State) : s.LineTurned s.clash := by
  have other : FlagId.lineFault ≠ .addressClash := nofun
  have clashed := State.LineTurns.clashes (s := s)
  unfold State.clash State.LineTurned
  dsimp only
  rw [beginCondition_mark, beginCondition_mark, if_pos rfl, if_neg other, beginCondition_line_eq]
  split
  · rename_i normal
    rw [if_pos normal] at clashed
    exact clashed
  · rename_i normal
    rw [if_neg normal] at clashed
    rw [endCondition_mark]
    exact clashed

theorem heard_block (s : State) {b : Block} (hb : b ≠ .isolation) : s.heard.block b = s.block b :=
  ((Moves.start { Licence.plain with free := fun d => d = .isolation } s).heard rfl).block hb (.inl id)

theorem offer_block (s : State) (f : RxFrame) {b : Block} (hb : b ≠ .table) : (s.offer f).block b = s.block b :=
  ((Moves.start { Licence.plain with free := fun d => d = .table } s).offer rfl f).block hb (.inl id)

theorem execFrameArrival_line {bits : List Bool} (h : execFrameArrival bits s = .next t) : s.LineTurned t := by
  unfold execFrameArrival at h
  split at h
  · split at h
    · dsimp only at h
      split at h <;> rw [next_inj h]
      · refine .of_block (finish_block _ _) ?_
        exact .of_source (by rfl) (by rfl) (by rfl) (by rfl) (by rfl) (clash_line (s.setLine { s.line with receiving := false }))
      · refine .of_block (u := s.setLine { s.line with receiving := false }) ?_ (.setLine rfl (.inr rfl) rfl)
        rw [finish_block, offer_block _ _ (by decide), heard_block _ (by decide)]
    · rw [next_inj h]
      exact .refl s
  · rw [next_inj h]
    exact .refl s

theorem execWarmRestart_line (h : execWarmRestart s = .next t) : s.LineTurned t := by
  obtain eq | ⟨-, eq⟩ := execWarmRestart_cases h
  · rw [eq]
    exact .refl s
  · rw [eq]
    refine .of_block (restartNow_block s .line) ?_
    have ended : (s.restartPort.eachChannel State.restartChannel).block .line = s.block .line := by
      rw [eachChannel_block _ (fun n u => restartChannel_block n u .line)]
      exact block_of_outer (s := s.restartPort) rfl .line |>.trans rfl
    generalize s.restartPort.eachChannel State.restartChannel = u at ended
    obtain ⟨mode, -, -, -, clash⟩ := block_line ended
    have other : FlagId.addressClash ≠ .lineFault := nofun
    show s.LineTurns u.line.mode.restart 0 none ((u.endCondition .lineFault).mark .lineFault) ((u.endCondition .lineFault).mark .addressClash)
    rw [endCondition_mark, endCondition_mark, if_pos rfl, if_neg other, mode, clash]
    exact .restarts

theorem exec_line {c : Instr} (h : exec c s = .next t) (reset : ∀ straps enc panel anem, c ≠ .fullReset straps enc panel anem) :
    s.LineTurned t := by
  by_cases other : setsBlock c .line = false
  · exact .of_block (exec_block h other (.inr (by decide))) (.refl s)
  · rw [Bool.not_eq_false] at other
    cases c, other using line_commands with
    | fullReset straps enc panel anem => exact absurd rfl (reset straps enc panel anem)
    | stationTimeStep =>
      cases h
      exact .ticks
    | warmRestart => exact execWarmRestart_line h
    | transmissionStart => exact execTransmissionStart_line h
    | frameSuccess => exact execFrameSuccess_line h
    | arbitrationLoss pos => exact execArbitrationLoss_line h
    | bitError pos => exact execBitError_line h
    | bitErrorHoldEnd r => exact execBitErrorHoldEnd_line h
    | startBitFromAnotherStation => exact execStartBit_line h
    | listenOnlyExpiry => exact execListenOnlyExpiry_line h
    | lineIdle => exact execLineIdle_line h
    | frameAbandoned bits => exact execFrameAbandoned_line h
    | frameArrival bits => exact execFrameArrival_line h
    | commandAcknowledge => exact execCommandAcknowledge_line h
    | ackHoldExpiry => exact execAckHoldExpiry_line h

theorem State.LineTurned.failures_le (h : s.LineTurned t) (hs : s.line.failures ≤ 16) : t.line.failures ≤ 16 := by
  unfold State.LineTurned at h
  generalize t.line.mode = m, t.line.failures = f, t.line.faultAck = a, t.mark .lineFault = x, t.mark .addressClash = y at h ⊢
  cases h with
  | same f hf => obtain hf | rfl := hf <;> assumption
  | listens => exact Nat.le_refl 16
  | expires | restarts => exact Nat.zero_le _
  | clashes | notes | ticks => exact hs

end

/-! ### The transmitter's positions (R131, R137) -/

def Transmitter.InRange (x : Transmitter) : Prop :=
  (∀ e f k, x = .sending e f k → k ≤ f.length) ∧ ∀ e k, x = .holding e k → k ≤ 8

theorem notSending_inRange : Transmitter.notSending.InRange := ⟨fun _ _ _ e => (nomatch e), fun _ _ e => (nomatch e)⟩

theorem sending_inRange (e : PoolEntry) {f : List Bool} {k : Nat} (h : k ≤ f.length) : (Transmitter.sending e f k).InRange := by
  refine ⟨fun _ _ _ same => ?_, fun _ _ same => nomatch same⟩
  injection same with _ frame pos
  exact frame ▸ pos ▸ h

theorem holding_inRange (e : PoolEntry) {k : Nat} (h : k ≤ 8) : (Transmitter.holding e k).InRange := by
  refine ⟨fun _ _ _ same => (nomatch same), fun _ _ same => ?_⟩
  injection same with _ pos
  exact pos ▸ h

theorem LineCtl.Transmits.inRange {l m : LineCtl} (h : l.Transmits m) (hl : l.tx.InRange) : m.tx.InRange := by
  cases h with
  | same tx => rwa [tx]
  | locks e frame _ _ tx =>
    rw [tx]
    exact sending_inRange e (Nat.zero_le _)
  | holds e _ tx =>
    rw [tx]
    exact holding_inRange e (Nat.zero_le _)
  | sent tx | returned e _ tx =>
    rw [tx]
    exact notSending_inRange

theorem exec_tx_inRange {c : Instr} {s t : State} (h : exec c s = .next t) (hs : s.line.tx.InRange) : t.line.tx.InRange :=
  exec_pool (P := fun s => s.line.tx.InRange) (fun _ _ _ hr hs => hr.tx_eq ▸ hs) (fun _ _ hl hs => hl.inRange hs)
    (fun _ _ tx => tx ▸ notSending_inRange) h hs

theorem bitTime_inRange {l : LineCtl} (h : l.tx.InRange) : l.bitTime.tx.InRange := by
  unfold LineCtl.bitTime
  split
  · exact h
  · exact sending_inRange _ (Nat.min_le_left _ _)
  · exact holding_inRange _ (Nat.min_le_left _ _)

/-- The ranges by their owners. -/
theorem rangesOk_iff (s : State) : s.RangesOk ↔
    s.line.failures ≤ 16 ∧ s.wind.InRange ∧ s.vane.InRange ∧ s.line.tx.InRange ∧ s.port.read.InRange := by
  unfold State.RangesOk WindFront.InRange VaneFront.InRange Transmitter.InRange ReadState.InRange
  simp only [and_assoc]

theorem exec_failures_le {c : Instr} {s t : State} (h : exec c s = .next t) (hs : s.line.failures ≤ 16) : t.line.failures ≤ 16 := by
  by_cases reset : ∃ straps enc panel anem, c = .fullReset straps enc panel anem
  · obtain ⟨straps, enc, panel, anem, rfl⟩ := reset
    obtain ⟨u, was, ⟨-, rfl⟩ | ⟨-, rfl⟩⟩ := execFullReset_cases h
    · rw [was.line]
      exact Nat.zero_le _
    · rw [beginCondition_line_eq, was.line]
      exact Nat.zero_le _
  · exact (exec_line h (fun a b c d e => reset ⟨a, b, c, d, e⟩)).failures_le hs

/-- Settles O10: each range is kept by the commands of its block (`exec_blows`, `exec_vane_inRange`, `exec_line`, `exec_readEnds`) and
left by the others (`exec_block`); a target comes with the travel that has it (`Shifts.targetsOk`). -/
theorem imageAndRangesKept : Obligations.ImageAndRangesKept := by
  unfold Obligations.ImageAndRangesKept
  intro s t h
  refine ⟨fun hs => ?_, fun hs => ?_, fun hs => ?_⟩
  · exact step_keeps (P := State.ImageOk) (fun _ _ => id) (fun _ => id) (fun c s t h hs => exec_imageOk h hs) h hs
  · refine step_keeps (P := State.RangesOk) (fun _ _ => id) (fun s hs => ?_) (fun c s t h hs => ?_) h hs
    · rw [rangesOk_iff] at hs ⊢
      obtain ⟨failures, wind, vane, tx, read⟩ := hs
      refine ⟨?_, wind, vane, bitTime_inRange tx, read⟩
      rw [State.bitTime_line]
      unfold LineCtl.bitTime
      split <;> exact failures
    · rw [rangesOk_iff] at hs ⊢
      obtain ⟨failures, wind, vane, tx, read⟩ := hs
      exact ⟨exec_failures_le h failures, exec_wind_inRange h wind, exec_vane_inRange h vane, exec_tx_inRange h tx,
        exec_read_inRange h read⟩
  · refine step_keeps (P := State.TargetsOk) (fun _ _ => id) (fun _ => id) (fun c s t h hs => ?_) h hs
    obtain ⟨straps, enc, panel, anem, rfl⟩ | ⟨-, rfl⟩ | moved := exec_cases h
    · intro n x hx
      unfold State.travel? at hx
      rw [(fullReset_channels h n).2] at hx
      cases hx
    · intro n x hx
      unfold State.travel? at hx
      rw [tick_stateOf, chState_tick_travel] at hx
      exact hs n x hx
    · exact moved.targetsOk hs

end Sys2Proof.Machine

namespace Sys2Proof.Machine
set_option Elab.async false

/-! ### The receive queue, the frame in hand and the peer table (R134, R135, R145) -/

/-- The bounds of queue and table, with the address that none of them bears. -/
def State.TableFits (s : State) (own : Option Nat) : Prop :=
  s.line.queue.length ≤ Config.queueCapacity ∧ s.handler.peers.length ≤ Config.tableCapacity ∧
    (s.handler.peers.map (·.origin)).Pairwise (· < ·) ∧
    ∀ a, own = some a → (∀ p ∈ s.handler.peers, p.origin ≠ a) ∧ (∀ f ∈ s.line.queue, f.origin ≠ a) ∧
      ∀ f, s.handler.inHand = some f → f.origin ≠ a

section

variable {s t : State} {own : Option Nat}

theorem tableOk_iff : s.TableOk ↔ s.TableFits s.port.ownAddress := Iff.rfl

theorem block_table (h : t.block .table = s.block .table) :
    t.line.queue = s.line.queue ∧ t.handler.inHand = s.handler.inHand ∧ t.handler.peers = s.handler.peers :=
  ⟨congrArg (·.line.queue) h, congrArg (·.handler.inHand) h, congrArg (·.handler.peers) h⟩

theorem State.TableFits.of_block (h : t.block .table = s.block .table) (hs : s.TableFits own) : t.TableFits own := by
  obtain ⟨queue, inHand, peers⟩ := block_table h
  unfold State.TableFits
  rwa [queue, inHand, peers]

theorem State.TableFits.takeNext (h : s.TableFits own) : s.takeNext.TableFits own := by
  obtain ⟨queue, table, sorted, other⟩ := h
  refine ⟨?_, table, sorted, fun a ha => ?_⟩
  · exact (List.length_tail ▸ Nat.sub_le _ _ : s.line.queue.tail.length ≤ s.line.queue.length).trans queue
  · obtain ⟨peers, frames, -⟩ := other a ha
    exact ⟨peers, fun f hf => frames f (List.mem_of_mem_tail hf), fun f hf => frames f (List.mem_of_mem_head? hf)⟩

theorem State.TableFits.beginTaking (h : s.TableFits own) : s.beginTaking.TableFits own := by
  unfold State.beginTaking
  split
  · exact h.takeNext
  · exact h

/-- An arrived frame of another origin is taken or queued where there is room (R135). -/
theorem State.TableFits.offer (h : s.TableFits own) {f : RxFrame} (hf : ∀ a, own = some a → f.origin ≠ a) :
    (s.offer f).TableFits own := by
  obtain ⟨queue, table, sorted, other⟩ := h
  unfold State.offer
  split
  · refine ⟨queue, table, sorted, fun a ha => ?_⟩
    obtain ⟨peers, frames, -⟩ := other a ha
    refine ⟨peers, frames, ?_⟩
    rintro g ⟨⟩
    exact hf a ha
  · split
    · rename_i room
      refine ⟨?_, table, sorted, fun a ha => ?_⟩
      · rw [State.setLine_line, List.length_append]
        exact room
      · obtain ⟨peers, frames, hand⟩ := other a ha
        refine ⟨peers, fun g hg => ?_, hand⟩
        obtain hg | hg := List.mem_append.mp hg
        · exact frames g hg
        · rw [List.mem_singleton.mp hg]
          exact hf a ha
    · exact ⟨queue, table, sorted, other⟩

/-- An entry takes its place in a table it fits into. -/
theorem State.TableFits.setPeers (h : s.TableFits own) {l : List PeerEntry} {e : PeerEntry}
    (room : (peerPut e l).length ≤ Config.tableCapacity) (sorted : (l.map (·.origin)).Pairwise (· < ·)) (sub : ∀ p ∈ l, p ∈ s.handler.peers)
    (he : ∀ a, own = some a → e.origin ≠ a) : (s.setPeers (peerPut e l)).TableFits own := by
  obtain ⟨queue, -, -, other⟩ := h
  refine ⟨queue, room, peerPut_sorted sorted, fun a ha => ?_⟩
  obtain ⟨peers, frames, hand⟩ := other a ha
  refine ⟨fun p hp => ?_, frames, hand⟩
  obtain rfl | hp := mem_peerPut hp
  · exact he a ha
  · exact peers p (sub p hp)

/-- A filing (R145, R146, R148). -/
theorem State.TableFits.fileInto (h : s.TableFits own) {f : RxFrame} {gives : Bool} {update : PeerEntry → PeerEntry}
    {told : State → State} (ht : ∀ u : State, (told u).block .table = u.block .table) (hf : ∀ a, own = some a → f.origin ≠ a) :
    (s.fileInto f gives update told).TableFits own := by
  obtain ⟨-, table, sorted, -⟩ := id h
  unfold State.fileInto
  split
  · rename_i p found
    obtain ⟨mem, origin⟩ := peerFind_mem found
    refine .of_block (ht _) (h.setPeers ?_ sorted (fun _ => id) hf)
    exact (peerPut_length_present sorted mem origin).trans_le table
  · split
    · split
      · exact .of_block (overflowed_block s (by decide)) h
      · rename_i l made
        obtain ⟨room, sortedL, sub⟩ := makeRoom_spec sorted table made
        refine .of_block (ht _) (h.setPeers ?_ sortedL sub hf)
        exact (peerPut_length _ l).trans room
    · exact h

theorem inHandOf_eq {k : Nat} {f : RxFrame} (h : s.inHandOf k = some f) : s.handler.inHand = some f ∧ f.kind = k := by
  unfold State.inHandOf at h
  split at h
  · cases h
  · rename_i g hand
    split at h
    · rename_i kind
      cases h
      exact ⟨hand, kind⟩
    · cases h

/-- The frame in hand is of another station. -/
theorem State.TableFits.hand (h : s.TableFits own) {k : Nat} {f : RxFrame} (hand : s.inHandOf k = some f) :
    ∀ a, own = some a → f.origin ≠ a := by
  obtain ⟨-, -, -, other⟩ := h
  exact fun a ha => (other a ha).2.2 f (inHandOf_eq hand).1

theorem judgeExclusion_block (s : State) {b : Block} (hb : b ≠ .wind) : s.judgeExclusion.block b = s.block b :=
  ((Moves.start { Licence.plain with free := fun d => d = .wind } s).judgeExclusion rfl).block hb (.inl id)

theorem askReviewIf_block (s : State) (ask : Bool) (b : Block) : (if ask then s.askReview else s).block b = s.block b := by
  split
  · exact askReview_block s b
  · rfl

theorem State.TableFits.fileWetness (h : s.TableFits own) {f : RxFrame} (hf : ∀ a, own = some a → f.origin ≠ a) (w : WetnessFields) :
    (s.fileWetness f w).TableFits own := by
  unfold State.fileWetness
  split
  · refine h.fileInto (fun u => ?_) hf
    exact askReviewIf_block u _ _
  · exact h.fileInto (fun u => askReview_block u _) hf

theorem State.TableFits.fileGust (h : s.TableFits own) {f : RxFrame} (hf : ∀ a, own = some a → f.origin ≠ a) (g : GustFields) :
    (s.fileGust f g).TableFits own :=
  h.fileInto (fun u => (askReview_block _ _).trans (judgeExclusion_block u (by decide))) hf

theorem State.TableFits.fileDraw (h : s.TableFits own) {f : RxFrame} (hf : ∀ a, own = some a → f.origin ≠ a) (d : DrawFields) :
    (s.fileDraw f d).TableFits own :=
  h.fileInto (fun u => askEval_block u _) hf

theorem State.TableFits.filed {u : State} (h : u.TableFits own) : u.finish.takeNext.TableFits own :=
  (State.TableFits.of_block (finish_block u _) h).takeNext

theorem execFile_tableFits (hs : s.TableFits own) :
    (execFileWetness s = .next t → t.TableFits own) ∧ (execFileGust s = .next t → t.TableFits own) ∧
      (execFileDraw s = .next t → t.TableFits own) := by
  refine ⟨fun h => ?_, fun h => ?_, fun h => ?_⟩
  · unfold execFileWetness at h
    split at h
    · rwa [next_inj h]
    · rename_i f hand
      split at h <;> rw [next_inj h]
      · exact hs.takeNext
      · exact (hs.fileWetness (hs.hand hand) _).filed
  · unfold execFileGust at h
    split at h
    · rwa [next_inj h]
    · rename_i f hand
      split at h <;> rw [next_inj h]
      · exact hs.takeNext
      · exact (hs.fileGust (hs.hand hand) _).filed
  · unfold execFileDraw at h
    split at h
    · rwa [next_inj h]
    · rename_i f hand
      split at h <;> rw [next_inj h]
      · exact hs.takeNext
      · exact (hs.fileDraw (hs.hand hand) _).filed

theorem execFrameArrival_tableFits {bits : List Bool} (h : execFrameArrival bits s = .next t) (hs : s.TableOk) :
    t.TableFits s.port.ownAddress := by
  rw [tableOk_iff] at hs
  unfold execFrameArrival at h
  split at h
  · rename_i a origin kind payload address _ _
    split at h
    · dsimp only at h
      have quiet : (s.setLine { s.line with receiving := false }).TableFits s.port.ownAddress := hs
      split at h <;> rw [next_inj h]
      · exact .of_block ((finish_block _ _).trans
          (((Moves.start { Licence.plain with free := fun d => d = .line } _).clash rfl).block (by decide) (.inl id))) quiet
      · rename_i other
        refine .of_block (finish_block _ _) (State.TableFits.offer ?_ fun b hb => ?_)
        · exact .of_block (heard_block _ (by decide)) quiet
        · rw [address] at hb
          cases hb
          exact other
    · rwa [next_inj h]
  · rwa [next_inj h]

theorem execPartExpiry_tableFits {origin : Nat} {part : PartKind} (h : execPartExpiry origin part s = .next t) (hs : s.TableFits own) :
    t.TableFits own := by
  unfold execPartExpiry at h
  split at h
  · rwa [next_inj h]
  · rename_i p found
    split at h <;> rw [next_inj h]
    · obtain ⟨mem, -⟩ := peerFind_mem found
      obtain ⟨-, table, sorted, other⟩ := id hs
      have same : (p.dropPart part).origin = p.origin := by cases part <;> rfl
      refine .of_block (finish_block _ _) (.of_block (s := s.setPeers (peerPut (p.dropPart part) s.handler.peers)) ?_ (hs.setPeers ?_ sorted (fun _ => id) ?_))
      · cases part
        · exact askEval_block _ _
        · exact askEval_block _ _
        · exact askReview_block _ _
        · exact askReview_block _ _
      · exact (peerPut_length_present sorted mem same.symm).trans_le table
      · exact fun a ha => same ▸ (other a ha).1 p mem
    · exact hs

/-- A command on the frame in hand takes the next one, after work that leaves the table. -/
theorem State.TableFits.obeyed (hs : s.TableFits own) {u : State} (same : u.block .table = s.block .table)
    (h : u.obeyedEnd = .next t) : t.TableFits own := by
  rw [next_inj h]
  exact (State.TableFits.of_block same hs).filed

theorem channelOrder_block (s : State) (o : Order) (r : Request) (b : Block) : (s.channelOrder o r).block b = s.block b :=
  ((Moves.start { Licence.plain with opens := True } s).channelOrder o (fun _ _ => trivial)).block id (.inl id)

theorem acknowledge_block (s : State) {b : Block} (hb : b ≠ .line) : s.acknowledge.block b = s.block b :=
  ((Moves.start { Licence.plain with returns := True, clears := fun _ => True, free := fun d => d = .line } s).acknowledge rfl trivial
    (fun _ => trivial)).block hb (.inl id)

/-- The commands of a console on channels (R162). -/
theorem execChannelCommand_tableFits (hs : s.TableFits own) :
    (execCommandOpen s = .next t → t.TableFits own) ∧ (execCommandClose s = .next t → t.TableFits own) ∧
      (execCommandStop s = .next t → t.TableFits own) ∧ (execCommandHold s = .next t → t.TableFits own) ∧
      (execCommandRelease s = .next t → t.TableFits own) := by
  refine ⟨fun h => ?_, fun h => ?_, fun h => ?_, fun h => ?_, fun h => ?_⟩
  · unfold execCommandOpen at h
    split at h
    · rwa [next_inj h]
    · exact hs.obeyed (channelOrder_block s _ _ _) h
  · unfold execCommandClose at h
    split at h
    · rwa [next_inj h]
    · exact hs.obeyed (channelOrder_block s _ _ _) h
  · unfold execCommandStop at h
    split at h
    · rwa [next_inj h]
    · exact hs.obeyed (channelOrder_block s _ _ _) h
  · unfold execCommandHold at h
    split at h
    · rwa [next_inj h]
    · exact hs.obeyed (channelOrder_block s _ _ _) h
  · unfold execCommandRelease at h
    split at h
    · rwa [next_inj h]
    · exact hs.obeyed (channelOrder_block s _ _ _) h

/-- The commands of a console on the station (R163). -/
theorem execStationCommand_tableFits (hs : s.TableFits own) :
    (execCommandAcknowledge s = .next t → t.TableFits own) ∧ (execCommandReport s = .next t → t.TableFits own) ∧
      (execCommandRestart s = .next t → t.TableFits own) := by
  refine ⟨fun h => ?_, fun h => ?_, fun h => ?_⟩
  · unfold execCommandAcknowledge at h
    split at h
    · rwa [next_inj h]
    · exact hs.obeyed (acknowledge_block s (by decide)) h
  · unfold execCommandReport at h
    split at h
    · rwa [next_inj h]
    · exact hs.obeyed
        (((Moves.start .plain s).foldl (maskChannels _) (fun n _ hu => hu.submitState n)).block id (.inl id)) h
  · unfold execCommandRestart at h
    split at h
    · rwa [next_inj h]
    · exact hs.obeyed (block_of_sans (b := .port) (s := s) (by rfl) (by decide)) h

theorem execNoticeNotFiled_tableFits (hs : s.TableFits own) (h : execNoticeNotFiled s = .next t) : t.TableFits own := by
  unfold execNoticeNotFiled at h
  split at h
  · rwa [next_inj h]
  · split at h <;> rw [next_inj h]
    · exact hs.takeNext
    · exact hs

/-! #### The reads -/

theorem startUpInvalid_tableFits (hs : s.TableFits own) (image : Option Memory) : (s.startUpInvalid image).TableFits own := by
  unfold State.startUpInvalid
  refine (State.TableFits.of_block ?_ hs).beginTaking
  rw [judgeLamp_block, submitStates_block, startListening_block, beginCondition_block (b := .table) _ .configStation (by decide), readEnded_block _ _ _ (by decide)]

theorem startUpValid_tableFits (hs : s.TableFits own) (image : Memory) (c : RunCfg) (pins : PinSample) :
    (s.startUpValid image c pins).TableFits own := by
  unfold State.startUpValid
  refine .of_block ((finish_block _ _).trans (startDeciding_block _ _)) (State.TableFits.of_block ?_ hs).beginTaking
  rw [judgeLamp_block, offerGust_block, submitStates_block, holdForMaints_block, setPanel_block, startTimers_block,
    startWeather_block _ _ _ rfl]
  exact adopted_block s image c pins (by decide)

theorem rereadEnd_tableFits (hs : s.TableFits own) (image : Option Memory) (new : Option RunCfg) (pins : PinSample) :
    (s.rereadEnd image new pins).TableFits own := by
  refine .of_block ?_ hs
  rw [rereadEnd_block, rereadIsolation_block _ _ (by decide), rereadVane_block _ _ _ _ (by decide), rereadAnem_block _ _ _ _ (by decide),
    rereadRain_block _ _ _ _ (by decide), rereadStart_block_same _ _ _ _ (by decide)]

theorem exec_read_tableFits {c : Instr} (read : isRead c = true) (h : exec c s = .next t) (hs : s.TableFits own) : t.TableFits own := by
  cases c, read using read_commands with
  | readTryFailed =>
    obtain eq | ⟨k, -, ⟨-, eq⟩ | ⟨-, eq⟩ | ⟨-, eq⟩⟩ := execReadTryFailed_cases h <;> rw [eq]
    · exact hs
    · exact hs
    · exact rereadEnd_tableFits hs none none _
    · exact startUpInvalid_tableFits hs none
  | configReadEnd bytes pins =>
    obtain eq | ⟨own, k, m, -, -, -, -, ⟨-, eq⟩ | ⟨c, -, eq⟩⟩ := execConfigReadEnd_cases h <;> rw [eq]
    · exact hs
    · exact startUpInvalid_tableFits hs _
    · exact startUpValid_tableFits hs m c pins
  | rereadEnd bytes pins =>
    obtain eq | ⟨own, k, m, -, -, -, -, eq⟩ := execRereadEnd_cases h <;> rw [eq]
    · exact hs
    · exact rereadEnd_tableFits hs _ _ pins

theorem execWarmRestart_tableFits (hs : s.TableFits own) (h : execWarmRestart s = .next t) : t.TableFits own := by
  obtain eq | ⟨-, eq⟩ := execWarmRestart_cases h <;> rw [eq]
  · exact hs
  · refine .of_block (restartNow_block s .table) ⟨Nat.zero_le _, Nat.zero_le _, .nil, fun a _ => ⟨?_, ?_, ?_⟩⟩
    · exact fun p hp => absurd hp (List.not_mem_nil)
    · exact fun f hf => absurd hf (List.not_mem_nil)
    · exact fun f hf => nomatch hf

theorem tick_tableFits (hs : s.TableFits own) : s.tick.TableFits own := by
  obtain ⟨queue, table, sorted, other⟩ := hs
  have origins : s.tick.handler.peers.map (·.origin) = s.handler.peers.map (·.origin) := by
    show (s.handler.peers.map PeerEntry.tick).map (·.origin) = _
    rw [List.map_map]
    rfl
  refine ⟨(List.length_map _).trans_le queue, (List.length_map _).trans_le table, by rwa [origins], fun a ha => ?_⟩
  obtain ⟨peers, frames, hand⟩ := other a ha
  refine ⟨fun p hp => ?_, fun f hf => ?_, fun f hf => ?_⟩
  · obtain ⟨q, hq, rfl⟩ := List.mem_map.mp hp
    exact peers q hq
  · obtain ⟨g, hg, rfl⟩ := List.mem_map.mp hf
    exact frames g hg
  · obtain ⟨g, hg, rfl⟩ := Option.map_eq_some_iff.mp hf
    exact hand g hg

/-! #### All commands -/

theorem exec_tableFits {c : Instr} (h : exec c s = .next t) (reset : ∀ straps enc panel anem, c ≠ .fullReset straps enc panel anem)
    (hs : s.TableOk) : t.TableFits s.port.ownAddress := by
  by_cases other : setsBlock c .table = false
  · exact .of_block (exec_block h other (.inr (by decide))) hs
  rw [tableOk_iff] at hs
  rw [Bool.not_eq_false] at other
  cases c, other using table_commands with
  | fullReset straps enc panel anem => exact absurd rfl (reset straps enc panel anem)
  | stationTimeStep =>
    cases h
    exact tick_tableFits hs
  | readTryFailed | configReadEnd | rereadEnd => exact exec_read_tableFits rfl h hs
  | warmRestart => exact execWarmRestart_tableFits hs h
  | frameArrival bits => exact execFrameArrival_tableFits h hs
  | fileWetness => exact (execFile_tableFits hs).1 h
  | fileGust => exact (execFile_tableFits hs).2.1 h
  | fileDraw => exact (execFile_tableFits hs).2.2 h
  | noticeNotFiled => exact execNoticeNotFiled_tableFits hs h
  | partExpiry origin part => exact execPartExpiry_tableFits h hs
  | commandOpen => exact (execChannelCommand_tableFits hs).1 h
  | commandClose => exact (execChannelCommand_tableFits hs).2.1 h
  | commandStop => exact (execChannelCommand_tableFits hs).2.2.1 h
  | commandHold => exact (execChannelCommand_tableFits hs).2.2.2.1 h
  | commandRelease => exact (execChannelCommand_tableFits hs).2.2.2.2 h
  | commandAcknowledge => exact (execStationCommand_tableFits hs).1 h
  | commandReport => exact (execStationCommand_tableFits hs).2.1 h
  | commandRestart => exact (execStationCommand_tableFits hs).2.2 h

/-- The own address is set at a full reset alone (R207). -/
theorem exec_ownAddress {c : Instr} (h : exec c s = .next t) (reset : ∀ straps enc panel anem, c ≠ .fullReset straps enc panel anem) :
    t.port.ownAddress = s.port.ownAddress := by
  by_cases other : setsBlock c .port = false
  · exact (frame_read (exec_portFrame h other)).1
  rw [Bool.not_eq_false] at other
  cases c, other using port_commands with
  | fullReset straps enc panel anem => exact absurd rfl (reset straps enc panel anem)
  | stationTimeStep =>
    cases h
    rfl
  | readTryFailed | configReadEnd | rereadEnd =>
    obtain rfl | ⟨k, w, -, -, rfl⟩ | ⟨-, -, -, -, address, -⟩ := exec_readEnds h rfl
    · rfl
    · rfl
    · exact address
  | warmRestart =>
    obtain eq | ⟨-, eq⟩ := execWarmRestart_cases h <;> rw [eq]
    have port : s.restartNow.block .port = s.restartPort.block .port := by
      rw [restartNow_block, restartBlocks_block _ (by decide) (by decide), endCondition_block (b := .port) _ .lineFault (by decide),
        eachChannel_block _ (fun n u => restartChannel_block n u .port)]
    exact (block_port port).1
  | readRetryExpiry =>
    have h : execReadRetryExpiry s = .next t := h
    unfold execReadRetryExpiry at h
    split at h <;> rw [next_inj h]
  | commandRestart =>
    have h : execCommandRestart s = .next t := h
    unfold execCommandRestart at h
    split at h <;> rw [next_inj h]
    exact (block_port (s := { s with port := { s.port with restart := true } })
      ((takeNext_block _ (by decide)).trans (finish_block _ _))).1

/-- Settles O5: the table keeps its bounds under each command of its block, the others leave it, and the own address changes at a
full reset alone, which empties queue and table. -/
theorem queueAndTableKept : Obligations.QueueAndTableKept := by
  unfold Obligations.QueueAndTableKept
  intro s t hs h
  refine step_keeps (P := State.TableOk) (fun _ _ => id) (fun s hs => ?_) (fun c s t h hs => ?_) h hs
  · show s.bitTime.TableFits s.port.ownAddress
    unfold State.TableFits
    rw [State.bitTime_line]
    unfold LineCtl.bitTime
    split <;> exact hs
  · by_cases reset : ∃ straps enc panel anem, c = .fullReset straps enc panel anem
    · obtain ⟨straps, enc, panel, anem, rfl⟩ := reset
      have empty {u : State} (line : u.line = LineCtl.reset) (handler : u.handler = Handler.reset) (own : Option Nat) :
          u.TableFits own := by
        unfold State.TableFits
        rw [line, handler]
        refine ⟨Nat.zero_le _, Nat.zero_le _, .nil, fun a _ => ⟨?_, ?_, ?_⟩⟩
        · exact fun p hp => absurd hp (List.not_mem_nil)
        · exact fun f hf => absurd hf (List.not_mem_nil)
        · exact fun f hf => nomatch hf
      obtain ⟨u, was, ⟨-, rfl⟩ | ⟨-, rfl⟩⟩ := execFullReset_cases h
      · exact empty was.line was.handler _
      · exact State.TableFits.of_block (beginCondition_block (b := .table) u .configStation (by decide)) (empty was.line was.handler _)
    · have ordinary : ∀ straps enc panel anem, c ≠ .fullReset straps enc panel anem := fun a b c d e => reset ⟨a, b, c, d, e⟩
      rw [tableOk_iff, exec_ownAddress h ordinary]
      exact exec_tableFits h ordinary hs

end

end Sys2Proof.Machine

namespace Sys2Proof.Machine
set_option Elab.async false

/-! ### The station CONFIG condition and the frame in hand (R184, R209) -/

section

variable {s t : State}

/-- No chain of changes sets the mark of station CONFIG. -/
theorem Moves.configMark {p : Licence} (h : Moves p s t) : t.mark .configStation = s.mark .configStation := by
  have kept {u v : State} (h : v.kept = u.kept) : v.mark .configStation = u.mark .configStation :=
    mark_of_flags (congrArg (·.flags) h) _
  induction h with
  | refl => rfl
  | state n new _ _ ih => rw [kept (setState_kept _ n new), ih]
  | unit n u _ _ _ ih => exact ih
  | step n up _ _ _ ih =>
    rw [kept (judgeLamp_kept _)]
    exact ih
  | count n k _ _ _ ih =>
    rw [State.setCount, kept (judgeLamp_kept _)]
    exact ih
  | referenced n b _ ih =>
    rw [mark_of_block rfl (setReferenced_block _ n b .port), ih]
  | mark n r _ _ _ ih => exact ih
  | submitState n _ ih => rw [kept (submitState_kept _ n), ih]
  | submitDraw c h _ ih => rw [kept (submitDraw_kept _ c h), ih]
  | report e r _ _ ih => rw [kept (submit_kept _ e r), ih]
  | raise i _ ih => rw [raiseAt_mark, ih]
  | clear i _ _ ih => rw [clearAt_mark, ih]
  | condition f b _ hf _ ih => rw [setCondition_mark, if_neg hf.symm, ih]
  | session q x _ ih =>
    rw [kept (judgeLamp_kept _)]
    exact ih
  | confirm q _ _ ih =>
    unfold State.confirmLearn
    rw [kept (askReview_kept _), kept (judgeLamp_kept _)]
    exact ih
  | lamp _ ih => rw [kept (judgeLamp_kept _), ih]
  | rest _ ih => exact (kept (finish_kept _)).trans ih
  | aside u _ hu _ _ ih => exact (mark_of_flags (show u.flags = _ from congrArg (·.flags) hu) _).trans ih

/-- A command that does not change the port leaves the mark of station CONFIG. -/
theorem exec_configMark {c : Instr} (h : exec c s = .next t) (other : setsBlock c .port = false) :
    t.mark .configStation = s.mark .configStation := by
  by_cases ordinary : isOrdinary c = true
  · exact (exec_moves ordinary h).configMark
  · have no : ¬ (licenceOf c s).confirms := fun ⟨_, _, _, e, _⟩ => ordinary (e ▸ rfl)
    exact mark_of_block rfl (exec_block h other (.inl no))

/-! #### No frame is in hand before the start-up read has ended (R144) -/

theorem orderInHand_of_empty (hand : s.handler.inHand = none) (a : Action) : s.orderInHand a = none := by
  unfold State.orderInHand
  rw [hand]

theorem inHandOf_of_empty (hand : s.handler.inHand = none) (k : Nat) : s.inHandOf k = none := by
  unfold State.inHandOf
  rw [hand]

theorem inHand_of_table {u : State} (h : t.block .table = u.block .table) (hu : u.handler.inHand = none) : t.handler.inHand = none :=
  (block_table h).2.1.trans hu

theorem offer_hand {f : RxFrame} (filing : s.filing = false) (hand : s.handler.inHand = none) : (s.offer f).handler.inHand = none := by
  unfold State.offer
  split
  · rename_i takes
    rw [filing, Bool.and_false] at takes
    cases takes
  · split
    · exact hand
    · exact hand

theorem filing_of_frame (h : t.port.frame = s.port.frame) : t.filing = s.filing := by
  obtain ⟨-, read, -, config⟩ := frame_read h
  have some := congrArg Option.isSome config
  rw [Option.isSome_map, Option.isSome_map] at some
  unfold State.filing
  rw [read, some]

theorem execFrameArrival_hand {bits : List Bool} (h : execFrameArrival bits s = .next t) (filing : s.filing = false)
    (hand : s.handler.inHand = none) : t.handler.inHand = none := by
  unfold execFrameArrival at h
  split at h
  · split at h
    · dsimp only at h
      split at h <;> rw [next_inj h]
      · exact inHand_of_table (u := s.setLine { s.line with receiving := false }) ((finish_block _ _).trans
          (((Moves.start { Licence.plain with free := fun d => d = .line } _).clash rfl).block (by decide) (.inl id))) hand
      · refine inHand_of_table (finish_block _ _) (offer_hand ?_ ?_)
        · have port := block_port (heard_block (s.setLine { s.line with receiving := false }) (b := .port) (by decide))
          obtain ⟨-, read, -, config, -⟩ := port
          unfold State.filing at filing ⊢
          rw [read, config]
          exact filing
        · exact inHand_of_table (heard_block _ (by decide)) hand
    · rw [next_inj h]
      exact hand
  · rw [next_inj h]
    exact hand

theorem execPartExpiry_hand {origin : Nat} {part : PartKind} (h : execPartExpiry origin part s = .next t)
    (hand : s.handler.inHand = none) : t.handler.inHand = none := by
  unfold execPartExpiry at h
  split at h
  · rw [next_inj h]
    exact hand
  · rename_i p _
    split at h <;> rw [next_inj h]
    · refine inHand_of_table (u := s.setPeers (peerPut (p.dropPart part) s.handler.peers)) ((finish_block _ _).trans ?_) hand
      cases part
      · exact askEval_block _ _
      · exact askEval_block _ _
      · exact askReview_block _ _
      · exact askReview_block _ _
    · exact hand

/-- Without a frame in hand a command that would file or obey one does nothing. -/
theorem exec_of_empty {c : Instr} (hand : s.handler.inHand = none) (h : exec c s = .next t)
    (hc : c ∈ [.fileWetness, .fileGust, .fileDraw, .noticeNotFiled, .commandOpen, .commandClose, .commandStop, .commandHold,
      .commandRelease, .commandAcknowledge, .commandReport, .commandRestart]) : t = s := by
  have order := fun a => orderInHand_of_empty hand a
  have kind := fun k => inHandOf_of_empty hand k
  simp only [List.mem_cons, List.not_mem_nil, or_false] at hc
  obtain rfl | rfl | rfl | rfl | rfl | rfl | rfl | rfl | rfl | rfl | rfl | rfl := hc
  · exact next_inj (by simpa [execFileWetness, kind] using (show execFileWetness s = .next t from h))
  · exact next_inj (by simpa [execFileGust, kind] using (show execFileGust s = .next t from h))
  · exact next_inj (by simpa [execFileDraw, kind] using (show execFileDraw s = .next t from h))
  · exact next_inj (by simpa [execNoticeNotFiled, hand] using (show execNoticeNotFiled s = .next t from h))
  · exact next_inj (by simpa [execCommandOpen, order] using (show execCommandOpen s = .next t from h))
  · exact next_inj (by simpa [execCommandClose, order] using (show execCommandClose s = .next t from h))
  · exact next_inj (by simpa [execCommandStop, order] using (show execCommandStop s = .next t from h))
  · exact next_inj (by simpa [execCommandHold, order] using (show execCommandHold s = .next t from h))
  · exact next_inj (by simpa [execCommandRelease, order] using (show execCommandRelease s = .next t from h))
  · exact next_inj (by simpa [execCommandAcknowledge, order] using (show execCommandAcknowledge s = .next t from h))
  · exact next_inj (by simpa [execCommandReport, order] using (show execCommandReport s = .next t from h))
  · exact next_inj (by simpa [execCommandRestart, order] using (show execCommandRestart s = .next t from h))

/-- While the handler takes no frames, only the end of a read and a full reset change that none is in hand. -/
theorem exec_hand {c : Instr} (h : exec c s = .next t) (reset : ∀ straps enc panel anem, c ≠ .fullReset straps enc panel anem)
    (read : isRead c = false) (filing : s.filing = false) (hand : s.handler.inHand = none) : t.handler.inHand = none := by
  by_cases other : setsBlock c .table = false
  · exact inHand_of_table (exec_block h other (.inr (by decide))) hand
  rw [Bool.not_eq_false] at other
  cases c, other using table_commands with
  | fullReset straps enc panel anem => exact absurd rfl (reset straps enc panel anem)
  | stationTimeStep =>
    cases h
    show s.handler.inHand.map RxFrame.tick = none
    rw [hand]
    rfl
  | warmRestart =>
    obtain eq | ⟨-, eq⟩ := execWarmRestart_cases h <;> rw [eq]
    · exact hand
    · exact inHand_of_table (restartNow_block s .table) rfl
  | frameArrival bits => exact execFrameArrival_hand h filing hand
  | partExpiry origin part => exact execPartExpiry_hand h hand
  | fileWetness | fileGust | fileDraw | noticeNotFiled | commandOpen | commandClose | commandStop | commandHold
  | commandRelease | commandAcknowledge | commandReport | commandRestart =>
    rw [exec_of_empty hand h (by simp)]
    exact hand
  | readTryFailed | configReadEnd | rereadEnd => cases read

/-! #### The condition -/

theorem configConditionOk_iff : s.ConfigConditionOk ↔
    (s.port.read = .ended → s.mark .configStation = s.port.config.isNone) ∧
      ∀ k w, s.port.read = .reading k w →
        (s.port.restart = true → s.mark .configStation = s.port.config.isNone) ∧
        (s.port.restart = false → s.mark .configStation = false ∧ s.port.config = none ∧ s.handler.inHand = none) := Iff.rfl

theorem State.ConfigConditionOk.of_ended (read : t.port.read = .ended) (mark : t.mark .configStation = t.port.config.isNone) :
    t.ConfigConditionOk := by
  refine ⟨fun _ => mark, fun k w e => ?_⟩
  rw [read] at e
  cases e

theorem State.ConfigConditionOk.of_frame (hs : s.ConfigConditionOk) (frame : t.port.frame = s.port.frame)
    (mark : t.mark .configStation = s.mark .configStation)
    (hand : s.filing = false → s.handler.inHand = none → t.handler.inHand = none) : t.ConfigConditionOk := by
  obtain ⟨-, read, restart, config⟩ := frame_read frame
  have none : t.port.config.isNone = s.port.config.isNone := by
    have := congrArg Option.isNone config
    rwa [Option.isNone_map, Option.isNone_map] at this
  rw [configConditionOk_iff] at hs ⊢
  rw [read, restart, mark, none]
  refine ⟨hs.1, fun k w e => ⟨(hs.2 k w e).1, fun first => ?_⟩⟩
  obtain ⟨unmarked, bare, empty⟩ := (hs.2 k w e).2 first
  refine ⟨unmarked, ?_, hand ?_ empty⟩
  · rw [bare, Option.isNone_none, Option.isNone_iff_eq_none] at none
    exact none
  · unfold State.filing
    rw [bare, e]
    rfl

theorem exec_read_configConditionOk {c : Instr} (h : exec c s = .next t) (read : isRead c = true) (hs : s.ConfigConditionOk) :
    t.ConfigConditionOk := by
  have invalid (image : Option Memory) : (s.startUpInvalid image).ConfigConditionOk := by
    have port := startUpInvalid_port s image
    obtain ⟨-, read, -, config, -⟩ := block_port port
    rw [beginCondition_port] at read config
    refine .of_ended read ?_
    rw [mark_of_block rfl port, beginCondition_mark, if_pos rfl, config]
    rfl
  have reread (image : Option Memory) (new : Option RunCfg) (pins : PinSample) : (s.rereadEnd image new pins).ConfigConditionOk := by
    have port := rereadEnd_port s image new pins
    obtain ⟨-, read, -, config, -⟩ := block_port port
    refine .of_ended read ?_
    rw [mark_of_block rfl port, setCondition_mark, if_pos rfl, config]
    rfl
  cases c, read using read_commands with
  | readTryFailed =>
    obtain eq | ⟨k, read, ⟨-, eq⟩ | ⟨-, eq⟩ | ⟨-, eq⟩⟩ := execReadTryFailed_cases h <;> rw [eq]
    · exact hs
    · refine ⟨nofun, fun _ _ _ => hs.2 k false read⟩
    · exact reread ..
    · exact invalid none
  | configReadEnd bytes pins =>
    obtain eq | ⟨own, k, m, -, read, first, -, ⟨-, eq⟩ | ⟨c, -, eq⟩⟩ := execConfigReadEnd_cases h <;> rw [eq]
    · exact hs
    · exact invalid _
    · have port := startUpValid_port s m c pins
      obtain ⟨-, ended, -, config, -⟩ := block_port port
      refine .of_ended ended ?_
      rw [mark_of_block rfl port, config]
      exact ((hs.2 k false read).2 first).1
  | rereadEnd bytes pins =>
    obtain eq | ⟨own, k, m, -, -, -, -, eq⟩ := execRereadEnd_cases h <;> rw [eq]
    · exact hs
    · exact reread ..

/-- A restart asked for by COMMAND stands in a frame in hand, so the start-up read has ended. -/
theorem execCommandRestart_configConditionOk (h : execCommandRestart s = .next t) (hs : s.ConfigConditionOk) :
    t.ConfigConditionOk := by
  unfold execCommandRestart at h
  split at h
  · rw [next_inj h]
    exact hs
  · rename_i o order
    rw [next_inj h]
    have port : (State.finish { s with port := { s.port with restart := true } }).takeNext.block .port =
        ({ s with port := { s.port with restart := true } } : State).block .port :=
      (takeNext_block _ (by decide)).trans (finish_block _ _)
    obtain ⟨-, read, -, config, restart⟩ := block_port port
    have mark := mark_of_block (f := .configStation) rfl port
    have hand : s.handler.inHand ≠ none := fun empty => by
      rw [orderInHand_of_empty empty] at order
      cases order
    rw [configConditionOk_iff] at hs ⊢
    rw [read, restart, mark, config]
    refine ⟨hs.1, fun k w e => ⟨fun _ => ?_, nofun⟩⟩
    cases first : s.port.restart with
    | true => exact (hs.2 k w e).1 first
    | false => exact absurd ((hs.2 k w e).2 first).2.2 hand

theorem exec_configConditionOk {c : Instr} (h : exec c s = .next t)
    (reset : ∀ straps enc panel anem, c ≠ .fullReset straps enc panel anem) (hs : s.ConfigConditionOk) : t.ConfigConditionOk := by
  by_cases read : isRead c = true
  · exact exec_read_configConditionOk h read hs
  have hand := exec_hand h reset (Bool.eq_false_iff.mpr read)
  by_cases other : setsBlock c .port = false
  · exact hs.of_frame (exec_portFrame h other) (exec_configMark h other) hand
  rw [Bool.not_eq_false] at other
  cases c, other using port_commands with
  | fullReset straps enc panel anem => exact absurd rfl (reset straps enc panel anem)
  | stationTimeStep =>
    cases h
    exact hs.of_frame rfl rfl hand
  | warmRestart =>
    obtain eq | ⟨⟨pending, ended, -⟩, eq⟩ := execWarmRestart_cases h <;> rw [eq]
    · exact hs
    · have port : s.restartNow.block .port = s.restartPort.block .port := by
        rw [restartNow_block, restartBlocks_block _ (by decide) (by decide), endCondition_block (b := .port) _ .lineFault (by decide),
          eachChannel_block _ (fun n u => restartChannel_block n u .port)]
      obtain ⟨-, read, -, config, restart⟩ := block_port port
      have mark : s.restartNow.mark .configStation = s.restartNow.port.config.isNone := by
        rw [mark_of_block rfl port, config]
        exact hs.1 ended
      refine ⟨fun _ => mark, fun k w e => ⟨fun _ => mark, fun first => ?_⟩⟩
      have second : s.restartNow.port.restart = true := restart.trans pending
      rw [second] at first
      cases first
  | readRetryExpiry =>
    have h : execReadRetryExpiry s = .next t := h
    unfold execReadRetryExpiry at h
    split at h <;> rw [next_inj h]
    · rename_i k reading
      exact ⟨nofun, fun _ _ _ => hs.2 k true reading⟩
    · exact hs
  | commandRestart => exact execCommandRestart_configConditionOk h hs
  | readTryFailed | configReadEnd | rereadEnd => exact absurd rfl read

end

end Sys2Proof.Machine

namespace Sys2Proof.Machine
set_option Elab.async false

/-! ### The rain sensor and its flag (R57 to R64) -/

section

variable {s t : State}

/-- What a reading's event says of the sensor state before and after it. -/
def RainEvent.Tells (e : RainEvent) (old new : Option RainState) : Prop :=
  match e with
  | .none => new = old
  | .onset | .cease => old ≠ some .fault ∧ new ≠ some .fault
  | .faultFromWet | .faultFromDry => new = some .fault
  | .faultEnd => new ≠ some .fault

theorem dryState_ne_fault (f : RainFront) : some f.dryState ≠ some RainState.fault := by
  unfold RainFront.dryState
  split <;> decide

theorem sense_tells (f : RainFront) (c : RunCfg) (r now : Nat) : (f.sense c r now).2.Tells f.state (f.sense c r now).1.state := by
  unfold RainFront.sense
  split
  · rfl
  · unfold RainFront.senseFault
    dsimp only
    split
    · exact dryState_ne_fault f
    · rfl
  · rename_i wet
    unfold RainFront.senseWet
    dsimp only
    split
    · rfl
    · split
      · exact ⟨by rw [wet]; decide, dryState_ne_fault f⟩
      · rfl
  all_goals
    rename_i dry
    unfold RainFront.senseDry
    dsimp only
    split
    · rfl
    · split
      · exact ⟨by rw [dry]; decide, (by decide : some RainState.wet ≠ some .fault)⟩
      · rfl

/-- A reading gives no state to a sensor that has none. -/
theorem sense_isSome (f : RainFront) (c : RunCfg) (r now : Nat) (h : f.state = none) : f.sense c r now = (f, .none) := by
  unfold RainFront.sense
  rw [h]

/-- The capture is no matter of FAULT. -/
theorem captureReading_state (f : RainFront) (c : RunCfg) (r count least greatest sum : Nat) :
    (f.captureReading c r count least greatest sum).state = f.state ∨
      (f.captureReading c r count least greatest sum).state = some .dry := by
  unfold RainFront.captureReading
  split
  · exact .inl rfl
  · split
    · exact .inl rfl
    · split
      · exact .inr rfl
      · exact .inl rfl

theorem captureStep_state (f : RainFront) (c : RunCfg) (r : Nat) :
    (f.captureStep c r).state = f.state ∨ f.wantsCapture = true ∧ (f.captureStep c r).state = some .dry := by
  unfold RainFront.captureStep
  split
  · rename_i wants
    split
    · exact (captureReading_state f c r _ _ _ _).imp_right (⟨wants, ·⟩)
    · split
      · exact (captureReading_state f c r _ _ _ _).imp_right (⟨wants, ·⟩)
      · exact .inl rfl
    · exact .inl rfl
  · exact .inl rfl

theorem wantsCapture_state {f : RainFront} (h : f.wantsCapture = true) : f.state = some .capturing ∨ f.state = some .dry := by
  unfold RainFront.wantsCapture at h
  simp only [Bool.or_eq_true, Bool.and_eq_true, decide_eq_true_eq] at h
  exact h.imp_right (·.1)

/-- A capture reading leaves a wanted capture's sensor out of FAULT. -/
theorem captureReading_fault {f : RainFront} (h : f.state = some .capturing ∨ f.state = some .dry) (c : RunCfg)
    (r count least greatest sum : Nat) :
    ((f.captureReading c r count least greatest sum).state = some .fault ↔ f.state = some .fault) ∧
      ((f.captureReading c r count least greatest sum).state.isSome = true → f.state.isSome = true) := by
  obtain same | dry := captureReading_state f c r count least greatest sum
  · rw [same]
    exact ⟨Iff.rfl, id⟩
  · rw [dry]
    obtain h | h := h <;> rw [h] <;> decide

/-- The RAIN SENSOR mark is that of FAULT, and a sensor that has a state is fitted. -/
def State.RainOk (s : State) : Prop :=
  s.mark .rainSensor = decide (s.rain.state = some .fault) ∧ (s.rain.state.isSome = true → s.rainFitted = true)

theorem raiseAt_kept (s : State) (i : Fin 21) : (s.raiseAt i).kept = { s.kept with flags := (s.raiseAt i).flags } := by
  have raised (u : State) (e : Notice) (r : Nat) :
      (u.submit e r).judgeLamp.kept = { u.kept with flags := (u.submit e r).judgeLamp.flags } := by
    have kept : (u.submit e r).judgeLamp.kept = u.kept := by rw [judgeLamp_kept, submit_kept]
    rw [kept, kept_flags kept]
    rfl
  unfold State.raiseAt State.submitAlarm
  split
  · rfl
  · exact raised _ _ _

/-- Of what no review or evaluation changes, the begin of a condition changes the flags. -/
theorem beginCondition_kept (s : State) (f : FlagId) :
    (s.beginCondition f).kept = { s.kept with flags := (s.beginCondition f).flags } := by
  unfold State.beginCondition State.raise
  split
  · rfl
  · exact raiseAt_kept _ _

theorem beginCondition_rain (s : State) (f : FlagId) : (s.beginCondition f).rain = s.rain :=
  congrArg (·.rain) (beginCondition_kept s f)

theorem askReview_mark (s : State) (f : FlagId) : s.askReview.mark f = s.mark f :=
  mark_of_flags (State.askReview_flags s) f

theorem rainReport_rain (s : State) (e : RainEvent) : (s.rainReport e).rain = s.rain := by
  cases e with
  | none => rfl
  | onset | cease => exact (State.askReview_rain _).trans ((State.setRefresh_rain _ _).trans (State.submit_rain _ _ _))
  | faultFromWet => exact (State.askReview_rain _).trans (beginCondition_rain _ _)
  | faultFromDry => exact (State.askReview_rain _).trans (beginCondition_rain _ _)
  | faultEnd => exact State.askReview_rain _

/-- The RAIN SENSOR mark after a reading's reports. -/
def RainEvent.marks (e : RainEvent) (before : Bool) : Bool :=
  match e with
  | .none | .onset | .cease => before
  | .faultFromWet | .faultFromDry => true
  | .faultEnd => false

theorem rainReport_mark (s : State) (e : RainEvent) : (s.rainReport e).mark .rainSensor = e.marks (s.mark .rainSensor) := by
  have told (p a i : Nat) (x : Timer) : ((s.submitWetness p a i).setRefresh x).askReview.mark .rainSensor = s.mark .rainSensor :=
    (askReview_mark _ _).trans (mark_of_flags (State.submit_flags s _ _) _)
  have begun (u : State) : (u.beginCondition .rainSensor).askReview.mark .rainSensor = true := by
    rw [askReview_mark, beginCondition_mark, if_pos rfl]
  cases e with
  | none => rfl
  | onset | cease => exact told _ _ _ _
  | faultFromWet | faultFromDry => exact begun _
  | faultEnd =>
    unfold State.rainReport
    dsimp only
    rw [askReview_mark, endCondition_mark, if_pos rfl]
    rfl

/-- The sensor's record before it judges a reading (R56). -/
def RainFront.reads (f : RainFront) (r : Nat) : RainFront := { f with latest := some r, latestNow := true }

/-- What a reading makes of the sensor (R56 to R66). -/
theorem takeRain_rain (s : State) (c : RunCfg) (r : Nat) :
    (s.takeRain c r).rain = ((s.rain.reads r).sense c r s.now).1.captureStep c r := by
  show (State.rainReport _ _).rain.captureStep c r = _
  rw [rainReport_rain]
  rfl

theorem takeRain_mark_eq (s : State) (c : RunCfg) (r : Nat) :
    (s.takeRain c r).mark .rainSensor = ((s.rain.reads r).sense c r s.now).2.marks (s.mark .rainSensor) :=
  rainReport_mark ({ s with rain := ((s.rain.reads r).sense c r s.now).1 } : State) _

/-- A reading keeps the mark true to FAULT. -/
theorem takeRain_mark (c : RunCfg) (r : Nat) (hs : s.mark .rainSensor = decide (s.rain.state = some .fault)) :
    (s.takeRain c r).mark .rainSensor = decide ((s.takeRain c r).rain.state = some .fault) := by
  rw [takeRain_mark_eq, takeRain_rain, hs]
  have tells := sense_tells (s.rain.reads r) c r s.now
  generalize (s.rain.reads r).sense c r s.now = x at tells
  obtain ⟨g, e⟩ := x
  have faultIff : (g.captureStep c r).state = some .fault ↔ g.state = some .fault := by
    obtain same | ⟨wanted, dry⟩ := captureStep_state g c r
    · rw [same]
    · rw [dry]
      obtain h | h := wantsCapture_state wanted <;> rw [h] <;> decide
  rw [decide_eq_decide.mpr faultIff]
  cases e with
  | none => exact decide_eq_decide.mpr (by rw [show g.state = s.rain.state from tells])
  | onset | cease => exact (decide_eq_false tells.1).trans (decide_eq_false tells.2).symm
  | faultFromWet | faultFromDry => exact (decide_eq_true (show g.state = some .fault from tells)).symm
  | faultEnd => exact (decide_eq_false tells).symm

/-- A reading gives no state to a sensor that has none. -/
theorem takeRain_isSome (c : RunCfg) (r : Nat) (h : (s.takeRain c r).rain.state.isSome = true) : s.rain.state.isSome = true := by
  by_contra without
  have none : (s.rain.reads r).state = none := by simpa using (show ¬ (s.rain.reads r).state.isSome = true from without)
  rw [takeRain_rain, sense_isSome _ c r s.now none] at h
  obtain same | ⟨wanted, -⟩ := captureStep_state (s.rain.reads r) c r
  · rw [same, none] at h
    cases h
  · obtain h | h := wantsCapture_state wanted <;> rw [none] at h <;> cases h

end

/-! #### The commands -/

section

variable {s t : State}

/-- What the fitted sensors' invariants need of the configuration: a command but the end of a read and a full reset leaves the
station fields. -/
theorem exec_station {c : Instr} (h : exec c s = .next t) (reset : ∀ straps enc panel anem, c ≠ .fullReset straps enc panel anem)
    (read : isRead c = false) : t.port.config.map RunCfg.station = s.port.config.map RunCfg.station := by
  by_cases other : setsBlock c .port = false
  · exact (frame_read (exec_portFrame h other)).2.2.2
  · obtain ⟨config, -⟩ | rfl | ⟨bytes, pins, rfl | rfl⟩ | ⟨level, ms, q, rfl, -⟩ | ⟨straps, enc, panel, anem, rfl⟩ :=
      configurationChangesAtReads c s t h
    · rw [config]
    · cases read
    · cases read
    · cases read
    · exact absurd rfl other
    · exact absurd rfl (reset straps enc panel anem)

theorem rainFitted_of_station (h : t.port.config.map RunCfg.station = s.port.config.map RunCfg.station) :
    t.rainFitted = s.rainFitted := by
  have := congrArg (fun x : Option RunCfg => x.any (·.rainFitted)) h
  rwa [Option.any_map, Option.any_map] at this

theorem anemFitted_of_station (h : t.port.config.map RunCfg.station = s.port.config.map RunCfg.station) :
    t.anemFitted = s.anemFitted := by
  have := congrArg (fun x : Option RunCfg => x.any (·.anemFitted)) h
  rwa [Option.any_map, Option.any_map] at this

theorem rainCfg?_fitted {c : RunCfg} (h : s.rainCfg? = some c) : s.rainFitted = true := by
  unfold State.rainCfg? at h
  split at h
  · cases h
  · rename_i c' config
    split at h
    · rename_i fitted
      simp only [Bool.and_eq_true] at fitted
      simp [State.rainFitted, config, fitted.1]
    · cases h

theorem State.RainOk.of_block {u : State} (h : t.block .rain = u.block .rain) (fitted : t.rainFitted = u.rainFitted) (hu : u.RainOk) :
    t.RainOk := by
  obtain ⟨state, mark⟩ := block_rain h
  unfold State.RainOk
  rwa [state, mark, fitted]

theorem execCaptureRetryExpiry_state (h : execCaptureRetryExpiry s = .next t) :
    t.mark .rainSensor = s.mark .rainSensor ∧ (t.rain.state = some .fault ↔ s.rain.state = some .fault) ∧
      (t.rain.state.isSome = true → s.rain.state.isSome = true) := by
  unfold execCaptureRetryExpiry at h
  split at h
  · dsimp only at h
    split at h
    · rename_i wanted
      split at h <;> rw [next_inj h]
      · exact ⟨rfl, captureReading_fault (wantsCapture_state wanted) _ _ _ _ _ _⟩
      · exact ⟨rfl, Iff.rfl, id⟩
    · rw [next_inj h]
      exact ⟨rfl, Iff.rfl, id⟩
  · rw [next_inj h]
    exact ⟨rfl, Iff.rfl, id⟩

theorem exec_rainOk_of_ordinary {c : Instr} (h : exec c s = .next t)
    (reset : ∀ straps enc panel anem, c ≠ .fullReset straps enc panel anem) (read : isRead c = false) (hs : s.RainOk) : t.RainOk := by
  have fitted := rainFitted_of_station (exec_station h reset read)
  by_cases other : setsBlock c .rain = false
  · exact hs.of_block (exec_block h other (.inr (by decide))) fitted
  cases c with
  | fullReset straps enc panel anem => exact absurd rfl (reset straps enc panel anem)
  | stationTimeStep =>
    cases h
    exact hs
  | rainReading reading =>
    have h : execRainReading reading s = .next t := h
    unfold execRainReading at h
    split at h
    · rwa [next_inj h]
    · rename_i c config
      obtain ⟨mark, some⟩ := hs
      rw [next_inj h] at fitted ⊢
      refine .of_block (u := s.takeRain c reading.val) (finish_block _ _) ?_ ⟨takeRain_mark c _ mark, fun h => ?_⟩
      · unfold State.rainFitted
        rw [kept_config (finish_kept _)]
      · have same : (s.takeRain c reading.val).rainFitted = s.rainFitted := by
          rw [← fitted]
          unfold State.rainFitted
          rw [kept_config (finish_kept _)]
        rw [same]
        exact some (takeRain_isSome c _ h)
  | captureRetryExpiry =>
    obtain ⟨same, fault, isSome⟩ := execCaptureRetryExpiry_state h
    obtain ⟨mark, some⟩ := hs
    exact ⟨by rw [same, mark, decide_eq_decide.mpr fault], fun e => fitted.trans (some (isSome e))⟩
  | readTryFailed | configReadEnd | rereadEnd => cases read
  | _ => exact absurd rfl other

/-! #### The ends of reads -/

theorem startRain_mark (s : State) (c : RunCfg) (pins : PinSample) (hs : s.mark .rainSensor = false) :
    (s.startRain c pins).mark .rainSensor = decide ((s.startRain c pins).rain.state = some .fault) := by
  unfold State.startRain
  refine takeRain_mark c _ ?_
  exact hs

/-- A sensor that is not fitted is in no state, and its mark is clear. -/
theorem State.RainOk.bare (hs : s.RainOk) (h : s.rainFitted = false) : s.rain.state = none ∧ s.mark .rainSensor = false := by
  obtain ⟨mark, some⟩ := hs
  have none : s.rain.state = none := by
    by_contra e
    rw [some (Option.isSome_iff_ne_none.mpr e)] at h
    cases h
  exact ⟨none, by rw [mark, none]; rfl⟩

theorem State.RainOk.unfitted (state : t.rain.state = none) (mark : t.mark .rainSensor = false) : t.RainOk := by
  refine ⟨by rw [mark, state]; rfl, fun h => ?_⟩
  rw [state] at h
  cases h

theorem startUpInvalid_rainOk (image : Option Memory) (bare : s.rainFitted = false) (hs : s.RainOk) : (s.startUpInvalid image).RainOk := by
  obtain ⟨state, mark⟩ := block_rain (startUpInvalid_block_same s image (b := .rain) (by decide) (by decide))
  obtain ⟨none, clear⟩ := hs.bare bare
  exact State.RainOk.unfitted (state.trans none) (mark.trans clear)

theorem startUpValid_rainOk (image : Memory) (c : RunCfg) (pins : PinSample) (bare : s.rainFitted = false) (hs : s.RainOk) :
    (s.startUpValid image c pins).RainOk := by
  obtain ⟨none, clear⟩ := hs.bare bare
  obtain ⟨state', mark'⟩ := block_rain (adopted_block s image c pins (b := .rain) (by decide))
  obtain ⟨state, mark⟩ := block_rain (startUpValid_block s image c pins (by decide))
  obtain ⟨rain, told⟩ := startWeather_rain (s.adopted image c pins) c pins
  have config : (s.startUpValid image c pins).port.config = some c := (block_port (startUpValid_port s image c pins)).2.2.2.1
  replace state := state.trans (congrArg RainFront.state rain)
  replace mark := mark.trans told
  by_cases fitted : c.rainFitted = true
  · rw [if_pos fitted] at state mark
    refine ⟨?_, fun _ => ?_⟩
    · rw [mark, state]
      exact startRain_mark _ c pins (mark'.trans clear)
    · simp [State.rainFitted, config, fitted]
  · rw [if_neg fitted] at state mark
    exact State.RainOk.unfitted (state.trans (state'.trans none)) (mark.trans (mark'.trans clear))

/-- The rain sensor at the end of a reread: cleared where it is not fitted, kept where it was, else started (R75). -/
theorem rereadRain_cases (s : State) (old new : Option RunCfg) (pins : PinSample) :
    new.any (·.rainFitted) = false ∧
        s.rereadRain old new pins = ({ s with rain := RainFront.reset } : State).endCondition .rainSensor ∨
      ∃ c, new = some c ∧ c.rainFitted = true ∧
        (old.any (·.rainFitted) = true ∧ s.rereadRain old new pins = s ∨
          old.any (·.rainFitted) = false ∧ s.rereadRain old new pins = s.startRain c pins) := by
  cases new with
  | none => exact .inl ⟨rfl, rfl⟩
  | some c =>
    cases fitted : c.rainFitted with
    | false => exact .inl ⟨fitted, by simp [State.rereadRain, fitted]⟩
    | true =>
      refine .inr ⟨c, rfl, fitted, ?_⟩
      cases was : old.any (·.rainFitted) with
      | true => exact .inl ⟨rfl, by simp [State.rereadRain, fitted, was]⟩
      | false => exact .inr ⟨rfl, by simp [State.rereadRain, fitted, was]⟩

theorem rereadEnd_rainOk (image : Option Memory) (new : Option RunCfg) (pins : PinSample) (hs : s.RainOk) :
    (s.rereadEnd image new pins).RainOk := by
  have config : (s.rereadEnd image new pins).port.config = new := (block_port (rereadEnd_port s image new pins)).2.2.2.1
  have after : (s.rereadEnd image new pins).block .rain =
      ((s.rereadStart image new pins).rereadRain s.port.config new pins).block .rain := by
    rw [rereadEnd_block, rereadIsolation_block _ _ (by decide), rereadVane_block _ _ _ _ (by decide),
      rereadAnem_block _ _ _ _ (by decide)]
  obtain ⟨state, mark⟩ := block_rain after
  obtain ⟨state', mark'⟩ := block_rain (rereadStart_block_same s image new pins (b := .rain) (by decide))
  generalize s.rereadStart image new pins = u at *
  have cleared : (({ u with rain := RainFront.reset } : State).endCondition .rainSensor).mark .rainSensor = false := by
    rw [endCondition_mark, if_pos rfl]
  obtain ⟨-, eq⟩ | ⟨c, rfl, fitted, cases⟩ := rereadRain_cases u s.port.config new pins
  · rw [eq] at state mark
    exact State.RainOk.unfitted state (mark.trans cleared)
  · have now : (s.rereadEnd image (some c) pins).rainFitted = true := by simp [State.rainFitted, config, fitted]
    obtain ⟨-, eq⟩ | ⟨old, eq⟩ := cases <;> rw [eq] at state mark
    · refine ⟨?_, fun _ => now⟩
      rw [mark, state, mark', state']
      exact hs.1
    · obtain ⟨-, clear⟩ := hs.bare old
      refine ⟨?_, fun _ => now⟩
      rw [mark, state]
      exact startRain_mark _ c pins (mark'.trans clear)

/-- A start-up read finds no configuration in force. -/
theorem State.ConfigConditionOk.bare (hs : s.ConfigConditionOk) {k : Nat} {w : Bool} (read : s.port.read = .reading k w)
    (first : s.port.restart = false) : s.rainFitted = false ∧ s.anemFitted = false := by
  obtain ⟨-, config, -⟩ := (hs.2 k w read).2 first
  exact ⟨by simp [State.rainFitted, config], by simp [State.anemFitted, config]⟩

theorem exec_read_rainOk {c : Instr} (h : exec c s = .next t) (read : isRead c = true) (config : s.ConfigConditionOk) (hs : s.RainOk) :
    t.RainOk := by
  cases c, read using read_commands with
  | readTryFailed =>
    obtain eq | ⟨k, read, ⟨-, eq⟩ | ⟨-, eq⟩ | ⟨first, eq⟩⟩ := execReadTryFailed_cases h <;> rw [eq]
    · exact hs
    · exact hs
    · exact rereadEnd_rainOk none none _ hs
    · exact startUpInvalid_rainOk none (config.bare read first).1 hs
  | configReadEnd bytes pins =>
    obtain eq | ⟨own, k, m, -, read, first, -, ⟨-, eq⟩ | ⟨c, -, eq⟩⟩ := execConfigReadEnd_cases h <;> rw [eq]
    · exact hs
    · exact startUpInvalid_rainOk _ (config.bare read first).1 hs
    · exact startUpValid_rainOk m c pins (config.bare read first).1 hs
  | rereadEnd bytes pins =>
    obtain eq | ⟨own, k, m, -, -, -, -, eq⟩ := execRereadEnd_cases h <;> rw [eq]
    · exact hs
    · exact rereadEnd_rainOk _ _ pins hs

theorem exec_rainOk {c : Instr} (h : exec c s = .next t) (reset : ∀ straps enc panel anem, c ≠ .fullReset straps enc panel anem)
    (config : s.ConfigConditionOk) (hs : s.RainOk) : t.RainOk := by
  cases read : isRead c with
  | true => exact exec_read_rainOk h read config hs
  | false => exact exec_rainOk_of_ordinary h reset read hs

/-! ### The anemometer and its flag (R73) -/

/-- The WIND SENSOR mark is that of exclusion, and an excluded anemometer is fitted. -/
def State.WindOk (s : State) : Prop :=
  s.mark .windSensor = s.wind.excluded ∧ (s.wind.excluded = true → s.anemFitted = true)

theorem State.WindOk.unfitted (excluded : t.wind.excluded = false) (mark : t.mark .windSensor = false) : t.WindOk := by
  refine ⟨mark.trans excluded.symm, fun h => ?_⟩
  rw [excluded] at h
  cases h

theorem State.Blows.windOk (h : s.Blows t.wind (t.mark .windSensor)) (fitted : t.anemFitted = s.anemFitted) (hs : s.WindOk) :
    t.WindOk := by
  obtain ⟨mark, some⟩ := hs
  unfold State.WindOk
  rw [fitted]
  generalize t.wind = w, t.mark .windSensor = b at h
  cases h with
  | same | level | silent => exact ⟨mark, some⟩
  | pulse =>
    refine ⟨?_, nofun⟩
    split
    · rfl
    · rename_i free
      exact mark.trans (Bool.eq_false_iff.mpr free)
  | window k =>
    have excluded : (s.wind.endWindow k).excluded = s.wind.excluded := by
      unfold WindFront.endWindow
      dsimp only
      split <;> rfl
    rw [excluded]
    exact ⟨mark, some⟩
  | excludes w _ yes => exact ⟨rfl, fun _ => yes⟩

theorem exec_read_windOk {c : Instr} (h : exec c s = .next t) (read : isRead c = true) (config : s.ConfigConditionOk) (hs : s.WindOk) :
    t.WindOk := by
  obtain ⟨mark, some⟩ := id hs
  have reread (image : Option Memory) (new : Option RunCfg) (pins : PinSample) : (s.rereadEnd image new pins).WindOk := by
    have config : (s.rereadEnd image new pins).port.config = new := (block_port (rereadEnd_port s image new pins)).2.2.2.1
    obtain ⟨wind, told⟩ := rereadEnd_wind s image new pins
    by_cases fitted : new.any (·.anemFitted) = true
    · rw [if_pos fitted] at wind told
      have now : (s.rereadEnd image new pins).anemFitted = true := by
        unfold State.anemFitted
        rw [config, fitted]
      refine ⟨?_, fun _ => now⟩
      rw [told, wind, mark]
      split
      · rfl
      · rename_i old
        exact Bool.eq_false_iff.mpr fun e => old (some e)
    · rw [if_neg fitted] at wind told
      exact State.WindOk.unfitted (by rw [wind]) told
  have bare {k : Nat} {w : Bool} (read : s.port.read = .reading k w) (first : s.port.restart = false) :
      s.wind.excluded = false ∧ s.mark .windSensor = false := by
    have unfitted := (config.bare read first).2
    have excluded : s.wind.excluded = false := Bool.eq_false_iff.mpr fun e => by
      rw [some e] at unfitted
      cases unfitted
    exact ⟨excluded, mark.trans excluded⟩
  have invalid (image : Option Memory) {k : Nat} {w : Bool} (read : s.port.read = .reading k w) (first : s.port.restart = false) :
      (s.startUpInvalid image).WindOk := by
    obtain ⟨wind, told⟩ := block_wind (startUpInvalid_block_same s image (b := .wind) (by decide) (by decide))
    obtain ⟨excluded, clear⟩ := bare read first
    exact State.WindOk.unfitted (by rw [wind, excluded]) (told.trans clear)
  cases c, read using read_commands with
  | readTryFailed =>
    obtain eq | ⟨k, read, ⟨-, eq⟩ | ⟨-, eq⟩ | ⟨first, eq⟩⟩ := execReadTryFailed_cases h <;> rw [eq]
    · exact hs
    · exact hs
    · exact reread none none _
    · exact invalid none read first
  | configReadEnd bytes pins =>
    obtain eq | ⟨own, k, m, -, read, first, -, ⟨-, eq⟩ | ⟨c, -, eq⟩⟩ := execConfigReadEnd_cases h <;> rw [eq]
    · exact hs
    · exact invalid _ read first
    · obtain ⟨excluded, clear⟩ := bare read first
      obtain ⟨wind, told⟩ := startUpValid_wind s m c pins
      refine State.WindOk.unfitted ?_ (told.trans clear)
      rw [wind]
      split
      · rfl
      · exact excluded
  | rereadEnd bytes pins =>
    obtain eq | ⟨own, k, m, -, -, -, -, eq⟩ := execRereadEnd_cases h <;> rw [eq]
    · exact hs
    · exact reread _ _ pins

theorem exec_windOk {c : Instr} (h : exec c s = .next t) (reset : ∀ straps enc panel anem, c ≠ .fullReset straps enc panel anem)
    (config : s.ConfigConditionOk) (hs : s.WindOk) : t.WindOk := by
  cases read : isRead c with
  | true => exact exec_read_windOk h read config hs
  | false =>
    by_cases clock : c = .stationTimeStep
    · subst clock
      cases h
      exact hs
    · refine (exec_blows h ?_).windOk (anemFitted_of_station (exec_station h reset read)) hs
      refine Bool.eq_false_iff.mpr fun wide => ?_
      cases c, wide using wide_commands with
      | fullReset straps enc panel anem => exact absurd rfl (reset straps enc panel anem)
      | stationTimeStep => exact absurd rfl clock
      | readTryFailed | configReadEnd | rereadEnd => cases read

end

end Sys2Proof.Machine

namespace Sys2Proof.Machine
set_option Elab.async false

/-! ### The other station flags (R184) -/

section

variable {s t : State}

/-- LINE FAULT marks LISTEN-ONLY, ADDRESS CLASH marks CLASHED, and an acknowledge is noted in LISTEN-ONLY alone. -/
def State.LineOk (s : State) : Prop :=
  s.mark .lineFault = s.line.mode.isListenOnly ∧ (s.line.faultAck.isSome = true → s.line.mode.isListenOnly = true) ∧
    s.mark .addressClash = decide (s.line.mode = .clashed)

theorem isListenOnly_iff {m : LineMode} : m.isListenOnly = true ↔ ∃ l, m = .listenOnly l := by
  cases m <;> simp [LineMode.isListenOnly]

theorem State.LineTurned.lineOk (h : s.LineTurned t) (hs : s.LineOk) : t.LineOk := by
  obtain ⟨fault, acked, clash⟩ := hs
  unfold State.LineTurned at h
  unfold State.LineOk
  generalize t.line.mode = m, t.line.failures = f, t.line.faultAck = a, t.mark .lineFault = x, t.mark .addressClash = y at h ⊢
  cases h with
  | same => exact ⟨fault, acked, clash⟩
  | listens normal =>
    rw [normal] at clash
    exact ⟨rfl, fun _ => rfl, clash⟩
  | expires l listens =>
    rw [listens] at clash
    exact ⟨rfl, nofun, clash⟩
  | clashes =>
    refine ⟨?_, nofun, rfl⟩
    split
    · rename_i normal
      rw [fault, isNormal_iff.mp normal]
      rfl
    · rfl
  | notes a marked => exact ⟨fault, fun _ => fault.symm.trans marked, clash⟩
  | restarts =>
    rw [clash]
    cases s.line.mode <;> exact ⟨rfl, nofun, rfl⟩
  | ticks =>
    rw [fault, clash]
    cases listens : s.line.mode with
    | listenOnly l => exact ⟨rfl, fun _ => rfl, rfl⟩
    | normal | clashed =>
      refine ⟨rfl, fun some => ?_, rfl⟩
      have := acked some
      rw [listens] at this
      exact this

/-! #### ISOLATION (R157 to R159) -/

/-- The ISOLATION mark is that of isolation. -/
def State.IsolationOk (s : State) : Prop := s.mark .isolation = s.handler.isolated

theorem block_isolation (h : t.block .isolation = s.block .isolation) :
    t.handler.isolated = s.handler.isolated ∧ t.mark .isolation = s.mark .isolation :=
  ⟨congrArg (·.handler.isolated) h, mark_of_block rfl h⟩

theorem State.IsolationOk.of_block (h : t.block .isolation = s.block .isolation) (hs : s.IsolationOk) : t.IsolationOk := by
  obtain ⟨isolated, mark⟩ := block_isolation h
  unfold State.IsolationOk
  rwa [isolated, mark]

theorem State.IsolationOk.heard (hs : s.IsolationOk) : s.heard.IsolationOk := by
  unfold State.heard
  split
  · exact hs
  · dsimp only
    split
    · have ended (u : State) (h : u.handler.isolated = false) : (u.endCondition .isolation).askReview.IsolationOk := by
        unfold State.IsolationOk
        rw [askReview_mark, endCondition_mark, if_pos rfl, State.askReview_handler]
        exact h.symm
      split
      · exact .of_block (askEval_block _ _) (ended _ rfl)
      · exact ended _ rfl
    · rename_i free
      have clear : s.mark .isolation = false := hs.trans (Bool.eq_false_iff.mpr free)
      exact clear

theorem execIsolationExpiry_isolationOk (h : execIsolationExpiry s = .next t) (hs : s.IsolationOk) : t.IsolationOk := by
  unfold execIsolationExpiry at h
  split at h
  · rwa [next_inj h]
  · dsimp only at h
    split at h <;> rw [next_inj h]
    · have begun (u : State) (hu : u.handler.isolated = true) : (u.beginCondition .isolation).IsolationOk := by
        unfold State.IsolationOk
        rw [beginCondition_mark, if_pos rfl]
        exact ((congrArg (·.handler.isolated) (beginCondition_kept u .isolation)).trans hu).symm
      refine .of_block ((finish_block _ _).trans (askReview_block _ _)) ?_
      have first := begun { s with handler := { s.handler with isolation := none, isolated := true } } rfl
      split
      · refine first.of_block ?_
        rw [block_of_kept (abortLearn_kept _), eachChannel_block _ (fun n u => block_of_kept (endOpen_kept u n) _)]
      · exact first
    · exact hs

theorem rereadIsolation_isolationOk (new : Option RunCfg) (hs : s.IsolationOk) : (s.rereadIsolation new).IsolationOk := by
  unfold State.rereadIsolation
  split
  · unfold State.IsolationOk
    rw [endCondition_mark, if_pos rfl]
    rfl
  · split
    · exact hs
    · exact hs

theorem rereadEnd_isolationOk (image : Option Memory) (new : Option RunCfg) (pins : PinSample) (hs : s.IsolationOk) :
    (s.rereadEnd image new pins).IsolationOk := by
  refine .of_block (rereadEnd_block s image new pins .isolation) (rereadIsolation_isolationOk new (.of_block ?_ hs))
  rw [rereadVane_block _ _ _ _ (by decide), rereadAnem_block _ _ _ _ (by decide), rereadRain_block _ _ _ _ (by decide),
    rereadStart_block_same _ _ _ _ (by decide)]

theorem exec_isolationOk {c : Instr} (h : exec c s = .next t) (reset : ∀ straps enc panel anem, c ≠ .fullReset straps enc panel anem)
    (hs : s.IsolationOk) : t.IsolationOk := by
  by_cases other : setsBlock c .isolation = false
  · exact hs.of_block (exec_block h other (.inr (by decide)))
  rw [Bool.not_eq_false] at other
  cases c, other using isolation_commands with
  | fullReset straps enc panel anem => exact absurd rfl (reset straps enc panel anem)
  | stationTimeStep =>
    cases h
    exact hs
  | readTryFailed =>
    obtain eq | ⟨k, read, ⟨-, eq⟩ | ⟨-, eq⟩ | ⟨first, eq⟩⟩ := execReadTryFailed_cases h <;> rw [eq]
    · exact hs
    · exact hs
    · exact rereadEnd_isolationOk none none _ hs
    · exact hs.of_block (startUpInvalid_block_same s _ (by decide) (by decide))
  | rereadEnd bytes pins =>
    obtain eq | ⟨own, k, m, -, -, -, -, eq⟩ := execRereadEnd_cases h <;> rw [eq]
    · exact hs
    · exact rereadEnd_isolationOk _ _ pins hs
  | frameArrival bits =>
    have h : execFrameArrival bits s = .next t := h
    unfold execFrameArrival at h
    split at h
    · split at h
      · dsimp only at h
        have quiet : (s.setLine { s.line with receiving := false }).IsolationOk := hs
        split at h <;> rw [next_inj h]
        · exact quiet.of_block ((finish_block _ _).trans
            (((Moves.start { Licence.plain with free := fun d => d = .line } _).clash rfl).block (by decide) (.inl id)))
        · exact quiet.heard.of_block ((finish_block _ _).trans (offer_block _ _ (by decide)))
      · rwa [next_inj h]
    · rwa [next_inj h]
  | isolationExpiry => exact execIsolationExpiry_isolationOk h hs

/-! #### SUPPLY LOW (R107) -/

/-- The SUPPLY LOW mark is that of a supply that is LOW or RECOVERING. -/
def State.SupplyOk (s : State) : Prop := s.mark .supplyLow = s.arb.supply.isPoor

theorem block_supply (h : t.block .supply = s.block .supply) :
    t.arb.supply = s.arb.supply ∧ t.mark .supplyLow = s.mark .supplyLow :=
  ⟨congrArg (·.arb.supply) h, mark_of_block rfl h⟩

theorem State.SupplyOk.of_block (h : t.block .supply = s.block .supply) (hs : s.SupplyOk) : t.SupplyOk := by
  obtain ⟨supply, mark⟩ := block_supply h
  unfold State.SupplyOk
  rwa [supply, mark]

theorem supplyYield_kept (n : Ch) (s : State) : (s.supplyYield n).kept = s.kept := by
  unfold State.supplyYield
  split
  · exact setState_kept s n _
  · exact setState_kept s n _
  · rfl

theorem execMsgoodLow_supplyOk (h : execMsgoodLow s = .next t) (hs : s.SupplyOk) : t.SupplyOk := by
  unfold execMsgoodLow at h
  split at h <;> rw [next_inj h]
  · exact hs
  · refine State.SupplyOk.of_block (s := (s.setSupply .low).setCondition .supplyLow true) ?_ ?_
    · rw [finish_block, block_of_kept (abortLearn_kept _), eachChannel_block _ (fun n u => block_of_kept (supplyYield_kept n u) _)]
      exact raiseAt_block _ _ _
    · unfold State.SupplyOk
      rw [setCondition_mark, if_pos rfl]
      rfl

theorem execMsgoodHigh_supplyOk (h : execMsgoodHigh s = .next t) (hs : s.SupplyOk) : t.SupplyOk := by
  unfold execMsgoodHigh at h
  split at h <;> rw [next_inj h]
  · rename_i low
    unfold State.SupplyOk at hs ⊢
    rw [low] at hs
    exact hs
  · unfold State.SupplyOk
    rw [setCondition_mark, if_pos rfl]
    rfl
  · exact hs

theorem execSupplyRecoveryExpiry_supplyOk (h : execSupplyRecoveryExpiry s = .next t) (hs : s.SupplyOk) : t.SupplyOk := by
  unfold execSupplyRecoveryExpiry at h
  split at h <;> rw [next_inj h]
  · refine .of_block ((finish_block _ _).trans (askEval_block _ _)) ?_
    unfold State.SupplyOk
    rw [endCondition_mark, if_pos rfl]
    rfl
  · exact hs

theorem exec_supplyOk {c : Instr} (h : exec c s = .next t) (reset : ∀ straps enc panel anem, c ≠ .fullReset straps enc panel anem)
    (hs : s.SupplyOk) : t.SupplyOk := by
  by_cases other : setsBlock c .supply = false
  · exact hs.of_block (exec_block h other (.inr (by decide)))
  rw [Bool.not_eq_false] at other
  cases c, other using supply_commands with
  | fullReset straps enc panel anem => exact absurd rfl (reset straps enc panel anem)
  | stationTimeStep =>
    cases h
    refine Eq.trans (show s.tick.mark .supplyLow = s.mark .supplyLow from rfl) (hs.trans ?_)
    show s.arb.supply.isPoor = s.arb.supply.tick.isPoor
    cases s.arb.supply <;> rfl
  | msgoodLow => exact execMsgoodLow_supplyOk h hs
  | msgoodHigh => exact execMsgoodHigh_supplyOk h hs
  | supplyRecoveryExpiry => exact execSupplyRecoveryExpiry_supplyOk h hs

/-! #### PEER OVERFLOW (R149) -/

/-- The PEER OVERFLOW mark is that of an overflow in the last 600 ds. -/
def State.OverflowOk (s : State) : Prop := s.mark .peerOverflow = s.handler.overflow.isSome

theorem block_overflow (h : t.block .overflow = s.block .overflow) :
    t.handler.overflow = s.handler.overflow ∧ t.mark .peerOverflow = s.mark .peerOverflow :=
  ⟨congrArg (·.handler.overflow) h, mark_of_block rfl h⟩

theorem State.OverflowOk.of_block (h : t.block .overflow = s.block .overflow) (hs : s.OverflowOk) : t.OverflowOk := by
  obtain ⟨overflow, mark⟩ := block_overflow h
  unfold State.OverflowOk
  rwa [overflow, mark]

theorem overflowed_overflowOk (s : State) : s.overflowed.OverflowOk := by
  unfold State.overflowed State.raise
  dsimp only
  refine .of_block (raiseAt_block _ _ _) ?_
  unfold State.OverflowOk
  rw [setCondition_mark, if_pos rfl]
  rfl

/-- What a filing starts leaves the overflow to the overflow of the table. -/
theorem State.OverflowOk.fileInto (hs : s.OverflowOk) {f : RxFrame} {gives : Bool} {update : PeerEntry → PeerEntry}
    {told : State → State} (ht : ∀ u : State, (told u).block .overflow = u.block .overflow) :
    (s.fileInto f gives update told).OverflowOk := by
  obtain ⟨l, eq⟩ | eq | eq := fileInto_cases s f gives update told <;> rw [eq]
  · exact hs.of_block ((ht _).trans (setPeers_block s l (by decide)))
  · exact overflowed_overflowOk s
  · exact hs

theorem State.OverflowOk.filed {u : State} (h : u.OverflowOk) : u.finish.takeNext.OverflowOk :=
  h.of_block ((takeNext_block _ (by decide)).trans (finish_block _ _))

theorem execFile_overflowOk (hs : s.OverflowOk) :
    (execFileWetness s = .next t → t.OverflowOk) ∧ (execFileGust s = .next t → t.OverflowOk) ∧
      (execFileDraw s = .next t → t.OverflowOk) := by
  have skipped : s.takeNext.OverflowOk := hs.of_block (takeNext_block s (by decide))
  refine ⟨fun h => ?_, fun h => ?_, fun h => ?_⟩
  · unfold execFileWetness at h
    split at h
    · rwa [next_inj h]
    · split at h <;> rw [next_inj h]
      · exact skipped
      · refine State.OverflowOk.filed ?_
        unfold State.fileWetness
        split
        · exact hs.fileInto (fun u => askReviewIf_block u _ _)
        · exact hs.fileInto (fun u => askReview_block u _)
  · unfold execFileGust at h
    split at h
    · rwa [next_inj h]
    · split at h <;> rw [next_inj h]
      · exact skipped
      · exact (hs.fileInto (fun u => (askReview_block _ _).trans (judgeExclusion_block u (by decide)))).filed
  · unfold execFileDraw at h
    split at h
    · rwa [next_inj h]
    · split at h <;> rw [next_inj h]
      · exact skipped
      · exact (hs.fileInto (fun u => askEval_block u _)).filed

theorem execOverflowConditionEnd_overflowOk (h : execOverflowConditionEnd s = .next t) (hs : s.OverflowOk) : t.OverflowOk := by
  unfold execOverflowConditionEnd at h
  split at h <;> rw [next_inj h]
  · unfold State.OverflowOk
    rw [endCondition_mark, if_pos rfl]
    rfl
  · exact hs

theorem exec_overflowOk {c : Instr} (h : exec c s = .next t) (reset : ∀ straps enc panel anem, c ≠ .fullReset straps enc panel anem)
    (hs : s.OverflowOk) : t.OverflowOk := by
  by_cases other : setsBlock c .overflow = false
  · exact hs.of_block (exec_block h other (.inr (by decide)))
  rw [Bool.not_eq_false] at other
  cases c, other using overflow_commands with
  | fullReset straps enc panel anem => exact absurd rfl (reset straps enc panel anem)
  | stationTimeStep =>
    cases h
    refine Eq.trans (show s.tick.mark .peerOverflow = s.mark .peerOverflow from rfl) (hs.trans ?_)
    exact (Option.isSome_map ..).symm
  | fileWetness => exact (execFile_overflowOk hs).1 h
  | fileGust => exact (execFile_overflowOk hs).2.1 h
  | fileDraw => exact (execFile_overflowOk hs).2.2 h
  | overflowConditionEnd => exact execOverflowConditionEnd_overflowOk h hs

/-! #### STORE, and all nine -/

theorem exec_storeMark {c : Instr} (h : exec c s = .next t) (reset : ∀ straps enc panel anem, c ≠ .fullReset straps enc panel anem) :
    t.mark .store = s.mark .store := by
  by_cases clock : c = .stationTimeStep
  · subst clock
    cases h
    rfl
  · refine mark_of_block rfl (exec_block h ?_ (.inr (by decide)))
    refine Bool.eq_false_iff.mpr fun own => ?_
    cases c, own using clock_commands with
    | fullReset straps enc panel anem => exact absurd rfl (reset straps enc panel anem)
    | stationTimeStep => exact absurd rfl clock

/-- The flags' invariant by its parts. -/
theorem flagsOk_iff (s : State) : s.FlagsOk ↔ s.ConfigConditionOk ∧ s.RainOk ∧ s.WindOk ∧ s.LineOk ∧ s.IsolationOk ∧ s.SupplyOk ∧
    s.OverflowOk ∧ s.mark .store = false := by
  unfold State.FlagsOk State.RainOk State.WindOk State.LineOk State.IsolationOk State.SupplyOk State.OverflowOk
  simp only [and_assoc]
  exact Iff.rfl

theorem exec_flagsOk {c : Instr} (h : exec c s = .next t) (reset : ∀ straps enc panel anem, c ≠ .fullReset straps enc panel anem)
    (hs : s.FlagsOk) : t.FlagsOk := by
  rw [flagsOk_iff] at hs ⊢
  obtain ⟨config, rain, wind, line, isolation, supply, overflow, store⟩ := hs
  exact ⟨exec_configConditionOk h reset config, exec_rainOk h reset config rain, exec_windOk h reset config wind,
    (exec_line h reset).lineOk line, exec_isolationOk h reset isolation, exec_supplyOk h reset supply, exec_overflowOk h reset overflow,
    (exec_storeMark h reset).trans store⟩

/-- The flags' invariant where nothing holds but the CONFIG condition. -/
theorem flagsOk_of_calm (config : s.ConfigConditionOk) (mode : s.line.mode = .normal) (ack : s.line.faultAck = none)
    (isolated : s.handler.isolated = false) (overflow : s.handler.overflow = none) (rain : s.rain.state = none)
    (supply : s.arb.supply = .unset) (wind : s.wind.excluded = false) (clear : ∀ f, f ≠ .configStation → s.mark f = false) :
    s.FlagsOk := by
  rw [flagsOk_iff]
  have lineOk : s.LineOk := by
    unfold State.LineOk
    rw [mode, ack, clear .lineFault nofun, clear .addressClash nofun]
    exact ⟨rfl, nofun, rfl⟩
  have supplyOk : s.SupplyOk := by
    unfold State.SupplyOk
    rw [supply, clear .supplyLow nofun]
    rfl
  have overflowOk : s.OverflowOk := by
    unfold State.OverflowOk
    rw [overflow, clear .peerOverflow nofun]
    rfl
  exact ⟨config, .unfitted rain (clear .rainSensor nofun), .unfitted wind (clear .windSensor nofun), lineOk,
    (clear .isolation nofun).trans isolated.symm, supplyOk, overflowOk, clear .store nofun⟩

theorem fullReset_flagsOk {straps : BitVec 7} {enc : Vector EncLevels 4} {panel : PanelLevels} {anem : Bool}
    (h : exec (.fullReset straps enc panel anem) s = .next t) : t.FlagsOk := by
  obtain ⟨u, was, cases⟩ := execFullReset_cases h
  have clear (f : FlagId) : u.mark f = false := by
    unfold State.mark State.flag
    rw [was.flags]
    exact congrArg Flag.condition (Vector.getElem_replicate _)
  obtain ⟨port, rfl⟩ | ⟨port, rfl⟩ := cases
  · refine flagsOk_of_calm ⟨fun e => ?_, fun k w e => ⟨fun e => ?_, fun _ => ⟨clear _, by rw [port]; rfl, by rw [was.handler]; rfl⟩⟩⟩
      (by rw [was.line]; rfl) (by rw [was.line]; rfl) (by rw [was.handler]; rfl) (by rw [was.handler]; rfl) (by rw [was.rain]; rfl) (by rw [was.arb]; rfl)
      (by rw [was.wind]; rfl) (fun f _ => clear f)
    · rw [port] at e
      cases e
    · rw [port] at e
      cases e
  · have same := beginCondition_kept u .configStation
    refine flagsOk_of_calm ⟨fun e => ?_, fun k w e => ?_⟩ ((congrArg (·.line.mode) same).trans (congrArg (·.mode) was.line))
      ((congrArg (·.line.faultAck) same).trans ?_) ((congrArg (·.handler.isolated) same).trans ?_)
      ((congrArg (·.handler.overflow) same).trans ?_) ((congrArg (·.rain.state) same).trans ?_)
      ((congrArg (·.arb.supply) same).trans ?_) ((congrArg (·.wind.excluded) same).trans ?_) (fun f hf => ?_)
    · rw [beginCondition_port, port] at e
      cases e
    · rw [beginCondition_port, port] at e
      cases e
    · exact congrArg (·.faultAck) was.line
    · exact congrArg (·.isolated) was.handler
    · exact congrArg (·.overflow) was.handler
    · exact congrArg (·.state) was.rain
    · exact congrArg (·.supply) was.arb
    · exact congrArg (·.excluded) was.wind
    · rw [beginCondition_mark, if_neg hf, clear]

theorem bitTime_flagsOk (hs : s.FlagsOk) : s.bitTime.FlagsOk := by
  have mode : s.bitTime.line.mode = s.line.mode ∧ s.bitTime.line.faultAck = s.line.faultAck := by
    rw [State.bitTime_line]
    unfold LineCtl.bitTime
    split <;> exact ⟨rfl, rfl⟩
  rw [flagsOk_iff] at hs ⊢
  obtain ⟨config, rain, wind, line, rest⟩ := hs
  refine ⟨config, rain, wind, ?_, rest⟩
  unfold State.LineOk
  rw [mode.1, mode.2]
  exact line

/-- Settles O9: each flag's condition is kept by the commands of its block and left by the others. -/
theorem conditionsKept : Obligations.ConditionsKept := by
  unfold Obligations.ConditionsKept
  intro s t hs h
  refine step_keeps (P := State.FlagsOk) (fun _ _ => id) (fun s hs => bitTime_flagsOk hs) (fun c s t h hs => ?_) h hs
  by_cases reset : ∃ straps enc panel anem, c = .fullReset straps enc panel anem
  · obtain ⟨straps, enc, panel, anem, rfl⟩ := reset
    exact fullReset_flagsOk h
  · exact exec_flagsOk h (fun a b c d e => reset ⟨a, b, c, d, e⟩) hs

end

end Sys2Proof.Machine

namespace Sys2Proof.Machine
set_option Elab.async false

/-! ### No OPEN travel exists while barred (R45)

A chain of changes makes OPEN travels by licence alone, and a review ends those it finds barred. -/

/-- The channel holds no OPEN travel. -/
def State.NoOpn (s : State) (n : Ch) : Prop := ∀ x, s.travel? n = some x → x.kind ≠ .opn

section

variable {s t : State}

theorem openOk_iff : s.OpenOk ↔ (s.openBarred = true → ∀ n, s.NoOpn n) := Iff.rfl

theorem noOpn_of_stateOf {n : Ch} (h : t.stateOf n = s.stateOf n) (hs : s.NoOpn n) : t.NoOpn n := by
  unfold State.NoOpn State.travel?
  rw [h]
  exact hs

/-- The bars depend on what reviews leave alone and on the evaluator's record. -/
theorem openBarred_of_kept (kept : t.kept = s.kept) (eval : t.eval = s.eval) : t.openBarred = s.openBarred := by
  unfold State.openBarred State.closeLevelActive State.isolationClose
  rw [eval, kept_config kept, kept_active kept, kept_isolated kept]

/-- OPEN travels are made by licence alone. -/
theorem Shifts.noOpn {p : Licence} (h : Shifts p s t) (opens : ¬ p.opens) {n : Ch} (hs : s.NoOpn n) : t.NoOpn n := by
  refine h.keeps n (Q := fun c => ∀ x, c.travel? = some x → x.kind ≠ .opn) hs (fun old new hf ho x hx hk => ?_)
  obtain ⟨licensed, -⟩ | ⟨y, hy, kind⟩ := hf.opens x hx hk
  · exact opens licensed
  · exact ho y hy kind

theorem Settles.noOpn {r : Prop} {l : Option Ch} (h : Settles r l s t) {n : Ch} (hs : s.NoOpn n) : t.NoOpn n :=
  (Shifts.refl.settles h : Shifts Licence.plain s t).noOpn id hs

/-- Without a review the evaluator's record stays. -/
theorem Settles.eval_same {l : Option Ch} (h : Settles False l s t) : t.eval = s.eval := by
  induction h with
  | refl => rfl
  | turn _ _ ih => rw [setState_eval, ih]
  | create _ _ ih => rw [createTravel_eval, ih]
  | ended _ _ _ _ _ ih =>
    rw [State.judgeLamp_eval]
    exact ih
  | marks _ _ _ ih => exact ih
  | review _ never => exact never.elim
  | aside _ _ _ ih => exact ih
  | draw _ _ _ ih => rw [submitDraw_eval, ih]

theorem Settles.openOk {l : Option Ch} (h : Settles False l s t) (hs : s.OpenOk) : t.OpenOk := by
  intro barred n
  rw [openBarred_of_kept h.kept h.eval_same] at barred
  exact h.noOpn (hs barred n)

/-! #### What a review hands on -/

theorem clampOpen_cases (s : State) (n : Ch) :
    (s.clampOpen n).NoOpn n ∨ s.clampOpen n = s ∨ ∃ x, s.clampOpen n = s.setTravel n x ∧ (s.travel? n).isSome = true := by
  unfold State.clampOpen
  split
  · rename_i k x _ travel
    have done : (s.complete n).NoOpn n := by
      unfold State.NoOpn State.travel?
      rw [stateOf_complete]
      exact fun _ travel => nomatch travel
    split
    · dsimp only
      split
      · exact .inr (.inl rfl)
      · split
        · exact .inl done
        · unfold State.retarget
          split
          · exact .inl done
          · exact .inr (.inr ⟨_, rfl, by rw [travel]; rfl⟩)
    · exact .inr (.inl rfl)
  · exact .inr (.inl rfl)

theorem createClose_noOpn (s : State) (n : Ch) (b : Band) (o : Origin) : (s.createClose n b o).NoOpn n := by
  intro x hx
  unfold State.travel? State.createClose State.createTravel at hx
  rw [stateOf_askEval, stateOf_setState] at hx
  cases hx
  exact nofun

/-- A CLOSE need replaces an OPEN travel that it reaches (R39). -/
theorem applyNeed_replaces {n : Ch} (reaches : s.needReaches n = true) (ref : (s.recs[n]'n.isLt).referenced = true)
    (close : (s.needOf n).isClose = true) : (s.applyNeed n).NoOpn n := by
  by_cases none : s.NoOpn n
  · exact (Settles.refl.applyNeed (r := False) (l := Option.none) n).noOpn none
  · obtain ⟨x, travel, kind⟩ : ∃ x, s.travel? n = some x ∧ x.kind = .opn := by simpa [State.NoOpn] using none
    unfold State.applyNeed
    rw [if_pos reaches, if_pos ref]
    split
    · unfold State.needClose
      rw [travel]
      dsimp only
      rw [kind]
      exact createClose_noOpn s n _ _
    all_goals simp_all [Need.isClose]

theorem needReaches_setTravel {n : Ch} {x : Travel} (travel : (s.travel? n).isSome = true) (reaches : s.needReaches n = true) :
    (s.setTravel n x).needReaches n = true := by
  have kept := setTravel_kept s n x
  have learn : (s.setTravel n x).isLearnChannel n = s.isLearnChannel n := by
    unfold State.isLearnChannel State.learnChannel?
    obtain ⟨y, eq, stem⟩ := setState_port s n ((s.stateOf n).withTravel x)
    have channel := congrArg (Option.map Session.channel) stem
    simp only [Option.map_map, Function.comp_def] at channel
    have channel : y.map (·.channel) = s.port.session.map (·.channel) := channel
    unfold State.setTravel
    rw [eq]
    simp only [channel]
  have state : (s.setTravel n x).stateOf n = (s.stateOf n).withTravel x := stateOf_setState _ _ _
  unfold State.needReaches at reaches ⊢
  unfold State.travel? at travel
  have fitted : (s.setTravel n x).fitted n = s.fitted n := by
    unfold State.fitted
    rw [kept_chan kept]
  rw [kept_deciding kept, fitted, learn, state]
  cases h : s.stateOf n <;> simp_all [ChState.withTravel, ChState.travel?]

/-- Where OPEN is barred a review leaves a channel without an OPEN travel (R45, R93). -/
theorem handChannel_noOpn (n : Ch) (barred : s.openBarred = true) : (State.handChannel n s).NoOpn n := by
  unfold State.handChannel
  dsimp only
  cases replaces : s.closeReplaces n with
  | false =>
    rw [barred, Bool.not_false, Bool.true_and, if_pos rfl]
    have ended : (s.endOpen n).NoOpn n := by
      unfold State.endOpen
      split
      · rename_i none
        exact fun x hx => by rw [none] at hx; cases hx
      · rename_i x travel
        split
        · intro y hy
          unfold State.travel? State.toStill at hy
          rw [stateOf_setState] at hy
          cases hy
        · rename_i other
          exact fun y hy => by
            rw [travel] at hy
            cases hy
            exact other
    exact ((Settles.refl.clampOpen (r := False) (l := none) n).applyNeed n).noOpn ended
  | true =>
    rw [Bool.not_true, Bool.and_false, if_neg Bool.false_ne_true]
    unfold State.closeReplaces at replaces
    simp only [Bool.and_eq_true] at replaces
    obtain ⟨⟨close, reaches⟩, ref⟩ := replaces
    obtain none | same | ⟨x, eq, travel⟩ := clampOpen_cases s n
    · exact (Settles.refl.applyNeed (r := False) (l := Option.none) n).noOpn none
    · rw [same]
      exact applyNeed_replaces reaches ref close
    · rw [eq]
      refine applyNeed_replaces (needReaches_setTravel travel reaches) ?_ ?_
      · rw [kept_referenced (setTravel_kept s n x), ref]
      · unfold State.needOf at close ⊢
        rw [setTravel_eval, close]

theorem foldl_handChannel_noOpn (ns : List Ch) (barred : s.openBarred = true) (n : Ch) (h : n ∈ ns ∨ s.NoOpn n) :
    (ns.foldl (fun s m => State.handChannel m s) s).NoOpn n := by
  induction ns generalizing s with
  | nil => exact h.resolve_left (List.not_mem_nil)
  | cons m ns ih =>
    refine ih ((openBarred_of_kept (handChannel_kept m s) (handChannel_eval m s)).trans barred) ?_
    obtain h | h := h
    · obtain rfl | h := List.mem_cons.mp h
      · exact .inr (handChannel_noOpn n barred)
      · exact .inl h
    · exact .inr ((Settles.refl.handChannel (r := False) (l := none) m).noOpn h)

theorem handChannels_openOk (s : State) : (s.eachChannel State.handChannel).OpenOk := by
  intro barred n
  rw [openBarred_of_kept (eachChannel_keeps State.kept _ handChannel_kept s)
    (eachChannel_keeps State.eval _ handChannel_eval s)] at barred
  exact foldl_handChannel_noOpn channels barred n (.inl (mem_channels n))

/-- Every review leaves OPEN travels only where none of the four conditions holds. -/
theorem review_openOk_of_deciding {c : RunCfg} (config : s.port.config = some c) (reread : s.rereading = false) : s.review.OpenOk := by
  unfold State.review
  simp only [config, reread, Bool.false_eq_true, if_false]
  exact handChannels_openOk _

theorem review_openOk (hs : s.OpenOk) : s.review.OpenOk := by
  cases config : s.port.config with
  | none =>
    unfold State.review
    rw [config]
    exact hs
  | some c =>
    cases reread : s.rereading with
    | true =>
      unfold State.review
      rw [config]
      dsimp only
      rw [if_pos reread]
      exact hs
    | false => exact review_openOk_of_deciding config reread

theorem settle_openOk (k : Nat) (hs : s.OpenOk) : (State.settle k s).OpenOk := by
  induction k generalizing s with
  | zero => exact hs
  | succ k ih =>
    unfold State.settle
    split
    · exact ih (review_openOk (s := { s with reviewDue := false }) hs)
    · split
      · exact ih ((Settles.refl.evaluate (l := none)).openOk hs)
      · exact hs

/-- Running to rest keeps OPEN travels from existing while barred. -/
theorem finish_openOk (hs : s.OpenOk) : s.finish.OpenOk :=
  (Settles.refl.checkDraw (l := none)).openOk (settle_openOk _ hs)

/-- A due review makes it so. -/
theorem finish_openOk_of_due {c : RunCfg} (config : s.port.config = some c) (reread : s.rereading = false) (due : s.reviewDue = true) :
    s.finish.OpenOk := by
  refine (Settles.refl.checkDraw (l := none)).openOk ?_
  show (State.settle (63 + 1) s).OpenOk
  unfold State.settle
  rw [if_pos due]
  exact settle_openOk _ (review_openOk_of_deciding (s := { s with reviewDue := false }) config reread)

/-! #### The commands -/

theorem State.OpenOk.frame (hs : s.OpenOk) (state : ∀ n, t.stateOf n = s.stateOf n)
    (bars : t.openBarred = true → s.openBarred = true) : t.OpenOk :=
  fun barred n => noOpn_of_stateOf (state n) (hs (bars barred) n)

theorem raiseAt_eval (s : State) (i : Fin 21) : (s.raiseAt i).eval = s.eval := by
  unfold State.raiseAt State.submitAlarm
  split <;> simp

theorem clearAt_eval (s : State) (i : Fin 21) : (s.clearAt i).eval = s.eval := by
  unfold State.clearAt State.submitAlarm
  split <;> simp

theorem beginCondition_eval (s : State) (f : FlagId) : (s.beginCondition f).eval = s.eval := by
  unfold State.beginCondition State.raise
  split
  · rfl
  · exact raiseAt_eval _ _

/-- The bars look at no flag. -/
theorem openBarred_of_fields (eval : t.eval = s.eval) (config : t.port.config = s.port.config)
    (active : t.panel.active = s.panel.active) (isolated : t.handler.isolated = s.handler.isolated) : t.openBarred = s.openBarred := by
  unfold State.openBarred State.closeLevelActive State.isolationClose
  rw [eval, config, active, isolated]

theorem raiseAt_openBarred (s : State) (i : Fin 21) : (s.raiseAt i).openBarred = s.openBarred :=
  openBarred_of_fields (raiseAt_eval s i) (congrArg (·.port.config) (raiseAt_kept s i)) (congrArg (·.panel.active) (raiseAt_kept s i))
    (congrArg (·.handler.isolated) (raiseAt_kept s i))

theorem clearAt_openBarred (s : State) (i : Fin 21) : (s.clearAt i).openBarred = s.openBarred :=
  openBarred_of_kept (s := s.setFlag i _) (clearAt_kept s i) (clearAt_eval s i)

theorem beginCondition_openBarred (s : State) (f : FlagId) : (s.beginCondition f).openBarred = s.openBarred :=
  openBarred_of_fields (beginCondition_eval s f) (congrArg (·.port.config) (beginCondition_kept s f))
    (congrArg (·.panel.active) (beginCondition_kept s f)) (congrArg (·.handler.isolated) (beginCondition_kept s f))

theorem setReferenced_openBarred (s : State) (n : Ch) (b : Bool) : (s.setReferenced n b).openBarred = s.openBarred := by
  unfold State.setReferenced
  split
  · rfl
  · refine openBarred_of_kept (s := s.setRec n { s.recs[n]'n.isLt with referenced := b }) ?_ ?_
    · rw [judgeLamp_kept, checkView_kept, askReview_kept]
    · rw [State.judgeLamp_eval, checkView_eval, State.askReview_eval]

theorem confirmLearn_openBarred (s : State) (q : Session) : (s.confirmLearn q).openBarred = s.openBarred := by
  have station := confirmLearn_frame s q
  have config := (frame_read station).2.2.2
  obtain ⟨p, kept⟩ : ∃ p, (s.confirmLearn q).kept = ({ s with port := p } : State).kept :=
    ⟨_, (askReview_kept _).trans (judgeLamp_kept _)⟩
  have level : (s.confirmLearn q).closeLevelActive = s.closeLevelActive := by
    have := congrArg (fun x : Option RunCfg => x.any (fun c => c.closeLevel && s.panel.active.cls)) config
    rw [Option.any_map, Option.any_map] at this
    unfold State.closeLevelActive
    rw [kept_active kept]
    cases h : (s.confirmLearn q).port.config <;> cases h' : s.port.config <;> simp_all [RunCfg.station]
  have policy : (s.confirmLearn q).isolationClose = s.isolationClose := by
    have := congrArg (fun x : Option RunCfg => x.any (fun c => c.policyClose && s.handler.isolated)) config
    rw [Option.any_map, Option.any_map] at this
    unfold State.isolationClose
    rw [kept_isolated kept]
    cases h : (s.confirmLearn q).port.config <;> cases h' : s.port.config <;> simp_all [RunCfg.station]
  have eval : (s.confirmLearn q).eval = s.eval := by simp [State.confirmLearn]
  unfold State.openBarred
  rw [level, policy, eval]

/-- A chain of changes that begins no bar keeps OPEN travels from existing while barred. -/
theorem Moves.openOk {p : Licence} (h : Moves p s t) (bars : ¬ p.bars) (hs : s.OpenOk) : t.OpenOk := by
  have kept {u v : State} (hu : u.OpenOk) (kept : v.kept = u.kept) (eval : v.eval = u.eval) (state : ∀ n, v.stateOf n = u.stateOf n) :
      v.OpenOk := hu.frame state (openBarred_of_kept kept eval).symm.trans
  induction h with
  | refl => exact hs
  | @state t n new _ hf ih =>
    intro barred m x hx
    rw [openBarred_of_kept (setState_kept _ n new) (setState_eval _ n new)] at barred
    by_cases same : m = n
    · subst same
      unfold State.travel? at hx
      rw [stateOf_setState] at hx
      intro kind
      obtain ⟨-, free⟩ | ⟨y, hy, opn⟩ := hf.opens x hx kind
      · rw [free] at barred
        cases barred
      · exact ih barred m y hy opn
    · exact noOpn_of_stateOf (stateOf_setState_ne _ _ _ _ same) (ih barred m) x hx
  | unit n u _ _ _ ih => exact ih.frame (fun _ => rfl) id
  | @step t n up _ _ _ ih =>
    exact kept (u := t.setUnit n _) (ih.frame (fun _ => rfl) id) (judgeLamp_kept _) (State.judgeLamp_eval _)
      (stateOf_of_recs (State.judgeLamp_recs _))
  | @count t n k _ _ _ ih =>
    exact kept (u := t.setUnit n _) (ih.frame (fun _ => rfl) id) (judgeLamp_kept _) (State.judgeLamp_eval _)
      (stateOf_of_recs (State.judgeLamp_recs _))
  | referenced n b _ ih => exact ih.frame (fun m => setReferenced_stateOf _ n m b) (setReferenced_openBarred _ n b).symm.trans
  | mark n r _ hr _ ih => exact ih.frame (fun m => stateOf_setRec _ n m r hr) id
  | submitState n _ ih => exact kept ih (submitState_kept _ n) (submitState_eval _ n) (stateOf_of_recs (by simp))
  | submitDraw c h _ ih => exact kept ih (submitDraw_kept _ c h) (submitDraw_eval _ c h) (stateOf_of_recs (by simp))
  | report e r _ _ ih => exact kept ih (submit_kept _ e r) (State.submit_eval _ e r) (stateOf_of_recs (State.submit_recs _ e r))
  | raise i _ ih => exact ih.frame (stateOf_of_recs (raiseAt_recs _ i)) (raiseAt_openBarred _ i).symm.trans
  | clear i _ _ ih => exact ih.frame (stateOf_of_recs (clearAt_recs _ i)) (clearAt_openBarred _ i).symm.trans
  | condition f b _ _ _ ih => exact ih.frame (fun _ => rfl) id
  | @session t q x _ ih =>
    exact kept (u := { t with port := { t.port with session := q, store := x } }) (ih.frame (fun _ => rfl) id) (judgeLamp_kept _)
      (State.judgeLamp_eval _) (stateOf_of_recs (State.judgeLamp_recs _))
  | confirm q _ _ ih => exact ih.frame (stateOf_of_recs (confirmLearn_recs _ q)) (confirmLearn_openBarred _ q).symm.trans
  | lamp _ ih => exact kept ih (judgeLamp_kept _) (State.judgeLamp_eval _) (stateOf_of_recs (State.judgeLamp_recs _))
  | aside u _ hu _ hb ih => exact ih.frame (stateOf_of_recs (show u.recs = _ from congrArg (·.recs) hu)) (hb.resolve_left bars)
  | rest _ ih => exact finish_openOk ih

end

end Sys2Proof.Machine

namespace Sys2Proof.Machine
set_option Elab.async false

/-! ### OPEN travels and bars: the commands that begin a bar, the reads and the rest (R45) -/

section

variable {s t : State}

theorem endOpens_noOpn (s : State) (n : Ch) : (s.eachChannel (fun n s => s.endOpen n)).NoOpn n := by
  have kept (m : Ch) (u : State) (k : Ch) (hu : u.NoOpn k) : (u.endOpen m).NoOpn k :=
    ((Moves.start .plain u).endOpen m).shifts.noOpn id hu
  have ended (u : State) : (u.endOpen n).NoOpn n := by
    unfold State.endOpen
    split
    · rename_i none
      exact fun x hx => by rw [none] at hx; cases hx
    · rename_i x travel
      split
      · intro y hy
        unfold State.travel? State.toStill at hy
        rw [stateOf_setState] at hy
        cases hy
      · rename_i other
        exact fun y hy => by
          rw [travel] at hy
          cases hy
          exact other
  have fold : ∀ (ns : List Ch) (u : State), n ∈ ns ∨ u.NoOpn n → (ns.foldl (fun s m => s.endOpen m) u).NoOpn n := by
    intro ns
    induction ns with
    | nil => exact fun u h => h.resolve_left (List.not_mem_nil)
    | cons m ns ih =>
      intro u h
      refine ih _ ?_
      obtain h | h := h
      · obtain rfl | h := List.mem_cons.mp h
        · exact .inr (ended u)
        · exact .inl h
      · exact .inr (kept m u n h)
  exact fold channels s (.inl (mem_channels n))

theorem State.OpenOk.of_noOpn (h : ∀ n, t.NoOpn n) : t.OpenOk := fun _ n => h n

/-- Isolation under policy CLOSE, and CLOSE in LEVEL mode, end every OPEN travel before anything else (R45). -/
theorem endedOpens_openOk (s : State) : (s.eachChannel (fun n s => s.endOpen n)).abortLearn.askReview.finish.OpenOk :=
  finish_openOk (.of_noOpn fun n => (((Moves.start .plain (s.eachChannel (fun n s => s.endOpen n))).abortLearn).askReview).shifts.noOpn id
    (endOpens_noOpn s n))

theorem execIsolationExpiry_openOk (h : execIsolationExpiry s = .next t) (hs : s.OpenOk) : t.OpenOk := by
  unfold execIsolationExpiry at h
  split at h
  · rwa [next_inj h]
  · rename_i c config
    dsimp only at h
    split at h <;> rw [next_inj h]
    · split
      · exact endedOpens_openOk _
      · rename_i stay
        refine finish_openOk ((Moves.start .plain _).askReview.openOk id ?_)
        refine hs.frame (fun n => stateOf_of_recs (beginCondition_recs _ _) n) (fun barred => ?_)
        rw [beginCondition_openBarred] at barred
        have free : State.isolationClose { s with handler := { s.handler with isolation := none, isolated := true } } = false := by
          unfold State.isolationClose
          dsimp only
          rw [config]
          dsimp only
          rw [Bool.eq_false_iff.mpr stay, Bool.false_and]
        unfold State.openBarred at barred
        rw [free, Bool.or_false] at barred
        have barred : (s.eval.threat || s.eval.reopen.isSome || s.closeLevelActive) = true := barred
        unfold State.openBarred
        rw [barred, Bool.true_or]
    · exact hs

theorem closeLevelActive_eq_false (h : s.panel.active.cls = false ∨ ∀ c, s.port.config = some c → c.closeLevel = false) :
    s.closeLevelActive = false := by
  unfold State.closeLevelActive
  split
  · rfl
  · rename_i c config
    obtain cls | level := h
    · rw [cls, Bool.and_false]
    · rw [level c config, Bool.false_and]

/-- The release of a CLOSE level, or an input in PRESS mode, begins no bar. -/
theorem State.OpenOk.unclosed (hs : s.OpenOk) (recs : t.recs = s.recs) (eval : t.eval = s.eval)
    (isolated : t.handler.isolated = s.handler.isolated) (config : t.port.config = s.port.config)
    (free : t.closeLevelActive = false) : t.OpenOk := by
  refine hs.frame (stateOf_of_recs recs) (fun barred => ?_)
  have close : t.isolationClose = s.isolationClose := by
    unfold State.isolationClose
    rw [config, isolated]
  unfold State.openBarred at barred ⊢
  rw [free, eval, close] at barred
  simp only [Bool.or_false, Bool.or_eq_true] at barred ⊢
  tauto

theorem inputChange_cls_openOk (c : RunCfg) (config : s.port.config = some c) (act : Bool) (hs : s.OpenOk) :
    (s.inputChange c .cls act).finish.OpenOk := by
  unfold State.inputChange
  dsimp only
  split
  · unfold State.closeLevelInput
    split
    · exact endedOpens_openOk _
    · rename_i inactive
      have free : ((s.setPanel { s.panel with active := putLevel s.panel.active .cls act }).setPanel
          (s.setPanel { s.panel with active := putLevel s.panel.active .cls act }).panel.releaseChord).closeLevelActive = false :=
        closeLevelActive_eq_false (.inl ((releaseChord_cls _).trans (Bool.eq_false_iff.mpr inactive)))
      exact finish_openOk ((Moves.start .plain _).askReview.openOk id (hs.unclosed rfl rfl rfl rfl free))
  · rename_i press
    have free : (s.setPanel { s.panel with active := putLevel s.panel.active .cls act }).closeLevelActive = false := by
      refine closeLevelActive_eq_false (.inr fun c' h => ?_)
      rw [State.setPanel_port, config] at h
      cases h
      exact Bool.eq_false_iff.mpr press
    exact finish_openOk (((Moves.start .plain _).closePressInput act).openOk id (hs.unclosed rfl rfl rfl rfl free))

theorem execPanelInputChange_cls_openOk {level : Bool} {ms : Nat} (h : execPanelInputChange .cls level ms s = .next t)
    (hs : s.OpenOk) : t.OpenOk := by
  unfold execPanelInputChange at h
  split at h
  · dsimp only at h
    have accepted : (s.setPanel { s.panel with levels := putLevel s.panel.levels .cls level }).OpenOk := hs
    split at h
    · rwa [next_inj h]
    · rename_i c config
      split at h <;> rw [next_inj h]
      · exact inputChange_cls_openOk (s := s.setPanel { s.panel with levels := putLevel s.panel.levels .cls level }) c config _ accepted
      · exact accepted
  · rwa [next_inj h]

/-! #### The reads -/

theorem beginTaking_eval (s : State) : s.beginTaking.eval = s.eval := by
  unfold State.beginTaking
  split <;> rfl

theorem submitStates_eval (s : State) : s.submitStates.eval = s.eval :=
  eachChannel_keeps State.eval _ (fun n s => submitState_eval s n) s

theorem startUpInvalid_openOk (image : Option Memory) (hs : s.OpenOk) : (s.startUpInvalid image).OpenOk := by
  intro barred n
  have config : (s.startUpInvalid image).port.config = none := by
    rw [(block_port (startUpInvalid_port s image)).2.2.2.1, beginCondition_port]
    rfl
  have eval : (s.startUpInvalid image).eval = s.eval := by
    unfold State.startUpInvalid
    rw [beginTaking_eval, State.judgeLamp_eval, submitStates_eval]
    exact beginCondition_eval _ _
  have barred : s.openBarred = true := by
    unfold State.openBarred State.closeLevelActive State.isolationClose at barred
    rw [config, eval] at barred
    unfold State.openBarred
    simp only [Bool.or_false] at barred
    simp only [Bool.or_eq_true] at barred ⊢
    tauto
  exact (Shifts.startUpInvalid (p := .plain) .refl image).noOpn id (hs barred n)

/-- Deciding starts with a review. -/
theorem startDeciding_due {c : RunCfg} (config : s.port.config = some c) (ended : s.port.read = .ended) :
    s.startDeciding.reviewDue = true := by
  have deciding : State.deciding { s with eval := { s.eval with timer := some 10 } } = true := by
    unfold State.deciding State.rereading
    dsimp only
    rw [config, ended]
    simp
  unfold State.startDeciding
  rw [State.askEval_reviewDue]
  unfold State.askReview
  rw [if_pos deciding]

theorem startDeciding_openOk {c : RunCfg} (config : s.port.config = some c) (ended : s.port.read = .ended) :
    s.startDeciding.finish.OpenOk ∧ s.startDeciding.judgeLamp.finish.OpenOk := by
  obtain ⟨-, read, -, config', -⟩ := block_port (startDeciding_block s .port)
  have due := startDeciding_due config ended
  have reread : s.startDeciding.rereading = false := by
    unfold State.rereading
    rw [read, ended]
    simp
  refine ⟨finish_openOk_of_due (config'.trans config) reread due, finish_openOk_of_due (c := c) ?_ ?_ ?_⟩
  · rw [kept_config (judgeLamp_kept _), config', config]
  · unfold State.rereading at reread ⊢
    rw [State.judgeLamp_port, reread]
  · rw [State.judgeLamp_reviewDue, due]

theorem startUpValid_openOk (image : Memory) (c : RunCfg) (pins : PinSample) : (s.startUpValid image c pins).OpenOk := by
  obtain ⟨-, read, -, config, -⟩ := block_port (startUpValid_port s image c pins)
  unfold State.startUpValid at read config ⊢
  dsimp only at read config ⊢
  generalize State.beginTaking _ = u at read config ⊢
  rw [kept_read (finish_kept _)] at read
  rw [kept_config (finish_kept _)] at config
  obtain ⟨-, read', -, config', -⟩ := block_port (startDeciding_block u .port)
  exact (startDeciding_openOk (config'.symm.trans config) (read'.symm.trans read)).1

/-- An evaluator as after reset, with the configuration INVALID, bars nothing. -/
theorem openOk_of_reset (eval : s.eval = Evaluator.reset) (config : s.port.config = none) : s.OpenOk := by
  intro barred
  unfold State.openBarred State.closeLevelActive State.isolationClose at barred
  rw [eval, config] at barred
  cases barred

theorem rereadEnd_openOk (image : Option Memory) (new : Option RunCfg) (pins : PinSample) : (s.rereadEnd image new pins).OpenOk := by
  obtain ⟨-, read, -, config, -⟩ := block_port (rereadEnd_port s image new pins)
  have read : (s.rereadEnd image new pins).port.read = .ended := read
  have config : (s.rereadEnd image new pins).port.config = new := config
  unfold State.rereadEnd at read config ⊢
  dsimp only at read config ⊢
  generalize State.raiseHolding _ = u at read config ⊢
  rw [kept_read (finish_kept _), State.judgeLamp_port] at read
  rw [kept_config (finish_kept _), State.judgeLamp_port] at config
  obtain ⟨-, read', -, config', -⟩ := block_port (rereadEval_block u new .port)
  cases new with
  | none => exact finish_openOk (openOk_of_reset (State.judgeLamp_eval _) (by rw [State.judgeLamp_port, config]))
  | some c => exact (startDeciding_openOk (config'.symm.trans config) (read'.symm.trans read)).2

/-- What a full reset leaves bars no OPEN travel, for there is none. -/
theorem fullReset_openOk {straps : BitVec 7} {enc : Vector EncLevels 4} {panel : PanelLevels} {anem : Bool}
    (h : exec (.fullReset straps enc panel anem) s = .next t) : t.OpenOk := by
  refine .of_noOpn fun n x hx => ?_
  unfold State.travel? at hx
  rw [(fullReset_channels h n).2] at hx
  cases hx

theorem tick_openOk (hs : s.OpenOk) : s.tick.OpenOk := by
  intro barred n x hx
  have reopen : s.tick.eval.reopen.isSome = s.eval.reopen.isSome := Option.isSome_map ..
  have same : s.tick.openBarred = s.openBarred := by
    unfold State.openBarred
    rw [reopen]
    rfl
  rw [same] at barred
  refine hs barred n x ?_
  unfold State.travel? at hx ⊢
  rwa [tick_stateOf, chState_tick_travel] at hx

/-! #### The restart, the transmitter, and all commands -/

theorem restartChannel_openBarred (n : Ch) (s : State) : (State.restartChannel n s).openBarred = s.openBarred := by
  have cleared (u : State) : (((u.setRec n { u.recs[n]'n.isLt with refusal := .accepted }).setUnit n
      { (u.setRec n { u.recs[n]'n.isLt with refusal := .accepted }).units[n] with
        illegal := 0, indexSeen := false, indexRecord := none }).checkView n).openBarred = u.openBarred :=
    (openBarred_of_kept (checkView_kept _ n) (checkView_eval _ n)).trans rfl
  refine (cleared _).trans ?_
  split
  · rfl
  · exact openBarred_of_kept (toStill_kept s n) (setState_eval _ _ _)

theorem clearAll_keeps {α : Type} (g : State → α) (hg : ∀ u i, g (State.clearAt u i) = g u) (s : State) : g s.clearAll = g s := by
  have fold : ∀ (is : List (Fin 21)) (u : State), g (is.foldl State.clearAt u) = g u := by
    intro is
    induction is with
    | nil => exact fun _ => rfl
    | cons i is ih => exact fun u => (ih _).trans (hg u i)
  exact fold _ s

/-- A restart drops the panel's active inputs and leaves the evaluator's marks and isolation. -/
theorem restartBlocks_openBarred (s : State) (barred : s.restartBlocks.openBarred = true) : s.openBarred = true := by
  have free : s.restartBlocks.closeLevelActive = false := closeLevelActive_eq_false (.inl rfl)
  unfold State.openBarred at barred
  rw [free, Bool.or_false, Bool.or_eq_true] at barred
  obtain marks | isolated := barred
  · have marks : (s.eval.threat || s.eval.reopen.isSome) = true := marks
    unfold State.openBarred
    rw [marks, Bool.true_or, Bool.true_or]
  · have isolated : s.isolationClose = true := isolated
    unfold State.openBarred
    rw [isolated, Bool.or_true]

theorem restartNow_openBarred (barred : s.restartNow.openBarred = true) : s.openBarred = true := by
  rw [restartNow_eq, openBarred_of_kept (judgeLamp_kept _) (State.judgeLamp_eval _),
    clearAll_keeps State.openBarred clearAt_openBarred] at barred
  have barred := restartBlocks_openBarred _ barred
  have ended (u : State) : (u.endCondition .lineFault).openBarred = u.openBarred := rfl
  have port : s.restartPort.openBarred = s.openBarred := rfl
  rwa [ended, eachChannel_keeps State.openBarred State.restartChannel restartChannel_openBarred, port] at barred

theorem restartNow_openOk (hs : s.OpenOk) : s.restartNow.OpenOk := by
  have shifts (p : Licence) (clears : ∀ i, p.clears i) : Shifts p s s.restartNow := Shifts.restartNow .refl clears
  have bars := restartNow_openBarred (s := s)
  generalize s.restartNow = t at shifts bars ⊢
  exact fun barred n => (shifts { Licence.plain with clears := fun _ => True } (fun _ => trivial)).noOpn id (hs (bars barred) n)

theorem execBitErrorHoldEnd_openOk {r : Bool} (h : execBitErrorHoldEnd r s = .next t) (hs : s.OpenOk) : t.OpenOk := by
  unfold execBitErrorHoldEnd at h
  split at h
  · split at h
    · rwa [next_inj h]
    · dsimp only at h
      split at h <;> rw [next_inj h]
      · exact finish_openOk (State.OpenOk.frame (s := s.setLine _) hs (stateOf_of_recs (beginCondition_recs _ _))
          (beginCondition_openBarred _ _).symm.trans)
      · exact hs
  · rwa [next_inj h]

theorem exec_openOk {c : Instr} (h : exec c s = .next t) (hs : s.OpenOk) : t.OpenOk := by
  have line (sent : ∃ l, s.line.Transmits l ∧ t = s.setLine l) : t.OpenOk := by
    obtain ⟨l, -, rfl⟩ := sent
    exact hs
  cases ordinary : isOrdinary c with
  | true =>
    by_cases bars : (licenceOf c s).bars
    · obtain rfl | ⟨level, ms, rfl⟩ := bars
      · exact execIsolationExpiry_openOk h hs
      · exact execPanelInputChange_cls_openOk h hs
    · exact (exec_moves ordinary h).openOk bars hs
  | false =>
    cases c, ordinary using special_commands with
    | fullReset straps enc panel anem => exact fullReset_openOk h
    | stationTimeStep =>
      cases h
      exact tick_openOk hs
    | readTryFailed =>
      obtain eq | ⟨k, -, ⟨-, eq⟩ | ⟨-, eq⟩ | ⟨-, eq⟩⟩ := execReadTryFailed_cases h <;> rw [eq]
      · exact hs
      · exact hs
      · exact rereadEnd_openOk _ _ _
      · exact startUpInvalid_openOk _ hs
    | configReadEnd bytes pins =>
      obtain eq | ⟨own, k, m, -, -, -, -, ⟨-, eq⟩ | ⟨c, -, eq⟩⟩ := execConfigReadEnd_cases h <;> rw [eq]
      · exact hs
      · exact startUpInvalid_openOk _ hs
      · exact startUpValid_openOk _ _ _
    | rereadEnd bytes pins =>
      obtain eq | ⟨own, k, m, -, -, -, -, eq⟩ := execRereadEnd_cases h <;> rw [eq]
      · exact hs
      · exact rereadEnd_openOk _ _ _
    | warmRestart =>
      obtain eq | ⟨-, eq⟩ := execWarmRestart_cases h <;> rw [eq]
      · exact hs
      · exact restartNow_openOk hs
    | transmissionStart => exact line (execTransmissionStart_transmits h)
    | frameSuccess => exact line (execFrameSuccess_transmits h)
    | arbitrationLoss pos => exact line (execArbitrationLoss_transmits h)
    | bitError pos => exact line (execBitError_transmits h)
    | bitErrorHoldEnd r => exact execBitErrorHoldEnd_openOk h hs
    | startBitFromAnotherStation => exact line (execStartBit_transmits h)
    | refusalPatternEnd =>
      have h : execRefusalPatternEnd s = .next t := h
      unfold execRefusalPatternEnd at h
      split at h
      · rwa [next_inj h]
      · split at h <;> rw [next_inj h]
        · exact hs
        · exact hs

end

/-- Settles O8: a chain of changes makes OPEN travels by licence alone, and none where one is barred (`Moves.openOk`); each
command that begins a bar ends the OPEN travels, or runs the review that does (`finish_openOk_of_due`, `endedOpens_openOk`). -/
theorem noOpenWhileBarred : Obligations.NoOpenWhileBarred := by
  unfold Obligations.NoOpenWhileBarred
  intro s t hs h
  exact step_keeps (P := State.OpenOk) (fun _ _ => id) (fun _ => id) (fun _ _ _ => exec_openOk) h hs

end Sys2Proof.Machine

namespace Sys2Proof.Machine
set_option Elab.async false

/-! ### Steps, full reset, reset values and the clock -/

/-- Settles O1: `step` by its two cases; a bit time touches the line alone, and nothing there while the station is not sending. -/
theorem stepRunsFrontCommand : Obligations.StepRunsFrontCommand := by
  unfold Obligations.StepRunsFrontCommand
  refine ⟨fun c rest s => rfl, fun s empty => ?_⟩
  have bit : step s = .next s.bitTime := by
    unfold step
    rw [empty]
  refine ⟨bit, fun idle => ?_, rfl⟩
  have still : s.bitTime = s := by
    unfold State.bitTime LineCtl.bitTime
    rw [idle]
    rfl
  rw [bit, still]

/-- What stands before the straps of a full reset are judged. -/
def State.resetWith (enc : Vector EncLevels 4) (panel : PanelLevels) (anem : Bool) (s : State) : State :=
  { State.reset with
    pending := s.pending, units := enc.map ChanUnit.reset, panel := Panel.reset panel
    wind := { WindFront.reset with level := anem } }

/-- Straps that give no address: station CONFIG is raised, unreported, and the lamp flashes (R207). -/
theorem resetWith_beginCondition (enc : Vector EncLevels 4) (panel : PanelLevels) (anem : Bool) (s : State) :
    (s.resetWith enc panel anem).beginCondition .configStation =
      { s.resetWith enc panel anem with
        flags := (Vector.replicate 21 { raised := false, condition := false }).set 8 { raised := true, condition := true }
        panel := { Panel.reset panel with standing := .fast, patternAge := 0 } } := rfl

/-- Settles O2: the two outcomes of the straps. -/
theorem fullResetLeaves : Obligations.FullResetLeaves := by
  unfold Obligations.FullResetLeaves
  intro straps enc panel anem s
  refine ⟨fun address => ?_, fun none => ?_⟩
  · show execFullReset straps enc panel anem s = _
    unfold execFullReset
    rw [if_pos address]
    rfl
  · have ends : exec (.fullReset straps enc panel anem) s = .next ((s.resetWith enc panel anem).beginCondition .configStation) := by
      show execFullReset straps enc panel anem s = _
      unfold execFullReset
      exact if_neg (by omega)
    rw [resetWith_beginCondition] at ends
    refine ⟨_, ends, rfl, rfl, rfl, rfl, rfl, rfl, rfl, rfl, rfl, rfl, rfl, rfl, rfl, rfl, fun i other => ?_⟩
    have : (8 : Nat) ≠ i.val := fun e => other (Fin.ext e.symm)
    simp [Vector.getElem_set_ne _ _ this]

/-- Settles O3: each value is read off; no travel, no drive, no notice, no peer and no configuration is there to break an
invariant. -/
theorem resetValuesAndInvariants : Obligations.ResetValuesAndInvariants := by
  unfold Obligations.ResetValuesAndInvariants
  have still : ∀ n : Ch, State.reset.travel? n = none := by decide
  have off : ∀ n : Ch, (State.reset.units[n]).drive = .off := by decide
  refine ⟨rfl, by decide, rfl, rfl, rfl, rfl, rfl, rfl, rfl, rfl, rfl, rfl, rfl, rfl, rfl, rfl, rfl, rfl, rfl, rfl, rfl, rfl, rfl,
    rfl, rfl, rfl, rfl, rfl, rfl, rfl, rfl, rfl, rfl, rfl, rfl, rfl, rfl, rfl, rfl, by decide, rfl, rfl, rfl, rfl,
    ?_, ?_, ?_, ?_, ?_, ?_, ?_, ?_, ?_, ?_⟩
  · exact Nat.zero_le _
  · exact ⟨.nil, fun _ mem => absurd mem List.not_mem_nil, fun _ locked => (nomatch locked)⟩
  · exact ⟨Nat.zero_le _, Nat.zero_le _, .nil, fun _ own => (nomatch own)⟩
  · exact ⟨Nat.zero_le _, by decide, fun _ _ chan => nomatch chan⟩
  · intro n d running
    rw [off n] at running
    cases running
  · intro barred
    cases barred
  · exact ⟨⟨fun read => (nomatch read), fun _ _ read => (nomatch read)⟩, rfl, fun h => (nomatch h), rfl, fun h => (nomatch h), rfl,
      fun h => (nomatch h), rfl, rfl, rfl, rfl, rfl⟩
  · exact fun _ image => nomatch image
  · exact ⟨by decide, by decide, by decide, by decide, by decide, fun _ _ e => (nomatch e),
      notSending_inRange.1, notSending_inRange.2, fun _ _ e => (nomatch e)⟩
  · intro n t travel
    rw [still n] at travel
    cases travel

theorem tickInterval_eq (t : Option Nat) : tickInterval t = t.bind (fun r => if r < 3 then some (r + 1) else none) := by
  cases t <;> rfl

theorem peerTick_partLeft (p : PeerEntry) (part : PartKind) : p.tick.partLeft part = (p.partLeft part).map (· - 1) := by
  cases part <;> simp only [PeerEntry.partLeft, PeerEntry.tick, Option.map_map] <;> rfl

theorem chState_tick_of_not_paused {c : ChState} (h : ∀ x l, c ≠ .paused x l) : c.tick = c := by
  cases c with
  | paused x l => exact absurd rfl (h x l)
  | _ => rfl

theorem driveState_tick_of_not_ramp {d : DriveState} (h : ∀ x r, d ≠ .ramp x r) : d.tick = d := by
  cases d with
  | ramp x r => exact absurd rfl (h x r)
  | _ => rfl

/-- Settles O30: the step of the clock is `State.tick`, block by block. -/
theorem stationTimeSteps : Obligations.StationTimeSteps := by
  unfold Obligations.StationTimeSteps
  intro s
  refine ⟨s.tick, rfl, rfl, rfl, rfl, rfl, fun l supply => ?_, fun l mode => ?_, rfl, rfl, rfl, rfl, rfl, rfl, rfl, rfl, rfl, rfl, rfl,
    rfl, rfl, rfl, rfl, fun count least greatest sum since capture => ?_, fun l capture => ?_, rfl, rfl, rfl, fun n => ?_, ?_,
    fun p hp => ?_, rfl, rfl, rfl, rfl, rfl, rfl, rfl, rfl, rfl, rfl⟩
  · show s.arb.supply.tick = _
    rw [supply]
    rfl
  · show s.line.mode.tick = _
    rw [mode]
    rfl
  · show s.rain.capture.tick = _
    rw [capture]
    rfl
  · show s.rain.capture.tick = _
    rw [capture]
    rfl
  · have record : s.tick.recs[n] = (s.recs[n]'n.isLt).tick := by simp [State.tick]
    refine ⟨by simp [State.tick, Arbiter.tick, tickDown], by simp [State.tick, Handler.tick, tickDown], fun c l paused => ?_,
      fun other => ?_, by rw [record]; rfl, by rw [tick_unit]; rfl, by rw [tick_unit]; exact driveState_tick_dir _, fun d r ramp => ?_,
      fun other => ?_, by rw [tick_unit]; exact tickInterval_eq _, by rw [tick_unit]; exact tickInterval_eq _,
      by rw [tick_unit]; rfl, by rw [tick_unit]; rfl⟩
    · rw [tick_stateOf, paused]
      rfl
    · rw [tick_stateOf, chState_tick_of_not_paused other]
    · rw [tick_unit]
      show (s.units[n]'n.isLt).drive.tick = _
      rw [ramp]
      rfl
    · rw [tick_unit]
      exact driveState_tick_of_not_ramp other
  · show (s.handler.peers.map PeerEntry.tick).map (·.origin) = _
    rw [List.map_map]
    rfl
  · obtain ⟨q, hq, rfl⟩ := List.mem_map.mp hp
    exact ⟨q, hq, rfl, rfl, rfl, peerTick_partLeft q _, peerTick_partLeft q _, peerTick_partLeft q _, peerTick_partLeft q _⟩

end Sys2Proof.Machine

namespace Sys2Proof.Machine
set_option Elab.async false

/-! ### Submissions to the pool (R136, R138, R140) -/

/-- A notice that is no more urgent than another for dropping: of greater rank, or of the same and queued no later (R140). -/
def PoolEntry.Droppable (v f : PoolEntry) : Prop := f.rank < v.rank ∨ f.rank = v.rank ∧ v.seq ≤ f.seq

theorem lessUrgent_droppable (e f : PoolEntry) : (lessUrgent e f).Droppable e ∧ (lessUrgent e f).Droppable f := by
  unfold lessUrgent PoolEntry.Droppable
  split
  · rename_i h
    simp only [gt_iff_lt, Bool.or_eq_true, decide_eq_true_eq, Bool.and_eq_true] at h
    omega
  · rename_i h
    simp only [gt_iff_lt, Bool.or_eq_true, decide_eq_true_eq, Bool.and_eq_true] at h
    omega

theorem PoolEntry.Droppable.trans {e f g : PoolEntry} (h : e.Droppable f) (h' : f.Droppable g) : e.Droppable g := by
  unfold PoolEntry.Droppable at *
  omega

theorem foldl_lessUrgent_droppable (w : List PoolEntry) (e : PoolEntry) :
    ∀ f ∈ e :: w, (w.foldl lessUrgent e).Droppable f := by
  induction w generalizing e with
  | nil =>
    intro f hf
    obtain rfl := List.mem_singleton.mp hf
    exact .inr ⟨rfl, Nat.le_refl _⟩
  | cons g w ih =>
    have first : (w.foldl lessUrgent (lessUrgent e g)).Droppable (lessUrgent e g) := ih _ _ (List.mem_cons_self ..)
    intro f hf
    obtain rfl | hf := List.mem_cons.mp hf
    · exact first.trans (lessUrgent_droppable f g).1
    · obtain rfl | hf := List.mem_cons.mp hf
      · exact first.trans (lessUrgent_droppable e f).2
      · exact ih _ f (List.mem_cons_of_mem _ hf)

/-- The notice a full pool drops is one than which none is less urgent (R140). -/
theorem leastUrgent_droppable {w : List PoolEntry} {v : PoolEntry} (h : leastUrgent w = some v) : ∀ f ∈ w, v.Droppable f := by
  cases w with
  | nil => exact nofun
  | cons e w =>
    cases h
    exact foldl_lessUrgent_droppable w e

theorem leastUrgent_eq_none {w : List PoolEntry} : leastUrgent w = none ↔ w = [] := by cases w <;> simp [leastUrgent]

/-- Settles O58: the three outcomes of `poolSubmit`; queued times that differ make erasing a notice leave all others. -/
theorem submissionsCoalesceOrDrop : Obligations.SubmissionsCoalesceOrDrop := by
  unfold Obligations.SubmissionsCoalesceOrDrop
  intro locked e w times
  have nodup : w.Nodup := times.imp (fun h e => h (congrArg (·.seq) e))
  have placed (g v f : PoolEntry) : f ∈ poolInsert g (w.erase v) ↔ f = g ∨ f ∈ w ∧ f ≠ v := by
    rw [mem_poolInsert, nodup.mem_erase_iff, and_comm]
  have free (other : ∀ f ∈ w, sameKey e.notice f.notice = false) : w.find? (fun f => sameKey e.notice f.notice) = none :=
    List.find?_eq_none.mpr (fun f hf => by simp [other f hf])
  refine ⟨fun old _ found f => ?_, fun other room f => ?_, fun other full some => ?_⟩
  · unfold poolSubmit
    rw [found]
    exact placed _ old f
  · unfold poolSubmit
    rw [free other]
    dsimp only
    rw [if_pos (show _ < Config.poolCapacity from room), mem_poolInsert]
  · cases least : leastUrgent w with
    | none => exact absurd (leastUrgent_eq_none.mp least) some
    | some v =>
      have dropping : poolSubmit locked e w = if e.rank < v.rank then poolInsert e (w.erase v) else w := by
        unfold poolSubmit
        rw [free other]
        dsimp only
        rw [if_neg (show ¬ _ < Config.poolCapacity from Nat.not_lt.mpr full), least]
      refine ⟨v, leastUrgent_mem least, leastUrgent_droppable least, fun stays => ?_, fun urgent f => ?_⟩
      · rw [dropping, if_neg (Nat.not_lt.mpr stays)]
      · rw [dropping, if_pos urgent]
        exact placed e v f

/-! ### Frames (R123, R125 to R127, R133) -/

theorem natBits_length (n v : Nat) : (natBits n v).length = n := by
  induction n with
  | zero => rfl
  | succ n ih => exact congrArg (· + 1) ih

theorem bitsNat_append (bs cs : List Bool) (a : Nat) :
    (bs ++ cs).foldl (fun a b => 2 * a + b.toNat) a = cs.foldl (fun a b => 2 * a + b.toNat) (bs.foldl (fun a b => 2 * a + b.toNat) a) :=
  List.foldl_append ..

/-- Reading the bits of a number from a start value. -/
theorem foldl_natBits (n v a : Nat) : (natBits n v).foldl (fun a b => 2 * a + b.toNat) a = a * 2 ^ n + v % 2 ^ n := by
  induction n generalizing a with
  | zero => simp [natBits, Nat.mod_one]
  | succ n ih =>
    unfold natBits
    rw [List.foldl_cons, ih, Nat.toNat_testBit, Nat.pow_succ, Nat.mod_mul]
    ring

/-- The bits of a number that fits spell it. -/
theorem bitsNat_natBits {n v : Nat} (h : v < 2 ^ n) : bitsNat (natBits n v) = v := by
  unfold bitsNat
  rw [foldl_natBits, Nat.zero_mul, Nat.zero_add, Nat.mod_eq_of_lt h]

theorem byteBits_length (payload : List Byte) : (byteBits payload).length = 8 * payload.length := by
  induction payload with
  | nil => rfl
  | cons b payload ih =>
    unfold byteBits at ih ⊢
    rw [List.flatMap_cons, List.length_append, natBits_length, ih, List.length_cons]
    omega

theorem byteOf_toNat (b : Byte) : byteOf b.toNat = b := by simp [byteOf]

theorem bytesOfBits_byteBits (payload : List Byte) : bytesOfBits payload.length (byteBits payload) = payload := by
  induction payload with
  | nil => rfl
  | cons b payload ih =>
    have split : byteBits (b :: payload) = natBits 8 b.toNat ++ byteBits payload := rfl
    have eight : (natBits 8 b.toNat).length = 8 := natBits_length 8 _
    have first : (byteBits (b :: payload)).take 8 = natBits 8 b.toNat := by rw [split, List.take_left' eight]
    have rest : (byteBits (b :: payload)).drop 8 = byteBits payload := by rw [split, List.drop_left' eight]
    show byteOf (bitsNat ((byteBits (b :: payload)).take 8)) :: bytesOfBits payload.length ((byteBits (b :: payload)).drop 8) = _
    rw [first, rest, ih, bitsNat_natBits b.isLt, byteOf_toNat]

/-- What stands on the line before bits that are still to be read, where a run of `run` bits of level `last` has been read and
the stuff bit that a run of five owes has not. -/
def stuffed (last : Bool) (run : Nat) (bs : List Bool) : List Bool :=
  if run = 5 then (!last) :: stuff (!last) 1 bs else stuff last run bs

/-- The sender's next bit, and the run it leaves. -/
theorem stuff_cons (last : Bool) (run : Nat) (b : Bool) (bs : List Bool) :
    stuff last run (b :: bs) = b :: stuffed b (if b = last then run + 1 else 1) bs := by
  show (if (if b = last then run + 1 else 1) = 5 then _ else _) = _
  unfold stuffed
  exact (apply_ite (List.cons b) ..).symm

/-- The receiver takes the owed stuff bit away. -/
theorem removeStuff_stuffed (last : Bool) {run : Nat} (h : run ≤ 5) (bs tail : List Bool) :
    ∃ l r, r < 5 ∧ removeStuff last run (stuffed last run bs ++ tail) = .got [] l r (stuff l r bs ++ tail) := by
  unfold removeStuff stuffed
  split
  · refine ⟨!last, 1, by omega, ?_⟩
    simp
  · exact ⟨last, run, by omega, rfl⟩

/-- The receiver takes back the bits that the sender stuffed. -/
theorem takeBits_stuffed (l : List Bool) (last : Bool) {run : Nat} (h : run ≤ 5) (bs tail : List Bool) :
    ∃ last' run', run' ≤ 5 ∧
      takeBits l.length last run (stuffed last run (l ++ bs) ++ tail) = .got l last' run' (stuffed last' run' bs ++ tail) := by
  induction l generalizing last run with
  | nil => exact ⟨last, run, h, rfl⟩
  | cons b l ih =>
    obtain ⟨m, r, less, removed⟩ := removeStuff_stuffed last h (b :: l ++ bs) tail
    obtain ⟨last', run', le, taken⟩ := ih b (run := if b = m then r + 1 else 1) (by split <;> omega)
    refine ⟨last', run', le, ?_⟩
    rw [List.length_cons]
    unfold takeBits
    rw [removed, List.cons_append, stuff_cons, List.cons_append]
    dsimp only
    rw [taken]
    rfl

theorem takeBits_field {l : List Bool} {n : Nat} (hn : l.length = n) (last : Bool) {run : Nat} (h : run ≤ 5) (bs tail : List Bool) :
    ∃ last' run', run' ≤ 5 ∧
      takeBits n last run (stuffed last run (l ++ bs) ++ tail) = .got l last' run' (stuffed last' run' bs ++ tail) := by
  subst hn
  exact takeBits_stuffed l last h bs tail

theorem kindLength_bounds {kind len : Nat} (h : kindLength kind = some len) : kind < 16 ∧ len ≤ 12 := by
  unfold kindLength at h
  split at h <;> simp_all <;> omega

/-- The last stage of the receiver reads payload, check and end field back. -/
theorem receiveTail_stuffed (head : List Bool) (origin kind : Nat) (payload : List Byte) (last : Bool) {run : Nat} (h : run ≤ 5) :
    receiveTail head origin kind payload.length last run
      (stuffed last run (byteBits payload ++ (natBits 16 (crcBits (head ++ byteBits payload)).toNat ++ [])) ++ [true, true, true]) =
      .frame origin kind payload := by
  obtain ⟨l1, r1, le1, payloadTaken⟩ := takeBits_field (byteBits_length payload) last h
    (natBits 16 (crcBits (head ++ byteBits payload)).toNat ++ []) [true, true, true]
  obtain ⟨l2, r2, le2, checkTaken⟩ := takeBits_field (natBits_length 16 (crcBits (head ++ byteBits payload)).toNat) l1 le1 []
    [true, true, true]
  obtain ⟨l3, r3, -, endTaken⟩ := removeStuff_stuffed l2 le2 [] [true, true, true]
  unfold receiveTail
  rw [payloadTaken]
  dsimp only
  rw [checkTaken]
  dsimp only
  rw [if_pos (bitsNat_natBits (BitVec.isLt _)), endTaken]
  show RxOutcome.frame origin kind (bytesOfBits payload.length (byteBits payload)) = _
  rw [bytesOfBits_byteBits]

/-- Settles O15: field by field the receiver takes back what the sender stuffed (`takeBits_stuffed`). -/
theorem frameRoundTrip : Obligations.FrameRoundTrip := by
  unfold Obligations.FrameRoundTrip
  intro rank origin kind payload rankFits low high length
  obtain ⟨kindFits, lengthFits⟩ := kindLength_bounds length
  have sent : frameBits rank origin kind payload = stuffed true 0
      (false :: (natBits 4 rank ++ natBits 7 origin) ++ (natBits 4 kind ++ (natBits 4 payload.length ++ (byteBits payload ++
        (natBits 16 (crcBits ((natBits 4 rank ++ natBits 7 origin ++ natBits 4 kind ++ natBits 4 payload.length) ++
          byteBits payload)).toNat ++ []))))) ++ [true, true, true] := by
    unfold frameBits frameBody stuffed
    simp
  have header : (false :: (natBits 4 rank ++ natBits 7 origin)).length = 12 := by simp [natBits_length]
  rw [sent]
  obtain ⟨l1, r1, le1, headerTaken⟩ := takeBits_field header true (run := 0) (by omega)
    (natBits 4 kind ++ (natBits 4 payload.length ++ (byteBits payload ++
        (natBits 16 (crcBits ((natBits 4 rank ++ natBits 7 origin ++ natBits 4 kind ++ natBits 4 payload.length) ++
          byteBits payload)).toNat ++ [])))) [true, true, true]
  obtain ⟨l2, r2, le2, kindTaken⟩ := takeBits_field (natBits_length 4 kind) l1 le1
    (natBits 4 payload.length ++ (byteBits payload ++
        (natBits 16 (crcBits ((natBits 4 rank ++ natBits 7 origin ++ natBits 4 kind ++ natBits 4 payload.length) ++
          byteBits payload)).toNat ++ []))) [true, true, true]
  obtain ⟨l3, r3, le3, lengthTaken⟩ := takeBits_field (natBits_length 4 payload.length) l2 le2
    (byteBits payload ++ (natBits 16 (crcBits ((natBits 4 rank ++ natBits 7 origin ++ natBits 4 kind ++ natBits 4 payload.length) ++
          byteBits payload)).toNat ++ [])) [true, true, true]
  have originBits : (false :: (natBits 4 rank ++ natBits 7 origin)).drop 5 = natBits 7 origin := by
    rw [List.drop_succ_cons, List.drop_left' (natBits_length 4 rank)]
  have originRead : bitsNat (natBits 7 origin) = origin := bitsNat_natBits (by omega)
  have kindRead : bitsNat (natBits 4 kind) = kind := bitsNat_natBits kindFits
  have lengthRead : bitsNat (natBits 4 payload.length) = payload.length := bitsNat_natBits (by omega)
  unfold receive
  rw [headerTaken]
  dsimp only
  rw [originBits, originRead, if_neg (by simp), if_neg (by omega), kindTaken]
  dsimp only
  rw [kindRead, length]
  dsimp only
  rw [lengthTaken]
  dsimp only
  rw [lengthRead, if_neg (by omega), if_neg (fun ne => ne rfl)]
  exact receiveTail_stuffed _ origin kind payload l3 le3

end Sys2Proof.Machine

namespace Sys2Proof.Machine
set_option Elab.async false

/-! ### Own payloads and the receivers' value checks (R115, R128, R147) -/

theorem fromBe16_be16 {n : Nat} (h : n ≤ 65535) : fromBe16 (byteOf (n / 256)) (byteOf n) = n := by
  simp only [fromBe16, byteOf, BitVec.toNat_ofNat]
  omega

theorem toNat_byteOf {n : Nat} (h : n < 256) : (byteOf n).toNat = n := by
  simp only [byteOf, BitVec.toNat_ofNat]
  omega

/-! #### Bands -/

theorem foldl_min_spec (l : List Nat) (a : Nat) : (l.foldl min a = a ∨ l.foldl min a ∈ l) ∧ l.foldl min a ≤ a ∧ ∀ b ∈ l, l.foldl min a ≤ b := by
  induction l generalizing a with
  | nil => simp
  | cons x l ih =>
    obtain ⟨value, le, below⟩ := ih (min a x)
    rw [List.foldl_cons]
    refine ⟨?_, by omega, fun b hb => ?_⟩
    · obtain first | later := value
      · rw [first]
        obtain h | h := Nat.le_total a x
        · exact .inl (Nat.min_eq_left h)
        · exact .inr (List.mem_cons.mpr (.inl (Nat.min_eq_right h)))
      · exact .inr (List.mem_cons_of_mem _ later)
    · obtain rfl | hb := List.mem_cons.mp hb
      · omega
      · exact below b hb

theorem foldl_max_spec (l : List Nat) (a : Nat) : (l.foldl max a = a ∨ l.foldl max a ∈ l) ∧ a ≤ l.foldl max a ∧ ∀ b ∈ l, b ≤ l.foldl max a := by
  induction l generalizing a with
  | nil => simp
  | cons x l ih =>
    obtain ⟨value, le, above⟩ := ih (max a x)
    rw [List.foldl_cons]
    refine ⟨?_, by omega, fun b hb => ?_⟩
    · obtain first | later := value
      · rw [first]
        obtain h | h := Nat.le_total a x
        · exact .inr (List.mem_cons.mpr (.inl (Nat.max_eq_right h)))
        · exact .inl (Nat.max_eq_left h)
      · exact .inr (List.mem_cons_of_mem _ later)
    · obtain rfl | hb := List.mem_cons.mp hb
      · omega
      · exact above b hb

/-- The most urgent of some bands is one of them and none is more urgent (R115). -/
theorem mostUrgent_spec {l : List Nat} (some : l ≠ []) (bands : ∀ b ∈ l, b < 15) :
    mostUrgent l ∈ l ∧ ∀ b ∈ l, mostUrgent l ≤ b := by
  obtain ⟨none | value, -, below⟩ := foldl_min_spec l 15
  · obtain ⟨b, hb⟩ := List.exists_mem_of_ne_nil l some
    have := below b hb
    have := bands b hb
    omega
  · exact ⟨value, below⟩

/-- The least urgent of some bands is one of them and none is less urgent (R115). -/
theorem leastUrgentBand_spec {l : List Nat} (some : l ≠ []) : leastUrgentBand l ∈ l ∧ ∀ b ∈ l, b ≤ leastUrgentBand l := by
  cases l with
  | nil => exact absurd rfl some
  | cons x l =>
    obtain ⟨value, first, above⟩ := foldl_max_spec l x
    refine ⟨?_, fun b hb => ?_⟩
    · obtain h | h := value
      · exact List.mem_cons.mpr (.inl h)
      · exact List.mem_cons_of_mem _ h
    · obtain rfl | hb := List.mem_cons.mp hb
      · exact first
      · exact above b hb

theorem mem_bandsWhere {s : State} {p : ChState → Bool} {x : Nat} :
    x ∈ s.bandsWhere p ↔ ∃ n t, p (s.stateOf n) = true ∧ s.travel? n = some t ∧ x = t.band.val := by
  unfold State.bandsWhere
  rw [List.mem_filterMap]
  constructor
  · rintro ⟨n, -, h⟩
    split at h
    · rename_i passes
      obtain ⟨t, travel, rfl⟩ := Option.map_eq_some_iff.mp h
      exact ⟨n, t, passes, travel, rfl⟩
    · cases h
  · rintro ⟨n, t, passes, travel, rfl⟩
    exact ⟨n, mem_channels n, by rw [if_pos passes, travel]; rfl⟩

theorem bandsWhere_lt {s : State} {p : ChState → Bool} : ∀ b ∈ s.bandsWhere p, b < 6 := by
  intro b hb
  obtain ⟨n, t, -, -, rfl⟩ := mem_bandsWhere.mp hb
  exact t.band.isLt

theorem bandsWhere_length (s : State) (p : ChState → Bool) : (s.bandsWhere p).length ≤ 4 := List.length_filterMap_le _ channels

/-- A band as a DRAW holds it, 15 for none, passes the check with the band it stands for (R128, R147). -/
theorem bandField_of {x : Nat} {l : List Nat} (bands : ∀ b ∈ l, b < 6) (none : l = [] → x = 15) (some : l ≠ [] → x ∈ l) :
    ∃ b, bandField (byteOf x) = Option.some b ∧ (b = Option.none ↔ l = []) ∧ (b.map (·.val)).getD 15 = x := by
  by_cases empty : l = []
  · obtain rfl := none empty
    exact ⟨Option.none, by decide, by simp [empty], rfl⟩
  · have lt := bands x (some empty)
    have read : (byteOf x).toNat = x := toNat_byteOf (by omega)
    refine ⟨Option.some ⟨x, lt⟩, ?_, by simp [empty], rfl⟩
    unfold bandField
    simp only [read]
    rw [dif_pos lt]

theorem bandField_mostUrgent (s : State) (p : ChState → Bool) :
    ∃ b, bandField (byteOf (mostUrgent (s.bandsWhere p))) = some b ∧ (b = none ↔ s.bandsWhere p = []) ∧
      (b.map (·.val)).getD 15 = mostUrgent (s.bandsWhere p) := by
  refine bandField_of bandsWhere_lt (fun empty => by rw [empty]; rfl) (fun some => ?_)
  exact (mostUrgent_spec some (fun b hb => Nat.lt_trans (bandsWhere_lt b hb) (by omega))).1

theorem bandField_leastUrgent (s : State) (p : ChState → Bool) :
    ∃ b, bandField (byteOf (leastUrgentBand (s.bandsWhere p))) = some b ∧ (b = none ↔ s.bandsWhere p = []) ∧
      (b.map (·.val)).getD 15 = leastUrgentBand (s.bandsWhere p) :=
  bandField_of bandsWhere_lt (fun empty => by rw [empty]; rfl) (fun some => (leastUrgentBand_spec some).1)

theorem drawFields_payload {c : DrawContent} {hold : Nat} {most least wait : Option Band} (circuit : c.circuit ≤ 15)
    (draw : c.draw ≤ 8000) (holds : hold ≤ 6000) (count : c.waitCount ≤ 4) (runMost : bandField (byteOf c.runMost) = some most)
    (runLeast : bandField (byteOf c.runLeast) = some least) (waitMost : bandField (byteOf c.waitMost) = some wait) :
    drawFields (Notice.payload (.draw c hold)) =
      some { circuit := c.circuit, draw := c.draw, hold := hold, runLeast := least, waitMost := wait } := by
  show drawFields [byteOf c.circuit, byteOf (c.draw / 256), byteOf c.draw, byteOf (hold / 256), byteOf hold, byteOf c.runMost,
    byteOf c.runLeast, byteOf c.waitMost, byteOf c.waitCount] = _
  unfold drawFields
  dsimp only
  rw [toNat_byteOf (n := c.circuit) (by omega), fromBe16_be16 (n := c.draw) (by omega), fromBe16_be16 (n := hold) (by omega),
    toNat_byteOf (n := c.waitCount) (by omega), if_pos ⟨circuit, draw, holds, count⟩, runMost, runLeast, waitMost]

/-- Settles O16: each field read back is the field sent, and within the range its check asks for. -/
theorem ownNoticesPassChecks : Obligations.OwnNoticesPassChecks := by
  unfold Obligations.OwnNoticesPassChecks
  refine ⟨fun phase age intensity ages codes => ?_, fun a v d assessment speed sector => ?_,
    fun s c hold circuit draw holds => ?_⟩
  · show wetnessFields [byteOf phase, byteOf (age / 256), byteOf age, byteOf intensity] = _
    unfold wetnessFields
    dsimp only
    rw [toNat_byteOf (n := phase) (by omega), toNat_byteOf (n := intensity) (by omega), fromBe16_be16 ages, if_pos codes]
  · show gustFields [byteOf (a / 256), byteOf a, byteOf (v / 256), byteOf v, byteOf d] = _
    unfold gustFields
    dsimp only
    rw [fromBe16_be16 (n := a) (by omega), fromBe16_be16 (n := v) (by omega), toNat_byteOf (n := d) (by omega),
      if_pos ⟨assessment, speed, sector⟩]
  · obtain ⟨most, mostField, -, -⟩ := bandField_mostUrgent s ChState.moving
    obtain ⟨least, leastField, leastNone, leastSame⟩ := bandField_leastUrgent s ChState.moving
    obtain ⟨wait, waitField, waitNone, waitSame⟩ := bandField_mostUrgent s ChState.isCandidate
    exact ⟨least, wait, drawFields_payload (c := s.drawContent c.circuit) circuit draw holds (bandsWhere_length _ _) mostField
      leastField waitField, leastNone, waitNone, leastSame, waitSame⟩

end Sys2Proof.Machine

namespace Sys2Proof.Machine
set_option Elab.async false

/-! ### What the ends of reads have in common -/

section

/-- Of a step for each channel, what its own step does to a channel's part that the other channels' steps leave. -/
theorem eachChannel_at {α : Type} (g : State → α) (f : Ch → State → State) (n : Ch) (step : α → α)
    (own : ∀ s, g (f n s) = step (g s)) (other : ∀ m s, m ≠ n → g (f m s) = g s) (s : State) :
    g (s.eachChannel f) = step (g s) := by
  have rest : ∀ (ns : List Ch) (u : State), n ∉ ns → g (ns.foldl (fun s m => f m s) u) = g u := by
    intro ns
    induction ns with
    | nil => exact fun _ _ => rfl
    | cons m ns ih =>
      intro u absent
      simp only [List.mem_cons, not_or] at absent
      exact (ih _ absent.2).trans (other m u (Ne.symm absent.1))
  have fold : ∀ (ns : List Ch) (u : State), ns.Nodup → n ∈ ns → g (ns.foldl (fun s m => f m s) u) = step (g u) := by
    intro ns
    induction ns with
    | nil => exact fun _ _ absent => absurd absent List.not_mem_nil
    | cons m ns ih =>
      intro u nodup mem
      obtain ⟨once, nodup⟩ := List.nodup_cons.mp nodup
      obtain rfl | later := List.mem_cons.mp mem
      · exact (rest ns _ once).trans (own u)
      · have ne : m ≠ n := fun e => once (e ▸ later)
        exact (ih _ nodup later).trans (congrArg step (other m u ne))
  exact fold channels s (by decide) (mem_channels n)

/-- What running to rest leaves alone, without frames that wait to be filed, the notices' timers and the restart's mark. -/
def State.outline (s : State) : State :=
  let k := s.kept
  { k with
    arb := { k.arb with travelAtRestart := false }
    line := { k.line with queue := [] }
    handler := { k.handler with inHand := none, refresh := none, gustTimer := none, lastGust := none } }

variable {s t : State}

theorem outline_of_kept (h : t.kept = s.kept) : t.outline = s.outline := by
  unfold State.outline
  rw [h]

theorem finish_outline (s : State) : s.finish.outline = s.outline := outline_of_kept (finish_kept s)

theorem judgeLamp_outline (s : State) : s.judgeLamp.outline = s.outline := outline_of_kept (judgeLamp_kept s)

theorem submitStates_outline (s : State) : s.submitStates.outline = s.outline :=
  eachChannel_keeps State.outline _ (fun n s => outline_of_kept (submitState_kept s n)) s

theorem submitGust_outline (s : State) : s.submitGust.outline = s.outline := by
  show (s.submit (.gust s.wind.assessment s.wind.lastSpeed s.vane.sector) 8).outline = s.outline
  exact outline_of_kept (submit_kept s _ _)

theorem offerGust_outline (s : State) : s.offerGust.outline = s.outline := by
  unfold State.offerGust
  split
  · exact submitGust_outline s
  · rfl

theorem takeNext_outline (s : State) : s.takeNext.outline = s.outline := rfl

theorem beginTaking_outline (s : State) : s.beginTaking.outline = s.outline := by
  unfold State.beginTaking
  split
  · exact takeNext_outline s
  · rfl

theorem holdForMaint_kept (s : State) (n : Ch) : (s.holdForMaint n).kept = s.kept := by
  unfold State.holdForMaint
  split
  · split
    · rfl
    · rfl
    · exact setState_kept s n .held
  · rfl

theorem holdForMaints_outline (s : State) : (s.eachChannel (fun n s => s.holdForMaint n)).outline = s.outline :=
  eachChannel_keeps State.outline _ (fun n s => outline_of_kept (holdForMaint_kept s n)) s

theorem startDeciding_outline (s : State) :
    s.startDeciding.outline = ({ s with eval := { s.eval with timer := some 10 } } : State).outline :=
  outline_of_kept ((askEval_kept _).trans (askReview_kept _))

theorem rereadWetness_outline (s : State) : s.rereadWetness.outline = s.outline := by
  unfold State.rereadWetness
  split
  · show (s.submit (.wetness 1 s.wetAge s.rain.intensity) _).outline = s.outline
    exact outline_of_kept (submit_kept s _ _)
  · rfl

theorem beginCondition_outline (s : State) (f : FlagId) :
    (s.beginCondition f).outline = { s.outline with flags := (s.beginCondition f).flags } := by
  unfold State.outline
  rw [beginCondition_kept]

theorem raiseAt_outline (s : State) (i : Fin 21) : (s.raiseAt i).outline = { s.outline with flags := (s.raiseAt i).flags } := by
  unfold State.outline
  rw [raiseAt_kept]

/-- A change that shows in the outline as flags alone stays so under further ones. -/
theorem outline_flags_trans {u : State} (h : u.outline = { t.outline with flags := u.flags })
    (h' : t.outline = { s.outline with flags := t.flags }) : u.outline = { s.outline with flags := u.flags } := by
  rw [h, h']

theorem outline_flags_self (s : State) : s.outline = { s.outline with flags := s.flags } := rfl

theorem raiseHolding_outline (s : State) : s.raiseHolding.outline = { s.outline with flags := s.raiseHolding.flags } := by
  have fold : ∀ (is : List (Fin 21)) (u : State), u.outline = { s.outline with flags := u.flags } →
      (is.foldl (fun s i => if (s.flags[i]'i.isLt).condition then s.raiseAt i else s) u).outline = { s.outline with
        flags := (is.foldl (fun s i => if (s.flags[i]'i.isLt).condition then s.raiseAt i else s) u).flags } := by
    intro is
    induction is with
    | nil => exact fun _ h => h
    | cons i is ih =>
      intro u h
      refine ih _ ?_
      dsimp only
      split
      · exact outline_flags_trans (raiseAt_outline u i) h
      · exact h
  exact fold flagOrder s rfl

/-- A chain of changes for each channel that shows in the outline as flags alone. -/
theorem eachChannel_outline_flags {f : Ch → State → State} (hf : ∀ n u, (f n u).outline = { u.outline with flags := (f n u).flags })
    (s : State) : (s.eachChannel f).outline = { s.outline with flags := (s.eachChannel f).flags } := by
  have fold : ∀ (ns : List Ch) (u : State), u.outline = { s.outline with flags := u.flags } →
      (ns.foldl (fun s n => f n s) u).outline = { s.outline with flags := (ns.foldl (fun s n => f n s) u).flags } := by
    intro ns
    induction ns with
    | nil => exact fun _ h => h
    | cons n ns ih => exact fun u h => ih _ (outline_flags_trans (hf n u) h)
  exact fold channels s rfl

/-! #### The first reading of the rain sensor (R57, R74) -/

/-- A configuration that a read accepts asks for at least a second of onset (R209). -/
theorem judgeImage_onset {own : Nat} {m : Memory} {c : RunCfg} (judged : judgeImage own m = some c) (fitted : c.rainFitted = true) :
    1 ≤ c.onsetConfirmS := by
  unfold judgeImage at judged
  split at judged
  · rename_i ok
    cases judged
    have fits : m.u8 0x012 = 1 := by simpa [Memory.runCfg] using fitted
    simp only [Memory.rainFieldsOk, fits, Bool.and_eq_true, Bool.or_eq_true, inRange, decide_eq_true_eq] at ok
    show 1 ≤ m.u8 0x013
    omega
  · cases judged

theorem keepRun_none (holds : Bool) : keepRun holds none = if holds then some 0 else none := by cases holds <;> rfl

theorem lasted_keepRun_none (holds : Bool) {ds : Nat} (h : 1 ≤ ds) : lasted (keepRun holds none) ds = false := by
  cases holds
  · rfl
  · exact decide_eq_false (by rw [Option.getD_none]; omega)

/-- A reading that changes the sensor state reports it; another one changes the sensor alone. -/
theorem takeRain_of_quiet {c : RunCfg} {r : Nat} {f : RainFront} (h : (s.rain.reads r).sense c r s.now = (f, .none)) :
    s.takeRain c r = { s with rain := f.captureStep c r } := by
  have h : ({ s.rain with latest := some r, latestNow := true } : RainFront).sense c r s.now = (f, .none) := h
  unfold State.takeRain
  rw [h]
  rfl

/-- The sensor before its first reading. -/
def RainFront.fresh : RainFront := { RainFront.reset with state := some .capturing }

theorem sense_fresh {c : RunCfg} (r now : Nat) (onset : 1 ≤ c.onsetConfirmS) :
    (RainFront.fresh.reads r).sense c r now =
      ({ RainFront.fresh.reads r with
          onsetRun := keepRun (decide (c.wetFloor ≤ r)) none, faultRun := keepRun (outOfRange r) none }, .none) := by
  have faultRun : lasted (keepRun (outOfRange r) none) 50 = false := lasted_keepRun_none _ (by omega)
  have onsetRun : lasted (keepRun (decide (c.wetFloor ≤ r)) none) (10 * c.onsetConfirmS) = false := lasted_keepRun_none _ (by omega)
  show RainFront.senseDry _ c r now = _
  unfold RainFront.senseDry
  exact (if_neg (Bool.eq_false_iff.mp faultRun)).trans (if_neg (Bool.eq_false_iff.mp onsetRun))

theorem captureStep_fresh {c : RunCfg} {r : Nat} (h : r < 1024) :
    ({ RainFront.fresh.reads r with
        onsetRun := keepRun (decide (c.wetFloor ≤ r)) none, faultRun := keepRun (outOfRange r) none } : RainFront).captureStep c r =
      RainFront.started c r := by
  have least : min 1023 r = r := by omega
  show RainFront.captureReading _ c r 0 1023 0 0 = _
  unfold RainFront.captureReading RainFront.started
  rw [keepRun_none, keepRun_none]
  by_cases wet : c.wetFloor ≤ r
  · simp [wet, RainFront.fresh, RainFront.reads, outOfRange]
  · simp [wet, RainFront.fresh, RainFront.reads, outOfRange, least]

/-- The first reading starts the sensor, and reports nothing. -/
theorem startRain_eq (s : State) {c : RunCfg} (pins : PinSample) (onset : 1 ≤ c.onsetConfirmS) :
    s.startRain c pins = { s with rain := RainFront.started c pins.rain.val } := by
  rw [← captureStep_fresh pins.rain.isLt]
  exact takeRain_of_quiet (s := { s with rain := RainFront.fresh }) (sense_fresh _ _ onset)

/-! #### The end of the start-up read -/

theorem startUpInvalid_outline (s : State) (image : Option Memory) : (s.startUpInvalid image).outline =
    (State.beginCondition { s with port := s.port.readEnded image none } .configStation).startListening.outline := by
  unfold State.startUpInvalid
  dsimp only
  rw [beginTaking_outline, judgeLamp_outline, submitStates_outline]

/-- The state of a start-up read that has ended VALID, with its blocks started. -/
def State.startedUp (s : State) (image : Memory) (c : RunCfg) (pins : PinSample) : State :=
  let e := s.adopted image c pins
  { e with
    rain := if c.rainFitted then RainFront.started c pins.rain.val else e.rain
    wind := if c.anemFitted then e.wind.start pins.anem else e.wind
    vane := if c.vaneFitted && c.anemFitted then { sector := c.sector pins.van2 pins.van1 pins.van0, candidate := none } else e.vane
    arb := { e.arb with listening := some 110, lastDraw := DrawContent.final c.circuit }
    handler := { e.handler with isolation := some (10 * c.isolationS) }
    panel := e.panel.startJudging c
    eval := { e.eval with timer := some 10 } }

theorem startWeather_eq (s : State) {c : RunCfg} (pins : PinSample) (onset : c.rainFitted = true → 1 ≤ c.onsetConfirmS) :
    s.startWeather c pins = { s with
      rain := if c.rainFitted then RainFront.started c pins.rain.val else s.rain
      wind := if c.anemFitted then s.wind.start pins.anem else s.wind
      vane := if c.vaneFitted && c.anemFitted then { sector := c.sector pins.van2 pins.van1 pins.van0, candidate := none }
        else s.vane } := by
  have rain : (if c.rainFitted then s.startRain c pins else s) =
      { s with rain := if c.rainFitted then RainFront.started c pins.rain.val else s.rain } := by
    split
    · rename_i fitted
      exact startRain_eq s pins (onset fitted)
    · rfl
  unfold State.startWeather
  rw [rain]
  dsimp only
  split <;> split <;> rfl

theorem startUpValid_outline (s : State) (image : Memory) {c : RunCfg} (pins : PinSample)
    (onset : c.rainFitted = true → 1 ≤ c.onsetConfirmS) :
    (s.startUpValid image c pins).outline = (s.startedUp image c pins).outline := by
  unfold State.startUpValid
  dsimp only
  have timer (u : State) : ({ u with eval := { u.eval with timer := some 10 } } : State).outline =
      { u.outline with eval := { u.outline.eval with timer := some 10 } } := rfl
  rw [finish_outline, startDeciding_outline, timer, beginTaking_outline, judgeLamp_outline, offerGust_outline, submitStates_outline,
    holdForMaints_outline, startWeather_eq _ pins onset]
  rfl

end

end Sys2Proof.Machine

namespace Sys2Proof.Machine
set_option Elab.async false

/-! ### A flag as its condition begins (R184, R185) -/

/-- What the begin of a condition makes of its flag: raised, unless the mark is set already. -/
def Flag.begun (x : Flag) : Flag := if x.condition then x else { raised := true, condition := true }

theorem Flag.begun_spec (x : Flag) : x.begun.condition = true ∧ (x.condition = false → x.begun.raised = true) := by
  unfold Flag.begun
  split
  · rename_i begun
    exact ⟨begun, fun clear => by rw [begun] at clear; cases clear⟩
  · exact ⟨rfl, fun _ => rfl⟩

theorem setCondition_flag (s : State) (f g : FlagId) (b : Bool) :
    (s.setCondition f b).flag g = if g = f then { s.flag f with condition := b } else s.flag g := by
  unfold State.flag State.setCondition
  rw [setFlag_raised]
  by_cases same : g = f
  · rw [if_pos same, if_pos (congrArg FlagId.index same)]
  · rw [if_neg same, if_neg (fun e => same (FlagId.index_injective e))]

theorem raise_flag (s : State) (f g : FlagId) : (s.raise f).flag g = if g = f then { s.flag f with raised := true } else s.flag g := by
  unfold State.flag State.raise
  rw [raiseAt_flags]
  by_cases same : g = f
  · rw [if_pos same, if_pos (congrArg FlagId.index same)]
  · rw [if_neg same, if_neg (fun e => same (FlagId.index_injective e))]

theorem beginCondition_flag (s : State) (f g : FlagId) : (s.beginCondition f).flag g = if g = f then (s.flag f).begun else s.flag g := by
  unfold State.beginCondition Flag.begun
  split
  · rename_i begun
    split
    · rename_i same
      rw [same]
    · rfl
  · rename_i clear
    rw [raise_flag, setCondition_flag, setCondition_flag, if_pos rfl]
    split
    · rfl
    · rfl

theorem beginCondition_flag_self (s : State) (f : FlagId) :
    ((s.beginCondition f).flag f).condition = true ∧ ((s.flag f).condition = false → ((s.beginCondition f).flag f).raised = true) := by
  rw [beginCondition_flag, if_pos rfl]
  exact (s.flag f).begun_spec

theorem flag_of_flags {s t : State} (h : t.flags = s.flags) (f : FlagId) : t.flag f = s.flag f := congrArg (·[f.index]) h

/-- The flags by their places. -/
theorem exists_flagId (i : Fin 21) : ∃ f : FlagId, f.index = i := by
  refine ⟨flagAt i, ?_⟩
  revert i
  decide

/-! ### Reads that fail (R208) -/

section

variable {s t : State}

theorem startUpInvalid_flags (s : State) (image : Option Memory) : (s.startUpInvalid image).flags =
    (State.beginCondition { s with port := s.port.readEnded image none } .configStation).flags :=
  congrArg (·.flags) (startUpInvalid_outline s image)

theorem sensed_of_outline {u v : State} (h : u.outline.units = v.outline.units) (n : Ch) : (u.units[n]'n.isLt).sensed = (v.units[n]'n.isLt).sensed := by
  have := congrArg (fun x : Vector ChanUnit 4 => x[n]'n.isLt) h
  simpa [State.outline, State.kept] using this

theorem marks_of_outline {u v : State} (h : u.outline.recs = v.outline.recs) (n : Ch) : (u.recs[n]'n.isLt).marks = (v.recs[n]'n.isLt).marks := by
  have := congrArg (fun x : Vector ChanRec 4 => x[n]'n.isLt) h
  simpa [State.outline, State.kept] using this

/-! #### The end of the reread -/

theorem rereadEval_outline (s : State) (new : Option RunCfg) : (s.rereadEval new).outline =
    { s.outline with eval := { s.outline.eval with timer := new.map (fun _ => 10) } } := by
  cases new with
  | none => rfl
  | some c => exact startDeciding_outline s

/-- The panel at the end of a reread (R181, R182). -/
def Panel.reread (p : Panel) : Option RunCfg → Panel
  | none => p.restart
  | some c => p.startJudging c

theorem rereadPanel_outline (s : State) (new : Option RunCfg) : (s.rereadPanel new).outline = (s.setPanel (s.panel.reread new)).outline := by
  cases new with
  | none => rfl
  | some c => exact holdForMaints_outline _

theorem submitDraw_outline (s : State) (c : DrawContent) (h : Nat) : (s.submitDraw c h).outline = s.outline :=
  outline_of_kept (submitDraw_kept s c h)

theorem rereadDraw_outline (s : State) (old new : Option RunCfg) :
    (s.rereadDraw old new).outline = s.outline ∧ (s.rereadDraw old new).panel = s.panel := by
  unfold State.rereadDraw
  split
  · exact ⟨submitDraw_outline s _ _, State.submit_panel s _ _⟩
  · exact ⟨rfl, rfl⟩

/-- The state in which the end of a reread has turned to the sensors and to isolation. -/
def State.rereadSensed (s : State) (image : Option Memory) (new : Option RunCfg) (pins : PinSample) : State :=
  ((((s.rereadStart image new pins).rereadRain s.port.config new pins).rereadAnem s.port.config new pins).rereadVane
    s.port.config new pins).rereadIsolation new

/-- The state in which the end of a reread turns to the flags. -/
def State.rereadReported (s : State) (image : Option Memory) (new : Option RunCfg) (pins : PinSample) : State :=
  ((((s.rereadSensed image new pins).startListening.rereadDraw s.port.config new).rereadPanel new).submitStates.offerGust).rereadWetness

theorem rereadEnd_eq (s : State) (image : Option Memory) (new : Option RunCfg) (pins : PinSample) :
    s.rereadEnd image new pins = (((s.rereadReported image new pins).raiseHolding.rereadEval new).judgeLamp).finish := rfl

theorem setPanel_outline {u v : State} (h : u.outline = v.outline) (p : Panel) : (u.setPanel p).outline = (v.setPanel p).outline := by
  have eq (x : State) : (x.setPanel p).outline = { x.outline with panel := { p with standing := .off, patternAge := 0 } } := rfl
  rw [eq u, eq v, h]

theorem rereadReported_outline (s : State) (image : Option Memory) (new : Option RunCfg) (pins : PinSample) :
    (s.rereadReported image new pins).outline = ((s.rereadSensed image new pins).startListening.setPanel
        ((s.rereadSensed image new pins).panel.reread new)).outline := by
  obtain ⟨outline, panel⟩ := rereadDraw_outline (s.rereadSensed image new pins).startListening s.port.config new
  unfold State.rereadReported
  rw [rereadWetness_outline, offerGust_outline, submitStates_outline, rereadPanel_outline, panel]
  exact setPanel_outline outline _

theorem rereadDecided_outline (u : State) (new : Option RunCfg) : ((u.raiseHolding.rereadEval new).judgeLamp).finish.outline =
    { u.outline with flags := u.raiseHolding.flags, eval := { u.outline.eval with timer := new.map (fun _ => 10) } } := by
  have raised := raiseHolding_outline u
  generalize u.raiseHolding = w at raised ⊢
  have decided := rereadEval_outline w new
  generalize w.rereadEval new = x at decided ⊢
  rw [finish_outline, judgeLamp_outline, decided, raised]

/-- A step for each flag that turns its own flag by `g`, and no other, turns every flag by `g`. -/
theorem flagOrder_foldl_flags {f : State → Fin 21 → State} {g : Flag → Flag} (idem : ∀ x, g (g x) = g x)
    (step : ∀ (u : State) (j i : Fin 21), (f u j).flags[i] = if i = j then g (u.flags[i]'i.isLt) else u.flags[i]'i.isLt)
    (s : State) (i : Fin 21) : (flagOrder.foldl f s).flags[i] = g (s.flags[i]'i.isLt) := by
  have fold : ∀ (is : List (Fin 21)) (u : State),
      (is.foldl f u).flags[i] = if i ∈ is then g (u.flags[i]'i.isLt) else u.flags[i]'i.isLt := by
    intro is
    induction is with
    | nil => exact fun u => rfl
    | cons j is ih =>
      intro u
      rw [List.foldl_cons, ih, step]
      by_cases same : i = j
      · simp only [same, if_true, List.mem_cons, true_or, idem, ite_self]
      · simp only [List.mem_cons, same, false_or, if_false]
  exact (fold flagOrder s).trans (if_pos (List.mem_finRange i))

/-- The raises of R191 leave every flag that has its mark set raised, and no mark changed. -/
theorem raiseHolding_flags (s : State) (i : Fin 21) :
    s.raiseHolding.flags[i].condition = (s.flags[i]'i.isLt).condition ∧
      s.raiseHolding.flags[i].raised = ((s.flags[i]'i.isLt).raised || (s.flags[i]'i.isLt).condition) := by
  have flag := flagOrder_foldl_flags (f := fun s i => if (s.flags[i]'i.isLt).condition then s.raiseAt i else s)
    (g := fun x => { x with raised := x.raised || x.condition }) (fun x => by simp only [Bool.or_assoc, Bool.or_self])
    (fun u j i => ?_) s i
  · unfold State.raiseHolding
    rw [flag]
    exact ⟨rfl, rfl⟩
  · cases holds : (u.flags[j]'j.isLt).condition with
    | true =>
      rw [if_pos rfl, raiseAt_flags]
      by_cases same : i = j
      · subst same
        rw [if_pos rfl, if_pos rfl]
        exact congrArg (fun b => ({ raised := b, condition := _ } : Flag)) (by rw [holds, Bool.or_true])
      · rw [if_neg same, if_neg same]
    | false =>
      rw [if_neg Bool.false_ne_true]
      by_cases same : i = j
      · subst same
        rw [if_pos rfl]
        exact flag_eq_of_raised (by rw [holds, Bool.or_false])
      · rw [if_neg same]

/-! #### What neither sensors, isolation nor flags show -/

/-- The outline without the blocks that the end of a reread turns to: clock, units, marks, supply and listening, panel, timer. -/
def State.rim (s : State) : State :=
  { s.outline with
    port := Port.reset, rain := RainFront.reset, wind := WindFront.reset, vane := { sector := 8, candidate := none }
    handler := Handler.reset, flags := State.reset.flags }

theorem rim_of_outline (h : t.outline = s.outline) : t.rim = s.rim := by
  unfold State.rim
  rw [h]

theorem rim_of_flags (h : t.outline = { s.outline with flags := t.flags }) : t.rim = s.rim := by
  unfold State.rim
  rw [h]

theorem setCondition_rim (s : State) (f : FlagId) (b : Bool) : (s.setCondition f b).rim = s.rim := rfl

theorem rereadConditions_rim (s : State) (new : Option RunCfg) : (s.rereadConditions new).rim = s.rim := by
  unfold State.rereadConditions
  dsimp only
  rw [eachChannel_keeps State.rim _ (fun n u => setCondition_rim u _ _), setCondition_rim]

theorem rereadChannel_rim (n : Ch) (s : State) : (State.rereadChannel n s).rim = s.rim := by
  unfold State.rereadChannel
  split
  · rfl
  · exact (setCondition_rim _ _ _).trans ((setCondition_rim _ _ _).trans (rim_of_outline (outline_of_kept (toStill_kept s n))))

/-- The units take a read's configuration; nothing else changes. -/
theorem adoptUnits_outline (s : State) (was : Ch → Bool) (pins : PinSample) :
    (s.adoptUnits was pins).outline = { s.outline with units := (s.adoptUnits was pins).units.map ChanUnit.sensed } := by
  have fold : ∀ (ns : List Ch) (u : State), u.outline = { s.outline with units := u.units.map ChanUnit.sensed } →
      (ns.foldl (fun s n => match s.chan? n with
        | none => s
        | some k => s.setUnit n (if was n then (s.units[n]'n.isLt).readopt k else (s.units[n]'n.isLt).adopt k (pins.enc[n]))) u).outline = { s.outline with
          units := (ns.foldl (fun s n => match s.chan? n with
            | none => s
            | some k => s.setUnit n (if was n then (s.units[n]'n.isLt).readopt k else (s.units[n]'n.isLt).adopt k (pins.enc[n]))) u).units.map
              ChanUnit.sensed } := by
    intro ns
    induction ns with
    | nil => exact fun _ h => h
    | cons n ns ih =>
      intro u h
      refine ih _ ?_
      dsimp only
      split
      · exact h
      · have set (x : ChanUnit) : (u.setUnit n x).outline = { u.outline with units := (u.setUnit n x).units.map ChanUnit.sensed } := rfl
        rw [set, h]
  exact fold channels s rfl

theorem adoptUnits_rim (s : State) (was : Ch → Bool) (pins : PinSample) :
    (s.adoptUnits was pins).rim = { s.rim with units := (s.adoptUnits was pins).units.map ChanUnit.sensed } := by
  unfold State.rim
  rw [adoptUnits_outline]

theorem rereadStart_rim (s : State) (image : Option Memory) (new : Option RunCfg) (pins : PinSample) :
    (s.rereadStart image new pins).rim = { s.rim with units := (s.rereadStart image new pins).units.map ChanUnit.sensed } := by
  unfold State.rereadStart
  rw [adoptUnits_rim, eachChannel_keeps State.rim _ rereadChannel_rim, rereadConditions_rim]
  rfl

theorem rereadRain_rim (s : State) (old new : Option RunCfg) (pins : PinSample)
    (onset : ∀ c, new = some c → c.rainFitted = true → 1 ≤ c.onsetConfirmS) : (s.rereadRain old new pins).rim = s.rim := by
  obtain ⟨-, eq⟩ | ⟨c, isNew, fitted, ⟨-, eq⟩ | ⟨-, eq⟩⟩ := rereadRain_cases s old new pins <;> rw [eq]
  · rfl
  · rw [startRain_eq s pins (onset c isNew fitted)]
    rfl

theorem rereadAnem_rim (s : State) (old new : Option RunCfg) (pins : PinSample) : (s.rereadAnem old new pins).rim = s.rim := by
  unfold State.rereadAnem
  split
  · split <;> rfl
  · rfl

theorem rereadVane_rim (s : State) (old new : Option RunCfg) (pins : PinSample) : (s.rereadVane old new pins).rim = s.rim := by
  unfold State.rereadVane
  split
  · rfl
  · split
    · rfl
    · split <;> rfl

theorem rereadIsolation_rim (s : State) (new : Option RunCfg) : (s.rereadIsolation new).rim = s.rim := by
  unfold State.rereadIsolation
  split
  · rfl
  · split <;> rfl

theorem rereadSensed_rim (s : State) (image : Option Memory) (new : Option RunCfg) (pins : PinSample)
    (onset : ∀ c, new = some c → c.rainFitted = true → 1 ≤ c.onsetConfirmS) :
    (s.rereadSensed image new pins).rim = { s.rim with units := (s.rereadStart image new pins).units.map ChanUnit.sensed } := by
  unfold State.rereadSensed
  rw [rereadIsolation_rim, rereadVane_rim, rereadAnem_rim, rereadRain_rim _ _ _ _ onset, rereadStart_rim]

/-- Of clock, units, marks, supply, panel and timer, what the end of a reread leaves. -/
theorem rereadEnd_rim (s : State) (image : Option Memory) (new : Option RunCfg) (pins : PinSample)
    (onset : ∀ c, new = some c → c.rainFitted = true → 1 ≤ c.onsetConfirmS) :
    (s.rereadEnd image new pins).rim = { s.rim with
      units := (s.rereadStart image new pins).units.map ChanUnit.sensed
      arb := { s.rim.arb with listening := some 110 }
      panel := { (s.rereadSensed image new pins).panel.reread new with standing := .off, patternAge := 0 }
      eval := { s.rim.eval with timer := new.map (fun _ => 10) } } := by
  have sensed := rereadSensed_rim s image new pins onset
  have reported := rereadReported_outline s image new pins
  rw [rereadEnd_eq]
  generalize s.rereadReported image new pins = u at reported ⊢
  generalize s.rereadSensed image new pins = v at sensed reported ⊢
  have decided := rereadDecided_outline u new
  generalize State.finish _ = t at decided ⊢
  have rim : t.rim = { u.rim with eval := { u.rim.eval with timer := new.map (fun _ => 10) } } := by
    unfold State.rim
    rw [decided]
  have before : u.rim = { v.rim with
      arb := { v.rim.arb with listening := some 110 }
      panel := { v.panel.reread new with standing := .off, patternAge := 0 } } := rim_of_outline reported
  rw [rim, before, sensed]

/-! #### Flags and marks after a read -/

theorem outline_flags (s : State) : s.outline.flags = s.flags := rfl

theorem rereadEnd_flags (s : State) (image : Option Memory) (new : Option RunCfg) (pins : PinSample) :
    (s.rereadEnd image new pins).flags = (s.rereadReported image new pins).raiseHolding.flags := by
  rw [rereadEnd_eq]
  generalize s.rereadReported image new pins = u
  have decided := congrArg State.flags (rereadDecided_outline u new)
  dsimp only at decided
  rwa [outline_flags] at decided

/-- After a reread every flag that has its mark set is raised (R191). -/
theorem rereadEnd_raised (s : State) (image : Option Memory) (new : Option RunCfg) (pins : PinSample) (i : Fin 21)
    (holds : ((s.rereadEnd image new pins).flags[i]).condition = true) : ((s.rereadEnd image new pins).flags[i]).raised = true := by
  rw [rereadEnd_flags] at holds ⊢
  obtain ⟨condition, raised⟩ := raiseHolding_flags (s.rereadReported image new pins) i
  rw [raised, ← condition, holds, Bool.or_true]

theorem rereadEnd_configMark (s : State) (image : Option Memory) (new : Option RunCfg) (pins : PinSample) :
    ((s.rereadEnd image new pins).flag .configStation).condition = new.isNone := by
  have mark := mark_of_block (f := .configStation) rfl (rereadEnd_port s image new pins)
  rwa [setCondition_mark, if_pos rfl] at mark

/-- A command that ends a read leaves every count. -/
theorem read_count {c : Instr} (h : exec c s = .next t) (read : isRead c = true) (n : Ch) : (t.units[n]'n.isLt).count = (s.units[n]'n.isLt).count := by
  obtain same | ⟨⟨a, b, i, rfl⟩, -⟩ | ⟨⟨p, q, rfl | rfl | rfl⟩, -⟩ | ⟨⟨straps, enc, panel, anem, rfl⟩, -⟩ :=
    countMovesOnlyByItsChannel c s t n h
  · exact same
  all_goals cases read

theorem marks_of_rim {u v : State} (h : u.rim.recs = v.rim.recs) (n : Ch) : (u.recs[n]'n.isLt).marks = (v.recs[n]'n.isLt).marks := marks_of_outline h n

theorem startUpInvalid_rim (s : State) (image : Option Memory) :
    (s.startUpInvalid image).rim = { s.rim with arb := { s.rim.arb with listening := some 110 } } := by
  have begun := rim_of_flags (beginCondition_outline { s with port := s.port.readEnded image none } .configStation)
  refine (rim_of_outline (startUpInvalid_outline s image)).trans ?_
  exact congrArg (fun x : State => { x with arb := { x.arb with listening := some 110 } }) begun

theorem referenced_of_marks {x y : ChanRec} (h : x.marks = y.marks) : x.referenced = y.referenced := congrArg (·.referenced) h

theorem consoleHold_of_marks {x y : ChanRec} (h : x.marks = y.marks) : x.consoleHold = y.consoleHold := congrArg (·.consoleHold) h

/-- Settles O17: a failed last try ends the read with no image, at start-up or after a restart; both leave counts and marks. -/
theorem readTries : Obligations.ReadTries := by
  unfold Obligations.ReadTries
  refine ⟨fun s k read more => ?_, fun s k read => ?_, fun s k read last => ?_⟩
  · show execReadTryFailed s = _
    unfold execReadTryFailed
    rw [read]
    exact if_pos more
  · show execReadRetryExpiry s = _
    unfold execReadRetryExpiry
    rw [read]
  · have ends : exec .readTryFailed s = .next (if s.port.restart then s.rereadEnd none none PinSample.blank else s.startUpInvalid none) := by
      show execReadTryFailed s = _
      unfold execReadTryFailed
      rw [read]
      dsimp only
      rw [if_neg (by omega)]
      split <;> rfl
    cases pending : s.port.restart <;> rw [pending] at ends
    · obtain ⟨-, ended, image, config, restart⟩ := block_port (startUpInvalid_port s none)
      rw [beginCondition_port] at ended image config restart
      have rim := startUpInvalid_rim s none
      have marks := marks_of_rim (congrArg (·.recs) rim)
      obtain ⟨condition, raised⟩ := beginCondition_flag_self { s with port := s.port.readEnded none none } .configStation
      have flag := flag_of_flags (startUpInvalid_flags s none) .configStation
      exact ⟨_, ends, ended, image, config, restart, congrArg (·.arb.listening) rim, flag ▸ condition, fun clear => flag ▸ raised clear,
        congrArg (·.now) rim, fun n => ⟨read_count ends rfl n, referenced_of_marks (marks n), consoleHold_of_marks (marks n)⟩⟩
    · obtain ⟨-, ended, image, config, restart⟩ := block_port (rereadEnd_port s none none PinSample.blank)
      have mark := rereadEnd_configMark s none none PinSample.blank
      have lit (holds : ((s.rereadEnd none none PinSample.blank).flag .configStation).condition = true) :=
        rereadEnd_raised s none none PinSample.blank FlagId.configStation.index holds
      have rim := rereadEnd_rim s none none PinSample.blank (fun _ valid => nomatch valid)
      generalize s.rereadEnd none none PinSample.blank = t at *
      have marks := marks_of_rim (congrArg (·.recs) rim)
      exact ⟨_, ends, ended, image, config, restart, congrArg (·.arb.listening) rim, mark,
        fun _ => lit mark, congrArg (·.now) rim,
        fun n => ⟨read_count ends rfl n, referenced_of_marks (marks n), consoleHold_of_marks (marks n)⟩⟩

end

end Sys2Proof.Machine

namespace Sys2Proof.Machine
set_option Elab.async false

/-! ### The end of the start-up read (R212) -/

section

variable {s t : State}

/-- What a channel's unit takes of a read's configuration (R3, R21). -/
theorem adoptUnits_unit (s : State) (was : Ch → Bool) (pins : PinSample) (n : Ch) :
    (s.adoptUnits was pins).units[n] = (match s.chan? n with
      | none => s.units[n]'n.isLt
      | some k => if was n then (s.units[n]'n.isLt).readopt k else (s.units[n]'n.isLt).adopt k (pins.enc[n])) := by
  have at_ := eachChannel_at (fun u : State => (u.chan? n, u.units[n]'n.isLt))
    (fun n s => match s.chan? n with
      | none => s
      | some k => s.setUnit n (if was n then (s.units[n]'n.isLt).readopt k else (s.units[n]'n.isLt).adopt k (pins.enc[n]))) n
    (fun x => (x.1, match x.1 with
      | none => x.2
      | some k => if was n then x.2.readopt k else x.2.adopt k (pins.enc[n]))) ?_ ?_ s
  · exact congrArg Prod.snd at_
  · intro u
    dsimp only
    split
    · rename_i none
      rw [none]
    · rename_i k chan
      rw [chan, setUnit_unit, if_pos rfl]
      exact congrArg (·, _) chan
  · intro m u ne
    split
    · rfl
    · rw [setUnit_unit, if_neg (Ne.symm ne)]
      rfl

/-- The channels that the read finds in error begin their CONFIG conditions (R210). -/
theorem channelErrors_flag (s : State) (c : RunCfg) (n : Ch) :
    (s.eachChannel (fun n s => if c.inError n then s.beginCondition (.configChannel n) else s)).flag (.configChannel n) =
      if c.inError n then (s.flag (.configChannel n)).begun else s.flag (.configChannel n) := by
  refine eachChannel_at (State.flag · (.configChannel n)) (fun n s => if c.inError n then s.beginCondition (.configChannel n) else s) n
    (fun x => if c.inError n then x.begun else x) ?_ ?_ s
  · intro u
    split
    · rw [beginCondition_flag, if_pos rfl]
    · rfl
  · intro m u ne
    split
    · rw [beginCondition_flag, if_neg (fun e => ne (FlagId.configChannel.inj e).symm)]
    · rfl

theorem channelErrors_outline (s : State) (c : RunCfg) :
    (s.eachChannel (fun n s => if c.inError n then s.beginCondition (.configChannel n) else s)).outline = { s.outline with
      flags := (s.eachChannel (fun n s => if c.inError n then s.beginCondition (.configChannel n) else s)).flags } := by
  refine eachChannel_outline_flags (fun n u => ?_) s
  split
  · exact beginCondition_outline u _
  · rfl

theorem adoptUnits_flags (s : State) (was : Ch → Bool) (pins : PinSample) : (s.adoptUnits was pins).flags = s.flags := by
  have flags := congrArg State.flags (adoptUnits_outline s was pins)
  dsimp only at flags
  rwa [outline_flags, outline_flags] at flags

theorem adopted_outline (s : State) (image : Memory) (c : RunCfg) (pins : PinSample) :
    (s.adopted image c pins).outline = { s.outline with
      port := { s.port.readEnded (some image) (some c) with session := none, store := none }
      flags := (s.adopted image c pins).flags
      units := (s.adopted image c pins).units.map ChanUnit.sensed } := by
  have units := adoptUnits_outline (State.eachChannel { s with port := s.port.readEnded (some image) (some c) }
    (fun n s => if c.inError n then s.beginCondition (.configChannel n) else s)) (fun _ => false) pins
  have errors := channelErrors_outline { s with port := s.port.readEnded (some image) (some c) } c
  have flags := adoptUnits_flags (State.eachChannel { s with port := s.port.readEnded (some image) (some c) }
    (fun n s => if c.inError n then s.beginCondition (.configChannel n) else s)) (fun _ => false) pins
  unfold State.adopted
  generalize State.eachChannel _ _ = u at units errors flags ⊢
  generalize u.adoptUnits _ pins = v at units flags ⊢
  rw [units, errors, flags]
  rfl

/-- The unit of a channel that the read finds fitted. -/
theorem adopted_unit (s : State) (image : Memory) {c : RunCfg} (pins : PinSample) {n : Ch} {k : ChanCfg} (fit : c.chans[n]'n.isLt = .fitted k) :
    (s.adopted image c pins).units[n] = (s.units[n]'n.isLt).adopt k (pins.enc[n]) := by
  have units : (State.eachChannel { s with port := s.port.readEnded (some image) (some c) }
      (fun n s => if c.inError n then s.beginCondition (.configChannel n) else s)).units = s.units :=
    eachChannel_keeps State.units (fun n s => if c.inError n then s.beginCondition (.configChannel n) else s) (fun n u => by
      split
      · exact beginCondition_units u _
      · rfl) _
  have config : (State.eachChannel { s with port := s.port.readEnded (some image) (some c) }
      (fun n s => if c.inError n then s.beginCondition (.configChannel n) else s)).port.config = some c :=
    eachChannel_keeps (fun u => u.port.config) (fun n s => if c.inError n then s.beginCondition (.configChannel n) else s) (fun n u => by
      split
      · exact congrArg Port.config (beginCondition_port u _)
      · rfl) _
  unfold State.adopted
  rw [adoptUnits_unit, chan?_iff.mpr ⟨c, config, fit⟩, units]
  rfl

theorem startUpValid_judged (s : State) (image : Memory) (c : RunCfg) (pins : PinSample) : (s.startUpValid image c pins).Judged := by
  obtain ⟨-, read, -, config, -⟩ := block_port (startUpValid_port s image c pins)
  unfold State.startUpValid at read config ⊢
  dsimp only at read config ⊢
  generalize State.beginTaking _ = u at read config ⊢
  rw [kept_read (finish_kept _)] at read
  rw [kept_config (finish_kept _)] at config
  obtain ⟨-, read', -, config', -⟩ := block_port (startDeciding_block u .port)
  exact finish_judged_of_due _ (startDeciding_due (config'.symm.trans config) (read'.symm.trans read))

theorem execConfigReadEnd_of_read {bytes : List Byte} (pins : PinSample) {own k : Nat} (address : s.port.ownAddress = some own)
    (read : s.port.read = .reading k false) (first : s.port.restart = false) (length : bytes.length = 2048) :
    (judgeImage own (Memory.ofBytes 0 bytes) = none →
      exec (.configReadEnd bytes pins) s = .next (s.startUpInvalid (some (Memory.ofBytes 0 bytes)))) ∧
    ∀ c, judgeImage own (Memory.ofBytes 0 bytes) = some c →
      exec (.configReadEnd bytes pins) s = .next (s.startUpValid (Memory.ofBytes 0 bytes) c pins) := by
  have taken : (s.takesBytes bytes && !s.port.restart) = true := by
    rw [first, (takesBytes_iff s bytes).mpr ⟨⟨k, read⟩, length⟩]
    rfl
  have ends : execConfigReadEnd bytes pins s = match judgeImage own (Memory.ofBytes 0 bytes) with
      | none => .next (s.startUpInvalid (some (Memory.ofBytes 0 bytes)))
      | some c => .next (s.startUpValid (Memory.ofBytes 0 bytes) c pins) := by
    unfold execConfigReadEnd
    rw [address]
    exact if_pos taken
  refine ⟨fun invalid => ?_, fun c valid => ?_⟩
  · rw [invalid] at ends
    exact ends
  · rw [valid] at ends
    exact ends

theorem startUpInvalid_units (s : State) (image : Option Memory) : (s.startUpInvalid image).units = s.units := by
  have begun := beginCondition_units { s with port := s.port.readEnded image none } .configStation
  unfold State.startUpInvalid State.beginTaking
  dsimp only
  generalize State.beginCondition _ _ = u at begun ⊢
  have states : u.startListening.submitStates.units = u.units :=
    eachChannel_keeps State.units (fun n v => v.submitState n) (fun n v => submitState_units v n) u.startListening
  split
  · exact (State.judgeLamp_units _).trans (states.trans begun)
  · exact (State.judgeLamp_units _).trans (states.trans begun)

theorem startUpInvalid_eval (s : State) (image : Option Memory) : (s.startUpInvalid image).eval = s.eval := by
  unfold State.startUpInvalid
  rw [beginTaking_eval, State.judgeLamp_eval, submitStates_eval]
  exact beginCondition_eval _ _

/-- Settles O18: an image judged INVALID leaves station CONFIG and the listening interval; one judged VALID starts every block
(`State.startedUp`), and a review agrees with it. -/
theorem configReadEnds : Obligations.ConfigReadEnds := by
  unfold Obligations.ConfigReadEnds
  intro bytes pins s own k address read first length
  obtain ⟨invalid, valid⟩ := execConfigReadEnd_of_read pins address read first length
  generalize Memory.ofBytes 0 bytes = m at *
  cases judged : judgeImage own m with
  | none =>
    have ends := invalid judged
    obtain ⟨-, ended, image, config, -⟩ := block_port (startUpInvalid_port s (some m))
    rw [beginCondition_port] at ended image config
    have rim := startUpInvalid_rim s (some m)
    have marks := marks_of_rim (congrArg (·.recs) rim)
    obtain ⟨condition, raised⟩ := beginCondition_flag_self { s with port := s.port.readEnded (some m) none } .configStation
    have flag := flag_of_flags (startUpInvalid_flags s (some m)) .configStation
    exact ⟨_, ends, ended, image, config, congrArg (·.now) rim, congrArg (·.arb.listening) rim,
      fun n => ⟨read_count ends rfl n, referenced_of_marks (marks n), consoleHold_of_marks (marks n)⟩,
      fun _ => ⟨startUpInvalid_units s _, startUpInvalid_eval s _, flag ▸ condition, fun clear => flag ▸ raised clear⟩, (fun _ valid => nomatch valid)⟩
  | some c =>
    have ends := valid c judged
    obtain ⟨-, ended, image, config, -⟩ := block_port (startUpValid_port s m c pins)
    have outline := startUpValid_outline s m pins (judgeImage_onset judged)
    have adopted := adopted_outline s m c pins
    obtain ⟨wind, -⟩ := startUpValid_wind s m c pins
    have vane := startUpValid_vane s m c pins
    have agreed := startUpValid_judged s m c pins
    have count := read_count ends rfl
    have unit (n : Ch) (k : ChanCfg) (fit : c.chans[n]'n.isLt = .fitted k) := adopted_unit s m pins fit
    have flag (n : Ch) : (s.adopted m c pins).flag (.configChannel n) = if c.inError n then (s.flag (.configChannel n)).begun
        else s.flag (.configChannel n) := by
      have errors := channelErrors_flag { s with port := s.port.readEnded (some m) (some c) } c n
      unfold State.adopted
      generalize State.eachChannel _ _ = u at errors ⊢
      exact (flag_of_flags (adoptUnits_flags u _ pins) _).trans errors
    refine ⟨_, ends, ended, image, config, ?_⟩
    generalize s.startUpValid m c pins = t at *
    unfold State.startedUp at outline
    generalize s.adopted m c pins = e at *
    have panel : t.panel.judging = true ∧ t.panel.active = c.activeOf e.panel.levels :=
      ⟨congrArg (·.panel.judging) outline, congrArg (·.panel.active) outline⟩
    have levels : e.panel.levels = s.panel.levels := congrArg (·.panel.levels) adopted
    have rain : t.rain = if c.rainFitted then RainFront.started c pins.rain.val else e.rain := congrArg (·.rain) outline
    have rain' : e.rain = s.rain := congrArg (·.rain) adopted
    have now : e.now = s.now := congrArg (·.now) adopted
    have marks (n : Ch) : (t.recs[n]'n.isLt).marks = (s.recs[n]'n.isLt).marks :=
      (marks_of_outline (v := e) (congrArg (·.recs) outline) n).trans (marks_of_outline (congrArg (·.recs) adopted) n)
    have sensed (n : Ch) : (t.units[n]'n.isLt).sensed = (e.units[n]'n.isLt).sensed := sensed_of_outline (v := e) (congrArg (·.units) outline) n
    have flags : t.flags = e.flags := congrArg (·.flags) outline
    refine ⟨(congrArg (·.now) outline).trans now, congrArg (·.arb.listening) outline,
      fun n => ⟨count n, referenced_of_marks (marks n), consoleHold_of_marks (marks n)⟩, (fun invalid => nomatch invalid), ?_⟩
    rintro _ ⟨⟩
    refine ⟨agreed, congrArg (·.eval.timer) outline, congrArg (·.handler.isolation) outline, panel.1, levels ▸ panel.2,
      fun fit => ?_, fun vaneFit anemFit => ?_, fun fit => ?_, fun unfit => ?_, fun n => ⟨fun k fit => ?_, fun bad => ?_⟩⟩
    · rw [wind, if_pos fit]
      exact ⟨rfl, rfl, rfl, rfl, rfl, rfl, rfl⟩
    · rw [vane, vaneFit, anemFit]
      rfl
    · rw [rain, if_pos fit]
    · rw [rain, unfit, rain']
      rfl
    · have sensed := (sensed n).trans (congrArg ChanUnit.sensed (unit n k fit))
      refine ⟨congrArg (·.accA) sensed, congrArg (·.accI) sensed, congrArg (·.heldA) sensed, fun ne => ?_, fun single => ?_⟩
      · exact ⟨(congrArg (·.accB) sensed).trans (if_neg ne), (congrArg (·.heldB) sensed).trans (if_neg ne)⟩
      · exact (congrArg (·.accB) sensed).trans (if_pos single)
    · have begun := flag n
      rw [if_pos (show c.inError n = true from decide_eq_true bad)] at begun
      rw [flag_of_flags flags, begun]
      exact Flag.begun_spec _

end

end Sys2Proof.Machine

namespace Sys2Proof.Machine
set_option Elab.async false

/-! ### The end of the reread (R214) -/

section

variable {s t : State}

/-! #### What it starts from -/

/-- A change of the state that keeps every channel's state, and the port. -/
def State.SameChannels (t s : State) : Prop := t.recs = s.recs ∧ t.port = s.port

theorem State.SameChannels.trans {u : State} (h : t.SameChannels s) (h' : s.SameChannels u) : t.SameChannels u :=
  ⟨h.1.trans h'.1, h.2.trans h'.2⟩

/-- Rain sensor, isolation and the marks of the other flags, as the end of a reread finds them when it turns to the sensors. -/
theorem rereadStart_sensors (s : State) (image : Option Memory) (new : Option RunCfg) (pins : PinSample) :
    (s.rereadStart image new pins).rain = s.rain ∧ (s.rereadStart image new pins).handler.isolated = s.handler.isolated ∧
      (s.rereadStart image new pins).handler.isolation = s.handler.isolation := by
  have channels (u : State) : (u.eachChannel State.rereadChannel).outline.rain = u.outline.rain ∧
      (u.eachChannel State.rereadChannel).outline.handler = u.outline.handler := by
    have both := eachChannel_keeps (fun u => (u.outline.rain, u.outline.handler)) State.rereadChannel (fun n u => by
      unfold State.rereadChannel
      split
      · rfl
      · have still := outline_of_kept (toStill_kept u n)
        generalize u.toStill n = v at still ⊢
        have ended : ((v.endCondition (.obstruction n)).endCondition (.encoder n)).outline.rain = v.outline.rain ∧
            ((v.endCondition (.obstruction n)).endCondition (.encoder n)).outline.handler = v.outline.handler := ⟨rfl, rfl⟩
        rw [ended.1, ended.2, still]) u
    exact Prod.mk.inj both
  have conditions (u : State) : (u.rereadConditions new).outline.rain = u.outline.rain ∧
      (u.rereadConditions new).outline.handler = u.outline.handler := by
    have both := eachChannel_keeps (fun u => (u.outline.rain, u.outline.handler))
      (fun n s => s.setCondition (.configChannel n) (match new with
        | none => false
        | some c => c.inError n)) (fun _ _ => rfl) (u.setCondition .configStation new.isNone)
    exact Prod.mk.inj both
  have units := adoptUnits_outline (State.eachChannel (State.rereadConditions { s with port := s.port.readEnded image new } new)
    State.rereadChannel) (fun n => s.port.config.any (fun c => match c.chans[n]'n.isLt with
      | .fitted _ => true
      | _ => false)) pins
  unfold State.rereadStart
  obtain ⟨rain', handler'⟩ := conditions { s with port := s.port.readEnded image new }
  generalize State.rereadConditions _ new = u at *
  obtain ⟨rain, handler⟩ := channels u
  generalize u.eachChannel State.rereadChannel = v at *
  generalize v.adoptUnits _ pins = w at *
  have rain := (congrArg (·.rain) units).trans (rain.trans rain')
  have handler := (congrArg (·.handler) units).trans (handler.trans handler')
  have isolated := congrArg (·.isolated) handler
  have isolation := congrArg (·.isolation) handler
  exact ⟨rain, isolated, isolation⟩

theorem adoptUnits_recs (s : State) (was : Ch → Bool) (pins : PinSample) : (s.adoptUnits was pins).recs = s.recs :=
  eachChannel_keeps State.recs (fun n s => match s.chan? n with
    | none => s
    | some k => s.setUnit n (if was n then (s.units[n]'n.isLt).readopt k else (s.units[n]'n.isLt).adopt k (pins.enc[n]))) (fun n u => by
    split <;> rfl) s

theorem adoptUnits_port (s : State) (was : Ch → Bool) (pins : PinSample) : (s.adoptUnits was pins).port = s.port :=
  eachChannel_keeps State.port (fun n s => match s.chan? n with
    | none => s
    | some k => s.setUnit n (if was n then (s.units[n]'n.isLt).readopt k else (s.units[n]'n.isLt).adopt k (pins.enc[n]))) (fun n u => by
    split <;> rfl) s

theorem rereadStart_recs (s : State) (image : Option Memory) (new : Option RunCfg) (pins : PinSample) :
    (s.rereadStart image new pins).recs =
      ((State.rereadConditions { s with port := s.port.readEnded image new } new).eachChannel State.rereadChannel).recs := by
  unfold State.rereadStart
  exact adoptUnits_recs _ _ pins

theorem fitted_of_config (h : t.port.config = s.port.config) (n : Ch) : t.fitted n = s.fitted n :=
  congrArg Option.isSome (chan?_of_config h n)

theorem rereadChannel_config (n : Ch) (s : State) : (State.rereadChannel n s).port.config = s.port.config :=
  block_config (rereadChannel_block s n .port)

/-- A channel that a reread leaves unfitted becomes STILL (R54). -/
theorem rereadChannels_still (s : State) (n : Ch) (unfit : s.fitted n = false) :
    (s.eachChannel State.rereadChannel).stateOf n = .still := by
  have at_ := eachChannel_at (fun u => (u.fitted n, u.stateOf n)) State.rereadChannel n
    (fun x => (x.1, if x.1 then x.2 else .still)) (fun u => ?_) (fun m u ne => ?_) s
  · dsimp only at at_
    rw [unfit] at at_
    exact congrArg Prod.snd at_
  · refine Prod.ext (fitted_of_config (rereadChannel_config n u) n) ?_
    unfold State.rereadChannel
    split
    · rfl
    · exact stateOf_setState u n .still
  · refine Prod.ext (fitted_of_config (rereadChannel_config m u) n) ?_
    unfold State.rereadChannel
    split
    · rfl
    · exact stateOf_setState_ne u m n .still (Ne.symm ne)

/-! #### The sensors -/

/-- The rain sensor at the end of a reread (R75). -/
def RainFront.reread (f : RainFront) (old new : Option RunCfg) (r : Nat) : RainFront :=
  match new with
  | none => RainFront.reset
  | some c => if c.rainFitted then if old.any (·.rainFitted) then f else RainFront.started c r else RainFront.reset

/-- The vane at the end of a reread (R71, R75). -/
def VaneFront.reread (f : VaneFront) (old new : Option RunCfg) (pins : PinSample) : VaneFront :=
  match new with
  | none => { sector := 8, candidate := none }
  | some c =>
    if !c.vaneUsed then { sector := 8, candidate := none }
    else if old.any RunCfg.vaneUsed then f
    else { sector := c.sector pins.van2 pins.van1 pins.van0, candidate := none }

theorem rereadAnem_rest (s : State) (old new : Option RunCfg) (pins : PinSample) :
    (s.rereadAnem old new pins).rain = s.rain ∧ (s.rereadAnem old new pins).SameChannels s ∧
      (s.rereadAnem old new pins).handler.isolated = s.handler.isolated ∧
      (s.rereadAnem old new pins).handler.isolation = s.handler.isolation := by
  unfold State.rereadAnem
  split
  · split <;> exact ⟨rfl, ⟨rfl, rfl⟩, rfl, rfl⟩
  · exact ⟨rfl, ⟨rfl, rfl⟩, rfl, rfl⟩

theorem rereadVane_eq (s : State) (old new : Option RunCfg) (pins : PinSample) :
    s.rereadVane old new pins = { s with vane := s.vane.reread old new pins } := by
  unfold State.rereadVane VaneFront.reread
  cases new with
  | none => rfl
  | some c =>
    dsimp only
    split
    · rfl
    · split <;> rfl

theorem rereadIsolation_rest (s : State) (new : Option RunCfg) :
    (s.rereadIsolation new).rain = s.rain ∧ (s.rereadIsolation new).SameChannels s ∧ (s.rereadIsolation new).vane = s.vane ∧
      (s.rereadIsolation new).handler.lastGust = s.handler.lastGust ∧ (s.rereadIsolation new).handler.gustTimer = s.handler.gustTimer ∧
      (new = none → (s.rereadIsolation new).handler.isolated = false ∧ (s.rereadIsolation new).handler.isolation = none) ∧
      (new.isSome = true → (s.rereadIsolation new).handler.isolated = s.handler.isolated) := by
  unfold State.rereadIsolation
  cases new with
  | none => exact ⟨rfl, ⟨rfl, rfl⟩, rfl, rfl, rfl, fun _ => ⟨rfl, rfl⟩, nofun⟩
  | some c =>
    dsimp only
    split <;> exact ⟨rfl, ⟨rfl, rfl⟩, rfl, rfl, rfl, nofun, fun _ => rfl⟩

theorem rereadRain_eq (s : State) (old new : Option RunCfg) (pins : PinSample)
    (onset : ∀ c, new = some c → c.rainFitted = true → 1 ≤ c.onsetConfirmS) :
    (s.rereadRain old new pins).rain = s.rain.reread old new pins.rain.val ∧
      (s.rereadRain old new pins).SameChannels s ∧ (s.rereadRain old new pins).vane = s.vane ∧
      (s.rereadRain old new pins).handler = s.handler := by
  unfold State.rereadRain RainFront.reread
  cases new with
  | none => exact ⟨rfl, ⟨rfl, rfl⟩, rfl, rfl⟩
  | some c =>
    dsimp only
    cases fit : c.rainFitted
    · exact ⟨rfl, ⟨rfl, rfl⟩, rfl, rfl⟩
    · cases was : old.any (·.rainFitted)
      · rw [startRain_eq s pins (onset c rfl fit)]
        exact ⟨rfl, ⟨rfl, rfl⟩, rfl, rfl⟩
      · exact ⟨rfl, ⟨rfl, rfl⟩, rfl, rfl⟩

/-- What the sensors and isolation are when the end of a reread has turned to them. -/
theorem rereadSensed_sensors (s : State) (image : Option Memory) (new : Option RunCfg) (pins : PinSample)
    (onset : ∀ c, new = some c → c.rainFitted = true → 1 ≤ c.onsetConfirmS) :
    (s.rereadSensed image new pins).rain = s.rain.reread s.port.config new pins.rain.val ∧
      (s.rereadSensed image new pins).SameChannels (s.rereadStart image new pins) ∧
      (s.rereadSensed image new pins).vane = s.vane.reread s.port.config new pins ∧
      (new = none → (s.rereadSensed image new pins).handler.isolated = false ∧
        (s.rereadSensed image new pins).handler.isolation = none) ∧
      (new.isSome = true → (s.rereadSensed image new pins).handler.isolated = s.handler.isolated) ∧
      (new.any (·.anemFitted) = false → (s.rereadSensed image new pins).handler.lastGust = none ∧
        (s.rereadSensed image new pins).handler.gustTimer = none) := by
  obtain ⟨rain, isolated, -⟩ := rereadStart_sensors s image new pins
  have vane := block_vane (rereadStart_block_same s image new pins (b := .vane) (by decide))
  unfold State.rereadSensed
  generalize s.rereadStart image new pins = a at *
  obtain ⟨rain', recs', vane', handler'⟩ := rereadRain_eq a s.port.config new pins onset
  generalize a.rereadRain s.port.config new pins = b at *
  obtain ⟨rain'', recs'', isolated'', -⟩ := rereadAnem_rest b s.port.config new pins
  have vane'' := block_vane (rereadAnem_block b s.port.config new pins (b := .vane) (by decide))
  have gust'' : new.any (·.anemFitted) = false → (b.rereadAnem s.port.config new pins).handler.lastGust = none ∧
      (b.rereadAnem s.port.config new pins).handler.gustTimer = none := fun unfit => by
    unfold State.rereadAnem
    rw [unfit]
    exact ⟨rfl, rfl⟩
  generalize b.rereadAnem s.port.config new pins = c at *
  rw [rereadVane_eq c]
  obtain ⟨rain4, recs4, vane4, gust4, timer4, none4, some4⟩ := rereadIsolation_rest ({ c with vane := c.vane.reread s.port.config new pins } : State) new
  refine ⟨rain4.trans (rain''.trans (rain'.trans ?_)), recs4.trans (State.SameChannels.trans ⟨rfl, rfl⟩ (recs''.trans recs')), vane4.trans ?_, none4, fun valid => ?_,
    fun unfit => ?_⟩
  · rw [rain]
  · dsimp only
    rw [vane'', vane', vane]
  · rw [some4 valid]
    exact isolated''.trans ((congrArg (·.isolated) handler').trans isolated)
  · rw [gust4, timer4]
    exact gust'' unfit

/-! #### What follows the sensors -/

theorem submitStates_kept (s : State) : s.submitStates.kept = s.kept :=
  eachChannel_keeps State.kept _ (fun n u => submitState_kept u n) s

/-- The GUST last sent and its period. -/
def State.lastReport (s : State) : Option (Nat × Nat) × Timer := (s.handler.lastGust, s.handler.gustTimer)

theorem lastReport_of_kept (h : t.kept = s.kept) : t.lastReport = s.lastReport := by
  have handler := congrArg (·.handler) h
  exact Prod.ext (congrArg (·.lastGust) handler) (congrArg (·.gustTimer) handler)

theorem raiseHolding_kept (s : State) : s.raiseHolding.kept = { s.kept with flags := s.raiseHolding.flags } := by
  have fold : ∀ (is : List (Fin 21)) (u : State), u.kept = { s.kept with flags := u.flags } →
      (is.foldl (fun s i => if (s.flags[i]'i.isLt).condition then s.raiseAt i else s) u).kept = { s.kept with
        flags := (is.foldl (fun s i => if (s.flags[i]'i.isLt).condition then s.raiseAt i else s) u).flags } := by
    intro is
    induction is with
    | nil => exact fun _ h => h
    | cons i is ih =>
      intro u h
      refine ih _ ?_
      dsimp only
      split
      · rw [raiseAt_kept, h]
      · exact h
  exact fold flagOrder s rfl

theorem rereadEval_handler (s : State) (new : Option RunCfg) : (s.rereadEval new).kept.handler = s.kept.handler := by
  cases new with
  | none => rfl
  | some c =>
    have asked := (askEval_kept _).trans (askReview_kept { s with eval := { s.eval with timer := some 10 } })
    exact congrArg (·.handler) asked

/-- The end of a reread leaves the handler's timers as its reports leave them. -/
theorem rereadEnd_handler (s : State) (image : Option Memory) (new : Option RunCfg) (pins : PinSample) :
    (s.rereadEnd image new pins).kept.handler = (s.rereadReported image new pins).kept.handler := by
  rw [rereadEnd_eq]
  generalize s.rereadReported image new pins = u
  have raised := congrArg (·.handler) (raiseHolding_kept u)
  generalize u.raiseHolding = v at raised ⊢
  have decided := rereadEval_handler v new
  generalize v.rereadEval new = w at decided ⊢
  rw [finish_kept, judgeLamp_kept, decided, raised]

theorem rereadWetness_cases (s : State) :
    s.rain.state = some .wet ∧ s.rereadWetness = (s.submitWetness 1 s.wetAge s.rain.intensity).setRefresh (some 600) ∨
      s.rain.state ≠ some .wet ∧ s.rereadWetness = s := by
  unfold State.rereadWetness
  by_cases wet : s.rain.state = some .wet
  · exact .inl ⟨wet, if_pos wet⟩
  · exact .inr ⟨wet, if_neg wet⟩

/-- A reread that finds the sensor WET sends WETNESS at once and starts its period (R165). -/
theorem rereadEnd_refresh (s : State) (image : Option Memory) (new : Option RunCfg) (pins : PinSample)
    (wet : (s.rereadReported image new pins).rain.state = some .wet) : (s.rereadEnd image new pins).handler.refresh = some 600 := by
  refine (congrArg (·.refresh) (rereadEnd_handler s image new pins)).trans ?_
  unfold State.rereadReported at wet ⊢
  generalize State.offerGust _ = u at wet ⊢
  obtain ⟨-, eq⟩ | ⟨dry, eq⟩ := rereadWetness_cases u <;> rw [eq] at wet ⊢
  · rfl
  · exact absurd wet dry

theorem rereadDraw_handler (s : State) (old new : Option RunCfg) : (s.rereadDraw old new).kept.handler = s.kept.handler := by
  unfold State.rereadDraw
  split
  · have sent := submitDraw_kept s
    exact congrArg (·.handler) (sent _ _)
  · rfl

theorem rereadPanel_handler (s : State) (new : Option RunCfg) : (s.rereadPanel new).kept.handler = s.kept.handler := by
  cases new with
  | none => rfl
  | some c =>
    have held := eachChannel_keeps State.kept (fun n u => u.holdForMaint n) (fun n u => holdForMaint_kept u n)
      (s.setPanel (s.panel.startJudging c))
    exact congrArg (·.handler) held

theorem rereadDraw_config (s : State) (old new : Option RunCfg) : (s.rereadDraw old new).port.config = s.port.config :=
  block_config (rereadDraw_block s old new .port)

/-- Where no anemometer is fitted, the report stays withdrawn. -/
theorem rereadEnd_unreported (s : State) (image : Option Memory) (new : Option RunCfg) (pins : PinSample)
    (unfit : new.any (·.anemFitted) = false) :
    (s.rereadEnd image new pins).handler.lastGust = (s.rereadSensed image new pins).handler.lastGust ∧
      (s.rereadEnd image new pins).handler.gustTimer = (s.rereadSensed image new pins).handler.gustTimer := by
  have ended := rereadEnd_handler s image new pins
  have config : (s.rereadSensed image new pins).port.config = new := by
    have same := (rereadEnd_block s image new pins .port).symm.trans (rereadEnd_port s image new pins)
    exact block_config same
  have reported : (s.rereadReported image new pins).kept.handler.lastGust = (s.rereadSensed image new pins).handler.lastGust ∧
      (s.rereadReported image new pins).kept.handler.gustTimer = (s.rereadSensed image new pins).handler.gustTimer := by
    unfold State.rereadReported
    generalize s.rereadSensed image new pins = u at config ⊢
    have draw := rereadDraw_handler u.startListening s.port.config new
    have config' : (u.startListening.rereadDraw s.port.config new).port.config = new := (rereadDraw_config _ _ _).trans config
    generalize u.startListening.rereadDraw s.port.config new = v at draw config' ⊢
    have panel := rereadPanel_handler v new
    have config2 : (v.rereadPanel new).port.config = new := (block_config (rereadPanel_block v new .port)).trans config'
    generalize v.rereadPanel new = w at panel config2 ⊢
    have states := submitStates_kept w
    have config3 : w.submitStates.port.config = new := (kept_config states).trans config2
    have handler : w.submitStates.kept.handler = u.kept.handler := (congrArg (·.handler) states).trans (panel.trans draw)
    generalize w.submitStates = x at config3 handler ⊢
    have offered : x.offerGust = x := by
      have withheld : x.reportOffered = false := by
        unfold State.reportOffered
        rw [config3]
        cases new with
        | none => rfl
        | some c =>
          dsimp only [Option.any] at unfit ⊢
          rw [unfit]
          rfl
      unfold State.offerGust
      rw [withheld]
      rfl
    rw [offered]
    have wetness : x.rereadWetness.kept.handler.lastGust = x.kept.handler.lastGust ∧
        x.rereadWetness.kept.handler.gustTimer = x.kept.handler.gustTimer := by
      obtain ⟨-, eq⟩ | ⟨-, eq⟩ := rereadWetness_cases x <;> rw [eq]
      · have sent := congrArg (·.handler) (submit_kept x (.wetness 1 x.wetAge x.rain.intensity) 9)
        exact ⟨congrArg (·.lastGust) sent, congrArg (·.gustTimer) sent⟩
      · exact ⟨rfl, rfl⟩
    rw [wetness.1, wetness.2, handler]
    exact ⟨rfl, rfl⟩
  exact ⟨(congrArg (·.lastGust) ended).trans reported.1, (congrArg (·.gustTimer) ended).trans reported.2⟩

/-- Rain sensor, vane and isolation after a reread are those that its turn of the sensors leaves. -/
theorem rereadEnd_sensors (s : State) (image : Option Memory) (new : Option RunCfg) (pins : PinSample) :
    (s.rereadEnd image new pins).rain = (s.rereadSensed image new pins).rain ∧
      (s.rereadReported image new pins).rain = (s.rereadSensed image new pins).rain ∧
      (s.rereadEnd image new pins).vane = (s.rereadSensed image new pins).vane ∧
      (s.rereadEnd image new pins).handler.isolated = (s.rereadSensed image new pins).handler.isolated ∧
      (s.rereadEnd image new pins).handler.isolation = (s.rereadSensed image new pins).handler.isolation := by
  have reported := rereadReported_outline s image new pins
  rw [rereadEnd_eq]
  generalize s.rereadReported image new pins = u at reported ⊢
  generalize s.rereadSensed image new pins = v at reported ⊢
  have decided := rereadDecided_outline u new
  generalize State.finish _ = t at decided ⊢
  exact ⟨(congrArg (·.rain) decided).trans (congrArg (·.rain) reported), congrArg (·.rain) reported,
    (congrArg (·.vane) decided).trans (congrArg (·.vane) reported),
    (congrArg (·.handler.isolated) decided).trans (congrArg (·.handler.isolated) reported),
    (congrArg (·.handler.isolation) decided).trans (congrArg (·.handler.isolation) reported)⟩

end

end Sys2Proof.Machine

namespace Sys2Proof.Machine
set_option Elab.async false

section

variable {s t : State}

/-! #### The marks of CONFIG (R191) -/

theorem rereadConditions_mark (s : State) (new : Option RunCfg) (n : Ch) :
    (s.rereadConditions new).mark (.configChannel n) = new.any (·.inError n) := by
  have at_ := eachChannel_at (State.mark · (.configChannel n)) (fun n s => s.setCondition (.configChannel n) (match new with
      | none => false
      | some c => c.inError n)) n (fun _ => match new with
      | none => false
      | some c => c.inError n) (fun u => ?_) (fun m u ne => ?_) (s.setCondition .configStation new.isNone)
  · refine Eq.trans at_ ?_
    cases new <;> rfl
  · rw [setCondition_mark, if_pos rfl]
  · rw [setCondition_mark, if_neg (fun e => ne (FlagId.configChannel.inj e).symm)]

/-- Flags of which the turn of the sensors, or of a channel left unfitted, says nothing. -/
theorem rereadChannel_mark (m n : Ch) (s : State) : (State.rereadChannel m s).mark (.configChannel n) = s.mark (.configChannel n) := by
  unfold State.rereadChannel
  split
  · rfl
  · rw [endCondition_mark, if_neg nofun, endCondition_mark, if_neg nofun]
    exact mark_of_flags (kept_flags (toStill_kept s m)) _

theorem rereadStart_mark (s : State) (image : Option Memory) (new : Option RunCfg) (pins : PinSample) (n : Ch) :
    (s.rereadStart image new pins).mark (.configChannel n) = new.any (·.inError n) := by
  have conditions := rereadConditions_mark { s with port := s.port.readEnded image new } new n
  unfold State.rereadStart
  generalize State.rereadConditions _ new = u at conditions ⊢
  rw [mark_of_flags (adoptUnits_flags _ _ pins), eachChannel_keeps (State.mark · (.configChannel n)) State.rereadChannel
    (fun m u => rereadChannel_mark m n u), conditions]

theorem rereadRain_mark (s : State) (old new : Option RunCfg) (pins : PinSample) (n : Ch)
    (onset : ∀ c, new = some c → c.rainFitted = true → 1 ≤ c.onsetConfirmS) :
    (s.rereadRain old new pins).mark (.configChannel n) = s.mark (.configChannel n) := by
  obtain ⟨-, eq⟩ | ⟨c, isNew, fit, ⟨-, eq⟩ | ⟨-, eq⟩⟩ := rereadRain_cases s old new pins <;> rw [eq]
  · rw [endCondition_mark, if_neg nofun]
    rfl
  · rw [startRain_eq s pins (onset c isNew fit)]
    rfl

theorem rereadAnem_mark (s : State) (old new : Option RunCfg) (pins : PinSample) (n : Ch) :
    (s.rereadAnem old new pins).mark (.configChannel n) = s.mark (.configChannel n) := by
  unfold State.rereadAnem
  split
  · split <;> rfl
  · refine (mark_of_flags (s := State.endCondition _ .windSensor) rfl _).trans ?_
    rw [endCondition_mark, if_neg nofun]
    rfl

theorem rereadIsolation_mark (s : State) (new : Option RunCfg) (n : Ch) :
    (s.rereadIsolation new).mark (.configChannel n) = s.mark (.configChannel n) := by
  unfold State.rereadIsolation
  split
  · rw [endCondition_mark, if_neg nofun]
    rfl
  · split <;> rfl

/-- After a reread the CONFIG marks of the channels are what it found. -/
theorem rereadEnd_channelMark (s : State) (image : Option Memory) (new : Option RunCfg) (pins : PinSample) (n : Ch)
    (onset : ∀ c, new = some c → c.rainFitted = true → 1 ≤ c.onsetConfirmS) :
    (s.rereadEnd image new pins).mark (.configChannel n) = new.any (·.inError n) := by
  have vane (u : State) : (u.rereadVane s.port.config new pins).mark (.configChannel n) = u.mark (.configChannel n) := by
    rw [rereadVane_eq]
    rfl
  have sensed : (s.rereadSensed image new pins).mark (.configChannel n) = new.any (·.inError n) := by
    unfold State.rereadSensed
    rw [rereadIsolation_mark, vane, rereadAnem_mark, rereadRain_mark _ _ _ _ _ onset, rereadStart_mark]
  have reported : (s.rereadReported image new pins).flags = (s.rereadSensed image new pins).flags := by
    have outline := rereadReported_outline s image new pins
    generalize s.rereadReported image new pins = u at outline ⊢
    generalize s.rereadSensed image new pins = v at outline ⊢
    exact congrArg (·.flags) outline
  rw [mark_of_flags (rereadEnd_flags s image new pins)]
  exact (raiseHolding_flags _ _).1.trans ((mark_of_flags reported _).trans sensed)

/-! #### A channel left unfitted (R54) -/

theorem eachChannel_invariant {P : State → Prop} {f : Ch → State → State} (hf : ∀ n u, P u → P (f n u)) (h : P s) :
    P (s.eachChannel f) := by
  have fold : ∀ (ns : List Ch) (u : State), P u → P (ns.foldl (fun s n => f n s) u) := by
    intro ns
    induction ns with
    | nil => exact fun _ h => h
    | cons n ns ih => exact fun u h => ih _ (hf n u h)
  exact fold channels s h

/-- The channel is unfitted and STILL, and no learn session runs. -/
def State.Unused (s : State) (n : Ch) : Prop := s.fitted n = false ∧ s.learnChannel? = none ∧ s.stateOf n = .still

theorem State.Unused.of_same {n : Ch} (h : s.Unused n) (same : t.SameChannels s) : t.Unused n :=
  ⟨(fitted_of_config (congrArg (·.config) same.2) n).trans h.1,
    (congrArg (fun p : Port => p.session.map Session.channel) same.2).trans h.2.1, (congrArg (·[n].state) same.1).trans h.2.2⟩

theorem fitted_of_kept (h : t.kept = s.kept) (n : Ch) : t.fitted n = s.fitted n := fitted_of_config (kept_config h) n

theorem State.Unused.holdForMaint {n : Ch} (h : s.Unused n) (m : Ch) : (s.holdForMaint m).Unused n := by
  obtain ⟨unfit, learn, still⟩ := h
  refine ⟨(fitted_of_kept (holdForMaint_kept s m) n).trans unfit, ?_⟩
  unfold State.holdForMaint
  split
  · rename_i held
    have ne : n ≠ m := by
      rintro rfl
      rw [unfit] at held
      cases held
    split
    · exact ⟨learn, still⟩
    · exact ⟨learn, still⟩
    · exact ⟨(setState_port s m .held).channel.trans learn, (stateOf_setState_ne s m n _ ne).trans still⟩
  · exact ⟨learn, still⟩

/-- No review or evaluation sets a channel moving that is not fitted. -/
theorem State.Unused.finish {n : Ch} (h : s.Unused n) (due : s.deciding = true → s.reviewDue = true) : s.finish.stateOf n = .still := by
  obtain ⟨unfit, own, still⟩ := h
  have unreached (u : State) (kept : u.kept = s.kept) : u.needReaches n ≠ true := by
    unfold State.needReaches
    rw [fitted_of_kept kept, unfit]
    simp
  refine finish_channel (Q := (· = .still)) (fun deciding => .inr (due deciding)) still
    (fun u new kept _ _ _ still turn => ?_) (fun u x kept _ _ _ _ created => ?_)
  · have bare : u.travel? n = none := by rw [State.travel?, still]; rfl
    cases turn with
    | openBarred | openAbove | reduced | lost | dropLearn | admitDone => rfl
    | reclamp x k y d travel | admitted x _ travel => cases bare.symm.trans travel
    | bandClose x b o reaches | bandReference x reaches | retarget x y d reaches => exact absurd reaches (unreached u kept)
    | maintHold learn => cases own.symm.trans learn
    | yield x running | upgrade x _ running => cases still.symm.trans running
  · cases created with
    | close b o reaches | reference reaches | reduce y d reaches => exact absurd reaches (unreached u kept)

theorem submitStates_same (s : State) : s.submitStates.SameChannels s :=
  ⟨eachChannel_keeps State.recs (fun n u => u.submitState n) (fun n u => submitState_recs u n) s,
    eachChannel_keeps State.port (fun n u => u.submitState n) (fun n u => submitState_port u n) s⟩

theorem rereadDraw_same (s : State) (old new : Option RunCfg) : (s.rereadDraw old new).SameChannels s := by
  unfold State.rereadDraw
  split
  · exact ⟨submitDraw_recs s _ _, submitDraw_port s _ _⟩
  · exact ⟨rfl, rfl⟩

theorem offerGust_same (s : State) : s.offerGust.SameChannels s := by
  unfold State.offerGust
  split
  · exact ⟨State.submit_recs s _ _, State.submit_port s _ _⟩
  · exact ⟨rfl, rfl⟩

theorem rereadWetness_same (s : State) : s.rereadWetness.SameChannels s := by
  obtain ⟨-, eq⟩ | ⟨-, eq⟩ := rereadWetness_cases s <;> rw [eq]
  · exact ⟨State.submit_recs s _ _, State.submit_port s _ _⟩
  · exact ⟨rfl, rfl⟩

theorem raiseHolding_same (s : State) : s.raiseHolding.SameChannels s := by
  have fold : ∀ (is : List (Fin 21)) (u : State),
      (is.foldl (fun s i => if (s.flags[i]'i.isLt).condition then s.raiseAt i else s) u).SameChannels u := by
    intro is
    induction is with
    | nil => exact fun _ => ⟨rfl, rfl⟩
    | cons i is ih =>
      intro u
      refine (ih _).trans ?_
      dsimp only
      split
      · exact ⟨raiseAt_recs u i, raiseAt_port u i⟩
      · exact ⟨rfl, rfl⟩
  exact fold flagOrder s

theorem rereadEval_same (s : State) (new : Option RunCfg) : (s.rereadEval new).SameChannels s := by
  cases new with
  | none => exact ⟨rfl, rfl⟩
  | some c =>
    exact ⟨(State.askEval_recs _).trans (State.askReview_recs { s with eval := { s.eval with timer := some 10 } }),
      (State.askEval_port _).trans (State.askReview_port { s with eval := { s.eval with timer := some 10 } })⟩

/-- A reread that ends VALID makes a review; one that ends INVALID needs none. -/
theorem rereadEval_due {new : Option RunCfg} (config : s.port.config = new) (ended : s.port.read = .ended) :
    (s.rereadEval new).judgeLamp.deciding = true → (s.rereadEval new).judgeLamp.reviewDue = true := by
  intro deciding
  cases new with
  | none =>
    have none : (s.rereadEval none).judgeLamp.port.config = none := by
      rw [State.judgeLamp_port]
      exact config
    obtain ⟨c, some, -⟩ := deciding_iff.mp deciding
    cases none.symm.trans some
  | some c =>
    rw [State.judgeLamp_reviewDue]
    exact startDeciding_due config ended

theorem rereadReported_port (s : State) (image : Option Memory) (new : Option RunCfg) (pins : PinSample) :
    (s.rereadReported image new pins).raiseHolding.port.config = new ∧
      (s.rereadReported image new pins).raiseHolding.port.read = .ended := by
  have ended := rereadEnd_port s image new pins
  rw [rereadEnd_eq, finish_block, judgeLamp_block, rereadEval_block] at ended
  obtain ⟨-, read, -, config, -⟩ := block_port ended
  exact ⟨config, read⟩

theorem rereadEnd_judged (s : State) (image : Option Memory) (new : Option RunCfg) (pins : PinSample) :
    (s.rereadEnd image new pins).Judged := by
  obtain ⟨config, read⟩ := rereadReported_port s image new pins
  rw [rereadEnd_eq]
  generalize State.raiseHolding _ = u at config read ⊢
  have due := rereadEval_due config read
  generalize State.judgeLamp _ = v at due ⊢
  by_cases deciding : v.deciding = true
  · exact finish_judged_of_due v (due deciding)
  · intro c config reread
    have config' := (kept_config (finish_kept v)).symm.trans config
    have reread' := (kept_rereading (finish_kept v)).symm.trans reread
    exact absurd (deciding_iff.mpr ⟨c, config', reread'⟩) deciding

theorem rereadPanel_unused {n : Ch} (new : Option RunCfg) (h : s.Unused n) : (s.rereadPanel new).Unused n := by
  cases new with
  | none => exact h.of_same ⟨rfl, rfl⟩
  | some c =>
    exact eachChannel_invariant (P := (State.Unused · n)) (fun m _ hu => hu.holdForMaint m)
      (h.of_same (t := s.setPanel (s.panel.startJudging c)) ⟨rfl, rfl⟩)

theorem rereadChannel_learn (m : Ch) (s : State) : (State.rereadChannel m s).learnChannel? = s.learnChannel? := by
  unfold State.rereadChannel
  split
  · rfl
  · exact (setState_port s m .still).channel

theorem rereadStart_learn (s : State) (image : Option Memory) (new : Option RunCfg) (pins : PinSample) :
    (s.rereadStart image new pins).learnChannel? = s.learnChannel? := by
  have conditions : (State.rereadConditions { s with port := s.port.readEnded image new } new).learnChannel? = s.learnChannel? :=
    eachChannel_keeps State.learnChannel? _ (fun _ _ => rfl) _
  unfold State.rereadStart
  generalize State.rereadConditions _ new = u at conditions ⊢
  rw [State.learnChannel?, adoptUnits_port]
  exact (eachChannel_keeps State.learnChannel? State.rereadChannel rereadChannel_learn u).trans conditions

/-- With no learn session, a channel that the reread leaves unfitted is STILL after it. -/
theorem rereadEnd_still (s : State) (image : Option Memory) (new : Option RunCfg) (pins : PinSample) (n : Ch)
    (session : s.port.session = none) (onset : ∀ c, new = some c → c.rainFitted = true → 1 ≤ c.onsetConfirmS)
    (unfit : (s.rereadEnd image new pins).fitted n = false) : (s.rereadEnd image new pins).stateOf n = .still := by
  have sensed : (s.rereadSensed image new pins).Unused n := by
    obtain ⟨-, same, -⟩ := rereadSensed_sensors s image new pins onset
    have learn := (rereadStart_learn s image new pins).trans (congrArg (Option.map Session.channel) session)
    have config := block_config (rereadStart_block s image new pins .port)
    refine State.Unused.of_same ⟨(fitted_of_config ?_ n).trans unfit, learn, ?_⟩ same
    · exact config.trans (block_config (rereadEnd_port s image new pins)).symm
    · rw [State.stateOf, rereadStart_recs]
      refine rereadChannels_still _ n ((fitted_of_config ?_ n).trans unfit)
      refine Eq.trans ?_ (block_config (rereadEnd_port s image new pins)).symm
      exact eachChannel_keeps (fun u => u.port.config) _ (fun _ _ => rfl) _
  obtain ⟨config, read⟩ := rereadReported_port s image new pins
  rw [rereadEnd_eq]
  have reported : (s.rereadReported image new pins).Unused n := by
    unfold State.rereadReported
    generalize s.rereadSensed image new pins = u at sensed ⊢
    have draw := sensed.of_same ((rereadDraw_same u.startListening s.port.config new).trans (u := u) ⟨rfl, rfl⟩)
    generalize u.startListening.rereadDraw s.port.config new = v at draw ⊢
    have panel := rereadPanel_unused new draw
    generalize v.rereadPanel new = w at panel ⊢
    exact panel.of_same ((rereadWetness_same _).trans ((offerGust_same _).trans (submitStates_same w)))
  generalize s.rereadReported image new pins = u at config read reported ⊢
  have raised := reported.of_same (raiseHolding_same u)
  generalize u.raiseHolding = v at config read raised ⊢
  have decided := raised.of_same (rereadEval_same v new)
  have due := rereadEval_due config read
  generalize v.rereadEval new = w at decided due ⊢
  exact (decided.of_same (t := w.judgeLamp) ⟨State.judgeLamp_recs w, State.judgeLamp_port w⟩).finish due

end

end Sys2Proof.Machine

namespace Sys2Proof.Machine
set_option Elab.async false

section

variable {s t : State}

theorem rereadRain_unfitted (f : RainFront) (old : Option RunCfg) {new : Option RunCfg} (r : Nat)
    (unfit : new.any (·.rainFitted) = false) : f.reread old new r = RainFront.reset := by
  cases new with
  | none => rfl
  | some c => exact if_neg (Bool.eq_false_iff.mp unfit)

theorem rereadVane_unused (f : VaneFront) (old : Option RunCfg) {new : Option RunCfg} (pins : PinSample)
    (unused : new.any RunCfg.vaneUsed = false) : f.reread old new pins = { sector := 8, candidate := none } := by
  cases new with
  | none => rfl
  | some c => exact if_pos (congrArg not unused)

theorem rereadEnd_eval_invalid (s : State) (image : Option Memory) (pins : PinSample) :
    (s.rereadEnd image none pins).eval = Evaluator.reset := by
  obtain ⟨config, -⟩ := rereadReported_port s image none pins
  rw [rereadEnd_eq]
  generalize State.raiseHolding _ = u at config ⊢
  have unjudged : (u.rereadEval none).judgeLamp.deciding = false := by
    refine Bool.eq_false_iff.mpr (fun deciding => ?_)
    obtain ⟨c, some, -⟩ := deciding_iff.mp deciding
    rw [State.judgeLamp_port] at some
    cases config.symm.trans some
  obtain ⟨r, e, eq⟩ := finish_of_not_deciding unjudged
  rw [eq]
  exact State.judgeLamp_eval _

/-- The mark of RAIN SENSOR after a reread (R75, R209). -/
theorem rereadEnd_rainMark (s : State) (image : Option Memory) (new : Option RunCfg) (pins : PinSample) :
    (new.any (·.rainFitted) = false → (s.rereadEnd image new pins).mark .rainSensor = false) ∧
      (new.any (·.rainFitted) = true → s.port.config.any (·.rainFitted) = true →
        (s.rereadEnd image new pins).mark .rainSensor = s.mark .rainSensor) := by
  have after : (s.rereadEnd image new pins).block .rain =
      ((s.rereadStart image new pins).rereadRain s.port.config new pins).block .rain := by
    rw [rereadEnd_block, rereadIsolation_block _ _ (by decide), rereadVane_block _ _ _ _ (by decide),
      rereadAnem_block _ _ _ _ (by decide)]
  obtain ⟨-, mark⟩ := block_rain after
  obtain ⟨-, mark'⟩ := block_rain (rereadStart_block_same s image new pins (b := .rain) (by decide))
  rw [mark]
  generalize s.rereadStart image new pins = u at *
  obtain ⟨unfit, eq⟩ | ⟨c, rfl, fit, ⟨-, eq⟩ | ⟨bare, -⟩⟩ := rereadRain_cases u s.port.config new pins
  · rw [eq]
    refine ⟨fun _ => ?_, fun fit => ?_⟩
    · rw [endCondition_mark, if_pos rfl]
    · cases unfit.symm.trans fit
  · rw [eq]
    exact ⟨fun unfit => (by cases fit.symm.trans unfit), fun _ _ => mark'⟩
  · exact ⟨fun unfit => (by cases fit.symm.trans unfit), fun _ was => (by cases bare.symm.trans was)⟩

theorem execRereadEnd_of_read {bytes : List Byte} (pins : PinSample) {own k : Nat} (address : s.port.ownAddress = some own)
    (read : s.port.read = .reading k false) (pending : s.port.restart = true) (length : bytes.length = 2048) :
    exec (.rereadEnd bytes pins) s =
      .next (s.rereadEnd (some (Memory.ofBytes 0 bytes)) (judgeImage own (Memory.ofBytes 0 bytes)) pins) := by
  have taken : (s.takesBytes bytes && s.port.restart) = true := by
    rw [pending, (takesBytes_iff s bytes).mpr ⟨⟨k, read⟩, length⟩]
    rfl
  show execRereadEnd bytes pins s = _
  unfold execRereadEnd
  rw [address]
  exact if_pos taken

theorem rereadEnd_panel (s : State) (image : Option Memory) (new : Option RunCfg) (pins : PinSample)
    (onset : ∀ c, new = some c → c.rainFitted = true → 1 ≤ c.onsetConfirmS) :
    (s.rereadEnd image new pins).panel.judging = new.isSome ∧
      ∀ c, new = some c → (s.rereadEnd image new pins).panel.active = c.activeOf s.panel.levels := by
  have rim := rereadEnd_rim s image new pins onset
  have levels : (s.rereadSensed image new pins).panel.levels = s.panel.levels :=
    congrArg (·.panel.levels) (rereadSensed_rim s image new pins onset)
  generalize s.rereadEnd image new pins = t at *
  generalize s.rereadSensed image new pins = u at *
  have judging : t.panel.judging = (u.panel.reread new).judging := congrArg (·.panel.judging) rim
  have active : t.panel.active = (u.panel.reread new).active := congrArg (·.panel.active) rim
  cases new with
  | none => exact ⟨judging, fun _ valid => nomatch valid⟩
  | some c =>
    refine ⟨judging, ?_⟩
    rintro _ ⟨⟩
    rw [active, ← levels]
    rfl

/-- Settles O20: the clock, the marks and the panel by `rereadEnd_rim`, the sensors by `rereadSensed_sensors`, the flags by the
raises that come last (`rereadEnd_raised`). -/
theorem rereadEnds : Obligations.RereadEnds := by
  unfold Obligations.RereadEnds
  intro bytes pins s own k address read pending length
  have ends := execRereadEnd_of_read pins address read pending length
  generalize Memory.ofBytes 0 bytes = m at ends ⊢
  have onset (c : RunCfg) (valid : judgeImage own m = some c) := judgeImage_onset valid
  generalize judgeImage own m = new at ends onset ⊢
  obtain ⟨-, ended, image, config, restart⟩ := block_port (rereadEnd_port s (some m) new pins)
  have rim := rereadEnd_rim s (some m) new pins onset
  have stationMark := rereadEnd_configMark s (some m) new pins
  have channelMark (n : Ch) := rereadEnd_channelMark s (some m) new pins n onset
  have lit := rereadEnd_raised s (some m) new pins
  have still (n : Ch) (session) := rereadEnd_still s (some m) new pins n session onset
  obtain ⟨judging, active⟩ := rereadEnd_panel s (some m) new pins onset
  have agreed := rereadEnd_judged s (some m) new pins
  have invalid : new = none → (s.rereadEnd (some m) new pins).eval = Evaluator.reset := by
    rintro rfl
    exact rereadEnd_eval_invalid s (some m) pins
  obtain ⟨rain, -, vane, isolatedNone, isolatedSome, gust⟩ := rereadSensed_sensors s (some m) new pins onset
  obtain ⟨rain', reportedRain, vane', isolated', isolation'⟩ := rereadEnd_sensors s (some m) new pins
  obtain ⟨rainUnfit, rainFit⟩ := rereadEnd_rainMark s (some m) new pins
  obtain ⟨wind, windMark⟩ := rereadEnd_wind s (some m) new pins
  have report := rereadEnd_unreported s (some m) new pins
  have refresh := rereadEnd_refresh s (some m) new pins
  have stays := (raisedFlagsStayAndReport.1 (.rereadEnd bytes pins) s _ · ends)
  have count := read_count ends rfl
  rw [rain] at rain' reportedRain
  rw [reportedRain, ← rain'] at refresh
  refine ⟨_, ends, ended, restart, image, config, ?_⟩
  generalize s.rereadEnd (some m) new pins = t at *
  generalize s.rereadSensed (some m) new pins = u at *
  generalize s.rereadReported (some m) new pins = v at *
  have marks := marks_of_rim (congrArg (·.recs) rim)
  have config : t.port.config = new := config
  rw [config]
  refine ⟨congrArg (·.now) rim, congrArg (·.arb.listening) rim, fun n => ⟨count n, referenced_of_marks (marks n),
      consoleHold_of_marks (marks n), fun session unfit => still n session unfit, channelMark n⟩, stationMark,
    fun i => ⟨lit i, fun raised => ?_⟩, ?_, fun unfit => ?_, fun unfit => ?_, fun unused => ?_, ?_⟩
  · obtain stays | bad | bad | bad | ⟨bad, -⟩ | ⟨_, _, _, _, bad⟩ := stays i raised
    · exact stays
    all_goals cases bad
  · rintro rfl
    exact ⟨invalid rfl, judging, isolated'.trans (isolatedNone rfl).1, isolation'.trans (isolatedNone rfl).2⟩
  · exact ⟨rain'.trans (rereadRain_unfitted s.rain _ _ unfit), rainUnfit unfit⟩
  · rw [unfit] at wind windMark
    obtain ⟨lastGust, gustTimer⟩ := report unfit
    exact ⟨wind, windMark, lastGust.trans (gust unfit).1, gustTimer.trans (gust unfit).2⟩
  · exact vane'.trans (vane.trans (rereadVane_unused s.vane _ pins unused))
  · rintro c rfl
    refine ⟨agreed, congrArg (·.eval.timer) rim, judging, active c rfl, isolated'.trans (isolatedSome rfl),
      fun fit was => ⟨?_, rainFit fit was⟩, fun fit bare => ?_, refresh, fun fit was => ⟨?_, ?_⟩, fun fit bare => ?_, fun used => ?_⟩
    · exact rain'.trans ((if_pos fit).trans (if_pos was))
    · exact rain'.trans ((if_pos fit).trans (if_neg (Bool.eq_false_iff.mp bare)))
    · exact wind.trans ((if_pos fit).trans (if_pos was))
    · exact windMark.trans (if_pos fit)
    · exact wind.trans ((if_pos fit).trans (if_neg (Bool.eq_false_iff.mp bare)))
    · exact vane'.trans (vane.trans (if_neg (by rw [used]; decide)))

end

end Sys2Proof.Machine

namespace Sys2Proof.Machine
set_option Elab.async false

/-! ### The warm restart (R213) -/

section

variable {s t : State}

/-! #### Clearing the flags -/

/-- The state without the flags, the waiting notices and the lamp's pattern. -/
def State.unlit (s : State) : State :=
  { s with
    line := { s.line with waiting := [], nextSeq := 0 }, panel := { s.panel with standing := .off, patternAge := 0 }
    flags := State.reset.flags }

theorem judgeLamp_unlit (s : State) : s.judgeLamp.unlit = s.unlit := by
  unfold State.judgeLamp
  split <;> rfl

theorem submit_unlit (s : State) (e : Notice) (r : Nat) : (s.submit e r).unlit = s.unlit := by
  unfold State.submit
  split <;> rfl

theorem clearAt_unlit (s : State) (i : Fin 21) : (s.clearAt i).unlit = s.unlit := by
  unfold State.clearAt
  split
  · exact (judgeLamp_unlit _).trans (submit_unlit _ _ _)
  · rfl

theorem clearAll_flags (s : State) (i : Fin 21) : s.clearAll.flags[i] = { s.flags[i]'i.isLt with raised := false } := by
  have fold : ∀ (is : List (Fin 21)) (u : State),
      (is.foldl State.clearAt u).flags[i] = { u.flags[i]'i.isLt with raised := (u.flags[i]'i.isLt).raised && !is.contains i } := by
    intro is
    induction is with
    | nil =>
      intro u
      exact flag_eq_of_raised (by simp)
    | cons j is ih =>
      intro u
      rw [List.foldl_cons, ih, clearAt_flags, List.contains_cons]
      by_cases same : i = j
      · subst same
        rw [if_pos rfl]
        simp only [BEq.rfl, Bool.true_or, Bool.not_true, Bool.and_false, Bool.false_and]
      · rw [if_neg same, beq_false_of_ne same, Bool.false_or]
  have all : flagOrder.contains i = true := List.contains_iff_mem.mpr (List.mem_finRange i)
  refine (fold flagOrder s).trans ?_
  rw [all]
  simp only [Bool.not_true, Bool.and_false]

/-- Every waiting notice is the ALARM of a clear. -/
def State.ClearsAlone (s : State) : Prop := ∀ e ∈ s.line.waiting, ∃ kind ch, e.notice = .alarm kind ch false

/-- A notice in the pool after a submission is the one submitted, or stood there. -/
theorem mem_poolSubmit {locked : Nat} {e f : PoolEntry} {w : List PoolEntry} (mem : f ∈ poolSubmit locked e w) :
    f.notice = e.notice ∨ f ∈ w := by
  unfold poolSubmit at mem
  split at mem
  · obtain rfl | mem := (mem_poolInsert _ _ _).mp mem
    · exact .inl rfl
    · exact .inr (List.mem_of_mem_erase mem)
  · split at mem
    · obtain rfl | mem := (mem_poolInsert _ _ _).mp mem
      · exact .inl rfl
      · exact .inr mem
    · split at mem
      · exact .inr mem
      · split at mem
        · obtain rfl | mem := (mem_poolInsert _ _ _).mp mem
          · exact .inl rfl
          · exact .inr (List.mem_of_mem_erase mem)
        · exact .inr mem

theorem notice_of_mem_submit {f : PoolEntry} {e : Notice} {r : Nat} (mem : f ∈ (s.submit e r).line.waiting) :
    f.notice = e ∨ f ∈ s.line.waiting := by
  unfold State.submit at mem
  split at mem
  · exact .inr mem
  · exact mem_poolSubmit mem

theorem State.ClearsAlone.clearAt (h : s.ClearsAlone) (i : Fin 21) : (s.clearAt i).ClearsAlone := by
  by_cases raised : (s.flags[i]'i.isLt).raised = true
  · unfold State.ClearsAlone
    rw [clearAt_line raised]
    intro e mem
    obtain notice | mem := notice_of_mem_submit mem
    · exact ⟨_, _, notice⟩
    · exact h e mem
  · rw [Bool.not_eq_true] at raised
    rwa [clearAt_cleared raised]

theorem State.ClearsAlone.clearAll (h : s.ClearsAlone) : s.clearAll.ClearsAlone := by
  have fold : ∀ (is : List (Fin 21)) (u : State), u.ClearsAlone → (is.foldl State.clearAt u).ClearsAlone := by
    intro is
    induction is with
    | nil => exact fun _ h => h
    | cons i is ih => exact fun u h => ih _ (h.clearAt i)
  exact fold _ s h

/-! #### The channels -/

theorem setState_unit (s : State) (n : Ch) (new : ChState) :
    (s.setState n new).units[n] = ((s.setRec n { s.recs[n]'n.isLt with state := new }).applyDrive n (s.stateOf n) new).units[n] := by
  obtain ⟨t, eq, -, units, -⟩ := setState_pre s n new
  rw [eq, checkLastTravel_units, State.judgeLamp_units, checkView_units, units]

/-- A change to a state without a drive removes the drive. -/
theorem setState_unit_undriven (s : State) (n : Ch) {new : ChState} (undriven : new.driveDir? = none) :
    (s.setState n new).units[n] = (s.units[n]'n.isLt).driveOff := by
  rw [setState_unit]
  unfold State.applyDrive
  rw [undriven]
  cases (s.stateOf n).driveDir? <;>
  · unfold State.removeDrive
    rw [setUnit_unit, if_pos rfl]
    rfl

/-- A channel's unit and record at the restart (R21, R53). -/
def restartedUnit (u : ChanUnit) (c : ChState) : ChanUnit :=
  let v := if c.isFaulted then u else u.driveOff
  { v with illegal := 0, indexSeen := false, indexRecord := none }

def restartedRec (r : ChanRec) : ChanRec :=
  { r with refusal := .accepted, state := if r.state.isFaulted then r.state else .still }

theorem driveOff_lastDir (u : ChanUnit) : u.driveOff.lastDir = u.lastDir := by
  unfold ChanUnit.driveOff
  split <;> rfl

theorem restartedUnit_sensed (u : ChanUnit) (c : ChState) : (restartedUnit u c).sensed = u.sensed := by
  unfold restartedUnit
  cases c.isFaulted
  · exact driveOff_sensed u
  · rfl

theorem restartedUnit_lastDir (u : ChanUnit) (c : ChState) : (restartedUnit u c).lastDir = u.lastDir := by
  unfold restartedUnit
  cases c.isFaulted
  · exact driveOff_lastDir u
  · rfl

theorem restartedRec_state (r : ChanRec) : (restartedRec r).state = (match r.state with
    | .faulted o e => .faulted o e
    | _ => .still) := by
  unfold restartedRec
  cases r.state <;> rfl

/-- A drive that runs, or waits, only as its channel's state asks is off after the restart. -/
theorem restartedUnit_off {u : ChanUnit} {c : ChState} (driven : ∀ d, u.drive.dir? = some d → c.driveDir? = some d) :
    (restartedUnit u c).drive = .off := by
  unfold restartedUnit
  cases faulted : c.isFaulted
  · exact driveOff_drive u
  · have undriven : c.driveDir? = none := by cases c <;> first | rfl | cases faulted
    show u.drive = .off
    cases drive : u.drive with
    | off => rfl
    | dead d | ramp d | full d => cases (undriven.symm.trans (driven d (by rw [drive]; rfl)))

theorem setRec_rec (s : State) (n m : Ch) (r : ChanRec) : (s.setRec n r).recs[m] = if m = n then r else s.recs[m]'m.isLt := by
  by_cases same : m = n
  · subst same
    simp
  · have ne : n.val ≠ m.val := fun e => same (Fin.ext e.symm)
    simp [same, ne]

theorem setState_rec (s : State) (n m : Ch) (new : ChState) :
    (s.setState n new).recs[m] = if m = n then { s.recs[n]'n.isLt with state := new } else s.recs[m]'m.isLt := by
  rw [setState_recs]
  exact setRec_rec s n m _

/-- The marks that a restart takes from a channel. -/
def State.unmark (s : State) (n : Ch) : State :=
  (s.setRec n { s.recs[n]'n.isLt with refusal := .accepted }).setUnit n { s.units[n]'n.isLt with illegal := 0, indexSeen := false, indexRecord := none }

theorem restartChannel_eq (n : Ch) (s : State) :
    State.restartChannel n s = ((if (s.stateOf n).isFaulted then s else s.toStill n).unmark n).checkView n := by
  unfold State.restartChannel State.unmark
  cases s.stateOf n <;> rfl

theorem unmark_own (s : State) (n : Ch) :
    (s.unmark n).units[n] = { s.units[n]'n.isLt with illegal := 0, indexSeen := false, indexRecord := none } ∧
      (s.unmark n).recs[n] = { s.recs[n]'n.isLt with refusal := .accepted } := by
  unfold State.unmark
  refine ⟨?_, ?_⟩
  · rw [setUnit_unit, if_pos rfl]
  · rw [State.setUnit_recs, setRec_rec, if_pos rfl]

theorem unmark_other (s : State) {n m : Ch} (ne : m ≠ n) : (s.unmark n).units[m] = s.units[m]'m.isLt ∧ (s.unmark n).recs[m] = s.recs[m]'m.isLt := by
  unfold State.unmark
  refine ⟨?_, ?_⟩
  · rw [setUnit_unit, if_neg ne]
    rfl
  · rw [State.setUnit_recs, setRec_rec, if_neg ne]

theorem restartChannel_own (n : Ch) (s : State) :
    (State.restartChannel n s).units[n] = restartedUnit (s.units[n]'n.isLt) (s.recs[n]'n.isLt).state ∧
      (State.restartChannel n s).recs[n] = restartedRec (s.recs[n]'n.isLt) := by
  rw [restartChannel_eq, checkView_units, checkView_recs]
  obtain ⟨unit, record⟩ := unmark_own (if (s.stateOf n).isFaulted then s else s.toStill n) n
  rw [unit, record]
  unfold restartedUnit restartedRec
  cases faulted : (s.recs[n]'n.isLt).state.isFaulted
  · have faulted : (s.stateOf n).isFaulted = false := faulted
    rw [faulted]
    refine ⟨congrArg (fun u : ChanUnit => { u with illegal := 0, indexSeen := false, indexRecord := none })
      (setState_unit_undriven s n (new := .still) rfl), ?_⟩
    exact congrArg (fun r : ChanRec => { r with refusal := .accepted }) ((setState_rec s n n .still).trans (if_pos rfl))
  · have faulted : (s.stateOf n).isFaulted = true := faulted
    rw [faulted]
    exact ⟨rfl, rfl⟩

theorem restartChannel_other {n m : Ch} (ne : m ≠ n) (s : State) :
    (State.restartChannel n s).units[m] = s.units[m]'m.isLt ∧ (State.restartChannel n s).recs[m] = s.recs[m]'m.isLt := by
  rw [restartChannel_eq, checkView_units, checkView_recs]
  obtain ⟨unit, record⟩ := unmark_other (if (s.stateOf n).isFaulted then s else s.toStill n) ne
  rw [unit, record]
  split
  · exact ⟨rfl, rfl⟩
  · exact ⟨setState_unit_ne s n m .still ne, (setState_rec s n m .still).trans (if_neg ne)⟩

theorem restartChannels_at (s : State) (n : Ch) :
    (s.eachChannel State.restartChannel).units[n] = restartedUnit (s.units[n]'n.isLt) (s.recs[n]'n.isLt).state ∧
      (s.eachChannel State.restartChannel).recs[n] = restartedRec (s.recs[n]'n.isLt) := by
  have at_ := eachChannel_at (fun u => (u.units[n]'n.isLt, u.recs[n]'n.isLt)) State.restartChannel n
    (fun x => (restartedUnit x.1 x.2.state, restartedRec x.2)) (fun u => ?_) (fun m u ne => ?_) s
  · exact Prod.mk.inj at_
  · obtain ⟨unit, record⟩ := restartChannel_own n u
    exact Prod.ext unit record
  · obtain ⟨unit, record⟩ := restartChannel_other (Ne.symm ne) u
    exact Prod.ext unit record

/-- What the restart of the channels leaves: all that is kept but their marks. -/
def State.unmarked (s : State) : State := { s.kept with recs := State.reset.recs }

theorem restartChannel_unmarked (n : Ch) (s : State) : (State.restartChannel n s).unmarked = s.unmarked := by
  have unmark (u : State) : (u.unmark n).unmarked = u.unmarked := by
    have unit : ((u.setRec n { u.recs[n]'n.isLt with refusal := .accepted }).setUnit n
        { u.units[n]'n.isLt with illegal := 0, indexSeen := false, indexRecord := none }).kept =
        (u.setRec n { u.recs[n]'n.isLt with refusal := .accepted }).kept := setUnit_kept _ _ _ rfl
    unfold State.unmark State.unmarked
    rw [unit]
    rfl
  rw [restartChannel_eq]
  have view : ((if (s.stateOf n).isFaulted then s else s.toStill n).unmark n |>.checkView n).unmarked =
      ((if (s.stateOf n).isFaulted then s else s.toStill n).unmark n).unmarked :=
    congrArg (fun k : State => { k with recs := State.reset.recs }) (checkView_kept _ n)
  rw [view, unmark]
  split
  · rfl
  · exact congrArg (fun k : State => { k with recs := State.reset.recs }) (toStill_kept s n)

theorem restartChannels_unmarked (s : State) : (s.eachChannel State.restartChannel).unmarked = s.unmarked :=
  eachChannel_keeps State.unmarked State.restartChannel restartChannel_unmarked s

theorem restartChannel_eval (n : Ch) (s : State) : (State.restartChannel n s).eval = s.eval := by
  rw [restartChannel_eq, checkView_eval]
  have unmark (u : State) : (u.unmark n).eval = u.eval := rfl
  rw [unmark]
  split
  · rfl
  · exact setState_eval s n .still

/-- With no learn session a change of a channel's state leaves the port. -/
theorem setState_port_unlearned (s : State) (n : Ch) (new : ChState) (session : s.port.session = none) :
    (s.setState n new).port = s.port := by
  obtain ⟨x, eq, stem⟩ := setState_port s n new
  rw [session] at stem
  rw [eq, Option.map_eq_none_iff.mp stem, ← session]

theorem restartChannel_port (n : Ch) (s : State) (session : s.port.session = none) : (State.restartChannel n s).port = s.port := by
  rw [restartChannel_eq, checkView_port]
  have unmark (u : State) : (u.unmark n).port = u.port := rfl
  rw [unmark]
  split
  · rfl
  · exact setState_port_unlearned s n .still session

theorem restartChannels_port (s : State) (session : s.port.session = none) : (s.eachChannel State.restartChannel).port = s.port :=
  eachChannel_invariant (P := (State.port · = s.port)) (fun n u h =>
    (restartChannel_port n u ((congrArg Port.session h).trans session)).trans h) rfl

/-- What a restart's block settings leave of the channels' part. -/
theorem restartNow_unlit (s : State) :
    s.restartNow.unlit = (((s.restartPort.eachChannel State.restartChannel).endCondition .lineFault).restartBlocks).unlit := by
  rw [restartNow_eq, judgeLamp_unlit]
  exact clearAll_keeps State.unlit clearAt_unlit _

theorem restartNow_clearsAlone (s : State) : s.restartNow.ClearsAlone := by
  rw [restartNow_eq]
  have none : (((s.restartPort.eachChannel State.restartChannel).endCondition .lineFault).restartBlocks).ClearsAlone := nofun
  have cleared := none.clearAll
  generalize State.clearAll _ = u at cleared ⊢
  unfold State.ClearsAlone
  rwa [State.judgeLamp_line]

theorem restartNow_flags (s : State) (i : Fin 21) :
    s.restartNow.flags[i] = { raised := false, condition := if i = 15 then false else (s.flags[i]'i.isLt).condition } := by
  have unmarked := restartChannels_unmarked s.restartPort
  rw [restartNow_eq, State.judgeLamp_flags, clearAll_flags]
  generalize s.restartPort.eachChannel State.restartChannel = r at unmarked ⊢
  have flags : r.flags = s.flags := congrArg (·.flags) unmarked
  have blocks (u : State) : u.restartBlocks.flags = u.flags := rfl
  rw [blocks]
  unfold State.endCondition State.setCondition
  rw [setFlag_raised]
  by_cases place : i = FlagId.lineFault.index
  · rw [if_pos place, if_pos (show i = 15 from place)]
  · rw [if_neg place, if_neg (show i ≠ 15 from place), flags]

/-- Settles O19: the travels end channel by channel, the blocks take their values, and the flags clear into the empty pool. -/
theorem warmRestartTakesEffect : Obligations.WarmRestartTakesEffect := by
  unfold Obligations.WarmRestartTakesEffect
  intro s pending ended quiet
  have ends : exec .warmRestart s = .next s.restartNow := if_pos ⟨pending, ended, quiet⟩
  have unlit := restartNow_unlit s
  have clears := restartNow_clearsAlone s
  have flags := restartNow_flags s
  have channel (n : Ch) := restartChannels_at s.restartPort n
  have port := restartChannels_port s.restartPort rfl
  have eval : (s.restartPort.eachChannel State.restartChannel).eval = s.eval :=
    eachChannel_keeps State.eval State.restartChannel restartChannel_eval s.restartPort
  have unmarked := restartChannels_unmarked s.restartPort
  have start : s.restartPort.units = s.units ∧ s.restartPort.recs = s.recs := ⟨rfl, rfl⟩
  refine ⟨_, ends, ?_⟩
  generalize s.restartNow = t at *
  generalize s.restartPort.eachChannel State.restartChannel = r at *
  have unit (n : Ch) : t.units[n]'n.isLt = restartedUnit (s.units[n]'n.isLt) (s.recs[n]'n.isLt).state :=
    (congrArg (·.units[n]) unlit).trans (channel n).1
  have record (n : Ch) : t.recs[n]'n.isLt = restartedRec (s.recs[n]'n.isLt) := (congrArg (·.recs[n]) unlit).trans (channel n).2
  have arb : t.arb = r.arb.restart := congrArg (·.arb) unlit
  have handler : t.handler = r.handler.restart := congrArg (·.handler) unlit
  have panel : t.panel.judging = false ∧ t.panel.levels = r.panel.levels ∧ t.panel.active = PanelLevels.allLow :=
    ⟨congrArg (·.panel.judging) unlit, congrArg (·.panel.levels) unlit, congrArg (·.panel.active) unlit⟩
  have rain : t.rain = r.rain.restart := congrArg (·.rain) unlit
  have rain' : r.rain = s.rain := congrArg (·.rain) unmarked
  have mode : t.line.mode = (match r.line.mode with
      | .listenOnly _ => .normal
      | m => m) := congrArg (·.line.mode) unlit
  have mode' : r.line.mode = s.line.mode := congrArg (·.line.mode) unmarked
  have evalEq : t.eval = { r.eval with timer := none } := congrArg (·.eval) unlit
  refine ⟨(congrArg (·.port) unlit).trans port, (congrArg (·.now) unlit).trans (congrArg (·.now) unmarked), fun n => ?_,
    fun driven n => ?_, ?_⟩
  · rw [unit, record]
    refine ⟨restartedUnit_sensed _ _, restartedUnit_lastDir _ _, rfl, rfl, rfl, rfl, rfl, ?_⟩
    rw [State.stateOf, record]
    exact restartedRec_state (s.recs[n]'n.isLt)
  · rw [unit]
    exact restartedUnit_off (fun d => driven n d)
  · rw [arb, handler, evalEq, eval, rain, rain', mode, mode']
    refine ⟨congrArg (·.arb.supply) unmarked, congrArg (·.arb.listening) unmarked, rfl, rfl,
      congrArg (·.arb.travelAtRestart) unmarked, rfl, (congrArg (·.wind) unlit).trans (congrArg (·.wind) unmarked),
      (congrArg (·.vane) unlit).trans (congrArg (·.vane) unmarked), rfl, rfl, rfl, clears, congrArg (·.line.queue) unlit,
      congrArg (·.line.failures) unlit, congrArg (·.line.faultAck) unlit, rfl, rfl, rfl,
      congrArg (·.handler.isolated) unmarked, congrArg (·.handler.isolation) unmarked, congrArg (·.handler.overflow) unmarked,
      rfl, rfl, rfl, fun n => ?_, panel.1, panel.2.1.trans (congrArg (·.panel.levels) unmarked), panel.2.2, fun i => ?_⟩
    · unfold Handler.restart
      simp
    · rw [flags i]
      refine ⟨rfl, fun ne => if_neg ne, fun e => if_pos e⟩

end

end Sys2Proof.Machine

namespace Sys2Proof.Machine
set_option Elab.async false

/-! ### Drive starts and timing (R15 to R17, R20) -/

section

variable {s t : State}

theorem driveStart_recs (s : State) (n : Ch) (d : Direction) : (s.driveStart n d).recs = s.recs := by
  unfold State.driveStart
  rw [recordMeasure_recs, recordIndex_recs]
  rfl

/-- What R13 records at the first drive start of a closing travel. -/
theorem recordIndex_taken {n : Ch} {k : ChanCfg} {x : Travel} (chan : s.chan? n = some k) (running : s.stateOf n = .running x)
    (reload : k.indexMode = .reload) (kind : x.kind = .close ∨ x.kind = .learnClose ∨ x.kind = .learnTimed)
    (first : (s.units[n]'n.isLt).indexRecord = none) : (s.recordIndex n).units[n] = { s.units[n]'n.isLt with
      indexSeen := false
      indexRecord := some { wasReferenced := (s.recs[n]'n.isLt).referenced, wasAbove := decide (k.c + k.closeTol < (s.units[n]'n.isLt).count) } } := by
  have checked : x.kind.indexChecked = true := by obtain e | e | e := kind <;> rw [e] <;> rfl
  unfold State.recordIndex
  rw [chan, running]
  dsimp only
  rw [if_pos (by rw [reload, checked, first]; rfl), setUnit_unit, if_pos rfl]

/-- R13 changes nothing of a unit but its index record. -/
theorem recordIndex_rest (s : State) (n : Ch) : ∃ seen r,
    (s.recordIndex n).units[n] = { s.units[n]'n.isLt with indexSeen := seen, indexRecord := r } := by
  unfold State.recordIndex
  split
  · split
    · dsimp only
      rw [setUnit_unit, if_pos rfl]
      exact ⟨_, _, rfl⟩
    · exact ⟨_, _, rfl⟩
  · exact ⟨_, _, rfl⟩

theorem recordMeasure_taken {n : Ch} {p : Session} {x : Travel} (session : s.port.session = some p) (own : p.channel = n)
    (travel : s.travel? n = some x) :
    (x.kind = .learnOpen → (s.recordMeasure n).port.session =
      some { p with measureStart := some (s.units[n]'n.isLt).count, openingStart := some s.now }) ∧
    (x.kind = .learnTimed → (s.recordMeasure n).port.session =
      some { p with measureStart := some (s.units[n]'n.isLt).count, timedStart := some s.now }) := by
  unfold State.recordMeasure
  rw [session, travel]
  dsimp only
  rw [if_pos own]
  refine ⟨fun kind => ?_, fun kind => ?_⟩ <;> rw [kind] <;> rfl

theorem recordIndex_now (s : State) (n : Ch) : (s.recordIndex n).now = s.now := by
  unfold State.recordIndex
  split
  · split <;> rfl
  · rfl

theorem driveStart_unit (s : State) (n : Ch) (d : Direction) :
    (s.driveStart n d).units[n] = ((s.setUnit n ((s.units[n]'n.isLt).startDrive d s.now)).recordIndex n).units[n] := by
  unfold State.driveStart
  rw [recordMeasure_units]

theorem driveStart_started (s : State) (n : Ch) (d : Direction) : s.DriveStarted (s.driveStart n d) n d := by
  have recs := driveStart_recs s n d
  have state : (s.driveStart n d).stateOf n = s.stateOf n := congrArg (·[n].state) recs
  have unit : (s.setUnit n ((s.units[n]'n.isLt).startDrive d s.now)).units[n] = (s.units[n]'n.isLt).startDrive d s.now := by
    rw [setUnit_unit, if_pos rfl]
  obtain ⟨seen, r, rest⟩ := recordIndex_rest (s.setUnit n ((s.units[n]'n.isLt).startDrive d s.now)) n
  have started := (driveStart_unit s n d).trans (rest.trans (by rw [unit]))
  refine ⟨?_, ?_, ?_, ?_, ?_, ?_, ?_, ?_, fun k x chan running reload kind first => ?_, fun p x session own travel => ?_⟩
  iterate 8 rw [started]; rfl
  · have taken := recordIndex_taken (s := s.setUnit n ((s.units[n]'n.isLt).startDrive d s.now)) chan (state ▸ running) reload kind
      (by rw [unit]; exact first)
    rw [driveStart_unit, taken, unit]
    exact ⟨rfl, rfl⟩
  · have travel : ((s.setUnit n ((s.units[n]'n.isLt).startDrive d s.now)).recordIndex n).travel? n = some x := by
      rw [State.travel?, State.stateOf, recordIndex_recs]
      rw [State.travel?, state] at travel
      exact travel
    have session : ((s.setUnit n ((s.units[n]'n.isLt).startDrive d s.now)).recordIndex n).port.session = some p := by
      rw [recordIndex_port]
      exact session
    have count : (((s.setUnit n ((s.units[n]'n.isLt).startDrive d s.now)).recordIndex n).units[n]).count = (s.units[n]'n.isLt).count := by
      rw [rest, unit]
      rfl
    have taken := recordMeasure_taken session own travel
    rw [count, recordIndex_now] at taken
    exact taken

/-! #### The drive through a change of state -/

theorem setState_drive (s : State) (n : Ch) (new : ChState) :
    (s.setState n new).port = ((s.setRec n { s.recs[n]'n.isLt with state := new }).applyDrive n (s.stateOf n) new).port ∧
      (s.setState n new).now = s.now := by
  refine ⟨?_, kept_now (setState_kept s n new)⟩
  unfold State.setState
  dsimp only
  rw [checkLastTravel_port, State.judgeLamp_port, checkView_port]
  split <;> split <;> split <;> simp only [State.askReview_port, State.askEval_port]

theorem energise_start {n : Ch} {d : Direction} (off : (s.units[n]'n.isLt).drive = .off) :
    ((s.units[n]'n.isLt).lastDir = some d.flip ∧ (s.units[n]'n.isLt).deadTime ≠ none → s.energise n d = s.setUnit n { s.units[n]'n.isLt with drive := .dead d }) ∧
      ((s.units[n]'n.isLt).lastDir ≠ some d.flip ∨ (s.units[n]'n.isLt).deadTime = none → s.energise n d = (s.setUnit n (s.units[n]'n.isLt)).driveStart n d) := by
  have undriven : (s.units[n]'n.isLt).drive.driven? = none := by rw [off]; rfl
  have readied : (s.units[n]'n.isLt).readied d = s.units[n]'n.isLt := by
    unfold ChanUnit.readied
    rw [undriven]
  unfold State.energise
  dsimp only
  rw [readied, if_neg (by rw [undriven]; nofun)]
  refine ⟨fun owed => if_pos ?_, fun free => if_neg ?_⟩
  · unfold ChanUnit.owesDeadTime
    rw [owed.1, Option.isSome_iff_ne_none.mpr owed.2]
    simp
  · unfold ChanUnit.owesDeadTime
    intro owed
    obtain ⟨dir, time⟩ := Bool.and_eq_true_iff.mp owed
    obtain other | none := free
    · exact other (of_decide_eq_true dir)
    · rw [none] at time
      cases time

theorem setUnit_self (s : State) (n : Ch) : s.setUnit n (s.units[n]'n.isLt) = s := by
  unfold State.setUnit
  rw [Fin.getElem_fin, Vector.set_getElem_self]

theorem flip_of_ne {d d' : Direction} (ne : d ≠ d') : d.flip = d' := by
  cases d <;> cases d' <;> first | rfl | exact absurd rfl ne


end

end Sys2Proof.Machine

namespace Sys2Proof.Machine
set_option Elab.async false

/-! ### The tables of a review (R79, R84, R87 to R94) -/

section

variable {s t : State}

/-! #### The working wind -/

theorem foldl_stronger_spec (l : List (Nat × Nat)) (x : Nat × Nat) :
    let m := l.foldl (fun a b => if a.1 < b.1 then b else a) x
    m ∈ x :: l ∧ (∀ y ∈ x :: l, y.1 ≤ m.1) ∧ (x.1 = m.1 → m = x) := by
  induction l generalizing x with
  | nil => simp
  | cons y l ih =>
    obtain ⟨mem, above, first⟩ := ih (if x.1 < y.1 then y else x)
    dsimp only [List.foldl_cons]
    generalize List.foldl _ _ l = m at mem above first ⊢
    by_cases stronger : x.1 < y.1
    · rw [if_pos stronger] at mem above first
      refine ⟨List.mem_cons_of_mem _ mem, fun z hz => ?_, fun eq => ?_⟩
      · obtain rfl | hz := List.mem_cons.mp hz
        · exact stronger.le.trans (above y (List.mem_cons_self ..))
        · exact above z hz
      · have := above y (List.mem_cons_self ..)
        omega
    · rw [if_neg stronger] at mem above first
      refine ⟨?_, fun z hz => ?_, first⟩
      · obtain rfl | mem := List.mem_cons.mp mem
        · exact List.mem_cons_self ..
        · exact List.mem_cons_of_mem _ (List.mem_cons_of_mem _ mem)
      · obtain rfl | hz := List.mem_cons.mp hz
        · exact above z (List.mem_cons_self ..)
        · obtain rfl | hz := List.mem_cons.mp hz
          · exact (Nat.le_of_not_lt stronger).trans (above x (List.mem_cons_self ..))
          · exact above z (List.mem_cons_of_mem _ hz)

/-- The working wind is the greatest of the sources, and the first of them where that is the greatest (R79). -/
theorem strongest_spec (l : List (Nat × Nat)) :
    (∀ x ∈ l, x.1 ≤ (strongest l).1) ∧ (l ≠ [] → strongest l ∈ l) ∧ ∀ x xs, l = x :: xs → x.1 = (strongest l).1 → strongest l = x := by
  cases l with
  | nil => exact ⟨nofun, fun h => absurd rfl h, nofun⟩
  | cons x xs =>
    obtain ⟨mem, above, first⟩ := foldl_stronger_spec xs x
    refine ⟨above, fun _ => mem, ?_⟩
    rintro _ _ ⟨⟩
    exact first

theorem mem_windSources {x : Nat × Nat} : x ∈ s.windSources ↔
    s.reportOffered = true ∧ x = (s.wind.assessment, s.vane.sector) ∨
      ∃ p ∈ s.handler.peers, ∃ w, p.wind = some w ∧ 0 < w.left ∧ x = (w.assessment, w.sector) := by
  unfold State.windSources
  rw [List.mem_append, List.mem_filterMap]
  refine or_congr ?_ (exists_congr (fun p => and_congr_right (fun _ => ?_)))
  · by_cases offered : s.reportOffered = true <;> simp [offered]
  · cases wind : p.wind with
    | none => simp
    | some w =>
      by_cases live : 0 < w.left
      · simp [live, eq_comm]
      · simp [live]

/-! #### Threat arrival -/

theorem countsWet_iff (r : RainFront) : r.countsWet = true ↔ r.state = some .wet ∨ r.state = some .fault := by
  simp [RainFront.countsWet]

theorem mem_peerArrivals {c : RunCfg} {v d a : Nat} : a ∈ s.peerArrivals c v d ↔
    ∃ p ∈ s.handler.peers, ∃ w l, p.wetness = some w ∧ 0 < w.left ∧ c.lag v d p.origin = some l ∧ a = min (w.onset + l) 4294967295 := by
  unfold State.peerArrivals
  rw [List.mem_filterMap]
  refine exists_congr (fun p => and_congr_right (fun _ => ?_))
  cases wetness : p.wetness with
  | none => simp
  | some w =>
    by_cases live : 0 < w.left
    · simp [live, satTime, Config.maxStationTime, eq_comm]
    · simp [live]

theorem leastOf_spec {l : List Nat} {a : Nat} (h : leastOf l = some a) : a ∈ l ∧ ∀ b ∈ l, a ≤ b := by
  rw [leastOf_eq_min?] at h
  exact List.min?_eq_some_iff.mp h

theorem threatArrival_dry {c : RunCfg} {v d : Nat} (dry : s.rain.countsWet = false) :
    s.threatArrival c v d = leastOf (s.peerArrivals c v d) := if_neg (by rw [dry]; decide)

/-! #### Slack, ceiling and need -/

theorem slackBand_iff (x : Int) : (slackBand x = 0 ↔ x ≤ 0) ∧ (slackBand x = 1 ↔ 0 < x ∧ x ≤ 150) ∧
    (slackBand x = 2 ↔ 150 < x ∧ x ≤ 600) ∧ (slackBand x = 3 ↔ 600 < x ∧ x ≤ 3000) ∧ (slackBand x = 4 ↔ 3000 < x) := by
  unfold slackBand
  by_cases h0 : x ≤ 0
  · rw [if_pos h0]
    simp [h0]
    omega
  rw [if_neg h0]
  by_cases h1 : x ≤ 150
  · rw [if_pos h1]
    simp [h0, h1]
    omega
  rw [if_neg h1]
  by_cases h2 : x ≤ 600
  · rw [if_pos h2]
    simp [h0, h1, h2]
    omega
  rw [if_neg h2]
  by_cases h3 : x ≤ 3000
  · rw [if_pos h3]
    simp [h0, h1, h2, h3]
    omega
  · rw [if_neg h3]
    simp [h0, h1, h2, h3]
    omega

/-- The slack and its origin before the hold of its range (R88, R89). -/
theorem joinSlack_cases (k : ChanCfg) (v tau now : Nat) (a : Option Nat) :
    (a = none → v < k.wc → joinSlack (rainSlack k a now tau) (windSlack k v tau) = none) ∧
    (a = none → k.wc ≤ v → joinSlack (rainSlack k a now tau) (windSlack k v tau) = some (-(tau : Int), .wind)) ∧
    ∀ (x : Nat) (rain : Int), a = some x → rain = ((x - 10 * k.guardS : Nat) : Int) - (now : Int) - (tau : Int) →
      (v < k.wc ∨ rain ≤ -(tau : Int) → joinSlack (rainSlack k a now tau) (windSlack k v tau) = some (rain, .threat)) ∧
      (k.wc ≤ v → -(tau : Int) < rain → joinSlack (rainSlack k a now tau) (windSlack k v tau) = some (-(tau : Int), .wind)) := by
  unfold windSlack
  refine ⟨?_, ?_, ?_⟩
  · rintro rfl calm
    rw [if_neg (Nat.not_le.mpr calm)]
    rfl
  · rintro rfl windy
    rw [if_pos windy]
    rfl
  · rintro x rain rfl rfl
    refine ⟨fun first => ?_, fun windy later => ?_⟩
    · by_cases windy : k.wc ≤ v
      · rw [if_pos windy]
        exact if_pos (first.resolve_left (Nat.not_lt.mpr windy))
      · rw [if_neg windy]
        rfl
    · rw [if_pos windy]
      exact if_neg (not_le.mpr later)

theorem holdSlack_range (x : Int) : -32768 ≤ holdSlack x ∧ holdSlack x ≤ 32767 := by
  unfold holdSlack
  omega

/-- Whenever the wind has reached Wc, the slack is at most 0. -/
theorem joinSlack_windy {k : ChanCfg} {v tau now : Nat} {a : Option Nat} (windy : k.wc ≤ v) :
    ∃ x o, joinSlack (rainSlack k a now tau) (windSlack k v tau) = some (x, o) ∧ x ≤ 0 ∧ (o = .threat ∨ o = .wind) := by
  obtain ⟨-, none, rain⟩ := joinSlack_cases k v tau now a
  cases a with
  | none => exact ⟨_, _, none rfl windy, by omega, .inr rfl⟩
  | some x =>
    obtain ⟨first, later⟩ := rain x _ rfl rfl
    by_cases order : ((x - 10 * k.guardS : Nat) : Int) - (now : Int) - (tau : Int) ≤ -(tau : Int)
    · exact ⟨_, _, first (.inr order), by omega, .inl rfl⟩
    · exact ⟨_, _, later windy (not_le.mp order), by omega, .inr rfl⟩

/-- The slack of a channel as a review holds it (R89). -/
def State.slackOf (s : State) (n : Ch) (k : ChanCfg) (v : Nat) (a : Option Nat) : Option (Int × Origin) :=
  let tau := travelTime k (closeDistance k (s.recs[n]'n.isLt).referenced (s.units[n]'n.isLt).count)
  (joinSlack (rainSlack k a s.now tau) (windSlack k v tau)).map (fun x => (holdSlack x.1, x.2))

theorem evalChannel_fitted {n : Ch} {k : ChanCfg} (v : Nat) (a : Option Nat) (chan : s.chan? n = some k) :
    s.evalChannel n v a =
      { distance := some (closeDistance k (s.recs[n]'n.isLt).referenced (s.units[n]'n.isLt).count)
        tau := some (travelTime k (closeDistance k (s.recs[n]'n.isLt).referenced (s.units[n]'n.isLt).count))
        slack := (s.slackOf n k v a).map (·.1), slackOrigin := (s.slackOf n k v a).map (·.2)
        ceiling := windCeiling k v, need := s.needFor n k (s.slackOf n k v a) (windCeiling k v) } := by
  unfold State.evalChannel
  rw [chan]
  rfl

theorem needFor_closed {n : Ch} (k : ChanCfg) (x : Option (Int × Origin)) (y : Nat) (closed : s.closed n = true) :
    s.needFor n k x y = .none := if_pos closed

theorem needFor_slack {n : Ch} (k : ChanCfg) (x : Int) (o : Origin) (y : Nat) (away : s.closed n = false) :
    s.needFor n k (some (x, o)) y = .close (slackBand x) o := if_neg (by rw [away]; decide)

/-- Settles O60: each table by the function that fills it. -/
theorem reviewsFollowTheirTables : Obligations.ReviewsFollowTheirTables := by
  unfold Obligations.ReviewsFollowTheirTables
  refine ⟨fun s => ?_, fun s x => mem_windSources, fun c v d peer unmapped => ?_, fun s c v d => ⟨countsWet_iff _, ?_, ?_⟩,
    fun s c v d a dry arrival => ?_, slackBand_iff, fun s n k v a d tau hold chan distance time holds => ?_,
    fun s n k v a chan => ⟨?_, ?_, ?_, ?_⟩⟩
  · obtain ⟨above, mem, first⟩ := strongest_spec s.windSources
    refine ⟨fun none => by rw [State.workingWind, none]; rfl, above, mem, fun offered eq => ?_⟩
    have own : s.windSources = (s.wind.assessment, s.vane.sector) :: s.windSources.tail := by
      unfold State.windSources
      rw [if_pos offered]
      rfl
    exact congrArg Prod.snd (first _ _ own eq)
  · have none : c.map.find? (fun e => e.peer = peer) = none :=
      List.find?_eq_none.mpr (fun e mem eq => unmapped e mem (of_decide_eq_true eq))
    unfold RunCfg.lag
    rw [none, Nat.mul_comm]
  · intro wet a time
    unfold State.threatArrival
    rw [if_pos wet, time]
    rfl
  · intro dry
    rw [threatArrival_dry dry]
    have empty : leastOf (s.peerArrivals c v d) = none ↔ s.peerArrivals c v d = [] := by
      cases s.peerArrivals c v d <;> simp [leastOf]
    rw [empty, List.eq_nil_iff_forall_not_mem]
    refine ⟨fun nobody p mem w wetness live => ?_, fun unled a mem => ?_⟩
    · cases lag : c.lag v d p.origin with
      | none => rfl
      | some l => exact absurd (mem_peerArrivals.mpr ⟨p, mem, w, l, wetness, live, lag, rfl⟩) (nobody _)
    · obtain ⟨p, mem, w, l, wetness, live, lag, -⟩ := mem_peerArrivals.mp mem
      cases (unled p mem w wetness live).symm.trans lag
  · rw [threatArrival_dry dry] at arrival
    obtain ⟨mem, below⟩ := leastOf_spec arrival
    exact ⟨mem_peerArrivals.mp mem, fun p hp w l wetness live lag => below _ (mem_peerArrivals.mpr ⟨p, hp, w, l, wetness, live, lag, rfl⟩)⟩
  · have distance' : closeDistance k (s.recs[n]'n.isLt).referenced (s.units[n]'n.isLt).count = d := distance.symm
    have time' : travelTime k d = tau := time.symm
    have hold' : holdSlack = hold := funext (fun y => (holds y).symm)
    obtain ⟨none, windy, rain⟩ := joinSlack_cases k v tau s.now a
    rw [evalChannel_fitted v a chan]
    dsimp only [State.slackOf]
    rw [distance', time', hold']
    refine ⟨rfl, rfl, rfl, fun e calm => ?_, fun e wind => ?_, fun x r e eq => ⟨fun first => ?_, fun wind later => ?_⟩⟩
    · rw [none e calm]
      exact ⟨rfl, rfl⟩
    · rw [windy e wind]
      exact ⟨rfl, rfl⟩
    · rw [(rain x r e eq).1 first]
      exact ⟨rfl, rfl⟩
    · rw [(rain x r e eq).2 wind later]
      exact ⟨rfl, rfl⟩
  · intro closed
    rw [evalChannel_fitted v a chan]
    exact needFor_closed k _ _ closed
  · intro away x o slack origin
    rw [evalChannel_fitted v a chan] at slack origin ⊢
    dsimp only at slack origin ⊢
    have range : ∀ y, s.slackOf n k v a = some y → -32768 ≤ y.1 ∧ y.1 ≤ 32767 := by
      intro y eq
      obtain ⟨z, -, rfl⟩ := Option.map_eq_some_iff.mp eq
      exact holdSlack_range z.1
    cases held : s.slackOf n k v a with
    | none => rw [held] at slack; cases slack
    | some y =>
      obtain ⟨y, o'⟩ := y
      rw [held] at slack origin
      cases slack
      cases origin
      exact ⟨needFor_slack k _ _ _ away, range _ held⟩
  · intro away windy
    rw [evalChannel_fitted v a chan]
    obtain ⟨x, o, joined, le, origin⟩ := joinSlack_windy (k := k) (v := v)
      (tau := travelTime k (closeDistance k (s.recs[n]'n.isLt).referenced (s.units[n]'n.isLt).count)) (now := s.now) (a := a) windy
    have held : s.slackOf n k v a = some (holdSlack x, o) := by
      unfold State.slackOf
      dsimp only
      rw [joined]
      rfl
    refine ⟨o, ?_, origin⟩
    have zero : slackBand (holdSlack x) = 0 := (slackBand_iff _).1.mpr (by unfold holdSlack; omega)
    rw [held, needFor_slack k _ _ _ away, zero]
  · intro away calm none
    rw [evalChannel_fitted v a chan]
    have held : s.slackOf n k v a = Option.none := by
      unfold State.slackOf
      dsimp only
      rw [(joinSlack_cases k v _ s.now a).1 none calm]
      rfl
    rw [held]
    unfold State.needFor
    dsimp only
    rw [if_neg (by rw [away]; decide)]
    simp only [Bool.not_eq_true']

end

end Sys2Proof.Machine

namespace Sys2Proof.Machine
set_option Elab.async false

/-! ### Filing (R145 to R152) -/

section

variable {s t : State}

/-! #### The peer table -/

/-- An entry that has been put is found, and the others stay as they are. -/
theorem peerFind_peerPut (o : Nat) (e : PeerEntry) (l : List PeerEntry) :
    peerFind o (peerPut e l) = if o = e.origin then some e else peerFind o l := by
  unfold peerFind
  induction l with
  | nil =>
    by_cases same : o = e.origin
    · simp [peerPut, same]
    · simp [peerPut, same, Ne.symm same]
  | cons p l ih =>
    unfold peerPut
    by_cases before : e.origin < p.origin
    · rw [if_pos before, List.find?_cons]
      by_cases same : o = e.origin
      · simp [same]
      · simp [same, Ne.symm same]
    · rw [if_neg before]
      by_cases own : e.origin = p.origin
      · rw [if_pos own, List.find?_cons, List.find?_cons]
        by_cases same : o = e.origin
        · simp [same]
        · have other : p.origin ≠ o := fun eq => same (eq ▸ own.symm)
          simp [same, Ne.symm same, other]
      · rw [if_neg own, List.find?_cons, List.find?_cons, ih]
        by_cases same : o = e.origin
        · have other : p.origin ≠ o := fun eq => own (same ▸ eq).symm
          simp [same, same ▸ other]
        · simp [same]

theorem peerFind_peerRemove (o r : Nat) (l : List PeerEntry) :
    peerFind o (peerRemove r l) = if o = r then none else peerFind o l := by
  unfold peerFind peerRemove
  rw [List.find?_filter]
  by_cases same : o = r
  · rw [if_pos same]
    exact List.find?_eq_none.mpr (fun p _ both => by simp_all)
  · rw [if_neg same]
    refine List.find?_congr (fun p _ => ?_)
    by_cases own : p.origin = o
    · simp [own, same]
    · simp [own]

/-- The entry to evict is the first of those without a live part (R148). -/
theorem foldl_evictFirst_spec (l : List PeerEntry) (p : PeerEntry) : ∀ q ∈ p :: l,
    (l.foldl evictFirst p).lastHeard < q.lastHeard ∨
      (l.foldl evictFirst p).lastHeard = q.lastHeard ∧ (l.foldl evictFirst p).origin ≤ q.origin := by
  induction l generalizing p with
  | nil => simp
  | cons x l ih =>
    intro q mem
    rw [List.foldl_cons]
    have first := ih (evictFirst p x)
    generalize List.foldl evictFirst _ l = m at first ⊢
    have chosen := first (evictFirst p x) (List.mem_cons_self ..)
    have order : ∀ q, q = p ∨ q = x → (evictFirst p x).lastHeard < q.lastHeard ∨
        (evictFirst p x).lastHeard = q.lastHeard ∧ (evictFirst p x).origin ≤ q.origin := by
      unfold evictFirst
      rintro q (rfl | rfl) <;> split <;> rename_i h <;> simp only [Bool.or_eq_true, Bool.and_eq_true, decide_eq_true_eq] at h <;> omega
    obtain rfl | mem := List.mem_cons.mp mem
    · have := order q (.inl rfl)
      omega
    · obtain rfl | mem := List.mem_cons.mp mem
      · have := order q (.inr rfl)
        omega
      · exact first q (List.mem_cons_of_mem _ mem)

theorem evictee_iff {own : Option Nat} {l : List PeerEntry} {p : PeerEntry} (sorted : (l.map (·.origin)).Pairwise (· < ·)) :
    evictee own l = some p ↔ p ∈ l ∧ p.hasLive own = false ∧ ∀ q ∈ l, q.hasLive own = false →
      p.lastHeard < q.lastHeard ∨ p.lastHeard = q.lastHeard ∧ p.origin ≤ q.origin := by
  have least : ∀ r, evictee own l = some r → ∀ q ∈ l, q.hasLive own = false →
      r.lastHeard < q.lastHeard ∨ r.lastHeard = q.lastHeard ∧ r.origin ≤ q.origin := by
    intro r h q mem dead
    unfold evictee at h
    have mem : q ∈ l.filter (fun p => !p.hasLive own) := List.mem_filter.mpr ⟨mem, by rw [dead]; rfl⟩
    split at h
    · rename_i none
      rw [none] at mem
      cases mem
    · rename_i x xs some
      cases h
      exact foldl_evictFirst_spec xs x q (some ▸ mem)
  refine ⟨fun h => ⟨(evictee_spec h).1, (evictee_spec h).2, least p h⟩, fun ⟨mem, dead, first⟩ => ?_⟩
  cases h : evictee own l with
  | none =>
    unfold evictee at h
    have mem : p ∈ l.filter (fun p => !p.hasLive own) := List.mem_filter.mpr ⟨mem, by rw [dead]; rfl⟩
    split at h
    · rename_i none
      rw [none] at mem
      cases mem
    · cases h
  | some r =>
    obtain ⟨memR, deadR⟩ := evictee_spec h
    have before := least r h p mem dead
    have after := first r memR deadR
    have origin : r.origin = p.origin := by omega
    have unique : ∀ (l : List PeerEntry), (l.map (·.origin)).Pairwise (· < ·) → p ∈ l → r ∈ l → r = p := by
      intro l sorted
      have nodup : (l.map (·.origin)).Nodup := sorted.imp (fun h => Nat.ne_of_lt h)
      exact fun memP memR => List.inj_on_of_nodup_map nodup memR memP origin
    rw [unique l sorted mem memR]

/-! #### A filing -/

/-- What a filing starts leaves the table and the frames alone. -/
def Tells (told : State → State) : Prop := ∀ u : State,
  (told u).block .table = u.block .table ∧ (told u).block .overflow = u.block .overflow ∧
    (told u).handler.lastOverflow = u.handler.lastOverflow

theorem tells_of_kept {told : State → State} (h : ∀ u, (told u).kept = u.kept) : Tells told :=
  fun u => ⟨block_of_kept (h u) .table, block_of_kept (h u) .overflow, kept_lastOverflow (h u)⟩

theorem tells_askReview : Tells State.askReview := tells_of_kept askReview_kept

theorem tells_askEval : Tells State.askEval := tells_of_kept askEval_kept

theorem tells_judgeExclusion : Tells (fun s => s.judgeExclusion.askReview) := by
  intro u
  obtain ⟨table, overflow, last⟩ := tells_askReview u.judgeExclusion
  refine ⟨table.trans (judgeExclusion_block u (by decide)), overflow.trans (judgeExclusion_block u (by decide)), last.trans ?_⟩
  obtain eq | ⟨-, -, eq⟩ := judgeExclusion_cases u
  · rw [eq]
  · have begun := congrArg (·.handler.lastOverflow) (beginCondition_kept { u with wind := { u.wind with excluded := true } } .windSensor)
    rw [eq]
    exact (kept_lastOverflow (askReview_kept _)).trans begun

/-- What a command that files leaves behind, once the table is `l`. -/
structure State.Filed (s t : State) (l : List PeerEntry) : Prop where
  peers : t.handler.peers = l
  hand : t.handler.inHand = s.line.queue.head?
  queue : t.line.queue = s.line.queue.tail
  lastOverflow : t.handler.lastOverflow = s.handler.lastOverflow
  overflow : t.handler.overflow = s.handler.overflow

theorem takeNext_filed {u : State} {l : List PeerEntry} (table : u.block .table = (s.setPeers l).block .table)
    (overflow : u.block .overflow = s.block .overflow) (last : u.handler.lastOverflow = s.handler.lastOverflow) :
    s.Filed u.takeNext l where
  peers := congrArg (·.handler.peers) table
  hand := congrArg (·.line.queue.head?) table
  queue := congrArg (·.line.queue.tail) table
  lastOverflow := last
  overflow := congrArg (·.handler.overflow) overflow

theorem told_filed {told : State → State} (tells : Tells told) (l : List PeerEntry) :
    s.Filed ((told (s.setPeers l)).finish.takeNext) l := by
  obtain ⟨table, overflow, last⟩ := tells (s.setPeers l)
  generalize told (s.setPeers l) = u at *
  exact takeNext_filed ((finish_block u .table).trans table) ((finish_block u .overflow).trans (overflow.trans rfl))
    ((kept_lastOverflow (finish_kept u)).trans last)

/-- The entry of an origin, or the one a filing makes for it. -/
def State.EntryFor (s : State) (f : RxFrame) (p : PeerEntry) : Prop :=
  peerFind f.origin s.handler.peers = some p ∨
    peerFind f.origin s.handler.peers = none ∧ s.handler.peers.length < 48 ∧ p = PeerEntry.fresh f.origin f.receipt

theorem State.EntryFor.origin {f : RxFrame} {p : PeerEntry} (h : s.EntryFor f p) : p.origin = f.origin := by
  obtain found | ⟨-, -, rfl⟩ := h
  · exact (peerFind_mem found).2
  · rfl

theorem fileInto_found {f : RxFrame} {gives : Bool} {update : PeerEntry → PeerEntry} {told : State → State} {p : PeerEntry}
    (found : peerFind f.origin s.handler.peers = some p) : s.fileInto f gives update told =
      told (s.setPeers (peerPut { update p with origin := f.origin, lastHeard := f.receipt } s.handler.peers)) := by
  unfold State.fileInto
  rw [found]

/-- A notice of an origin without an entry that gives no part leaves no trace. -/
theorem fileInto_ignored {f : RxFrame} {update : PeerEntry → PeerEntry} {told : State → State}
    (absent : peerFind f.origin s.handler.peers = none) : s.fileInto f false update told = s := by
  unfold State.fileInto
  rw [absent]
  rfl

theorem fileInto_made {f : RxFrame} {update : PeerEntry → PeerEntry} {told : State → State} {l : List PeerEntry}
    (absent : peerFind f.origin s.handler.peers = none) (room : makeRoom s.circuit? s.handler.peers = some l) :
    s.fileInto f true update told =
      told (s.setPeers (peerPut { update (.fresh f.origin f.receipt) with origin := f.origin, lastHeard := f.receipt } l)) := by
  unfold State.fileInto
  rw [absent, room]
  rfl

theorem fileInto_overflowed {f : RxFrame} {update : PeerEntry → PeerEntry} {told : State → State}
    (absent : peerFind f.origin s.handler.peers = none) (room : makeRoom s.circuit? s.handler.peers = none) :
    s.fileInto f true update told = s.overflowed := by
  unfold State.fileInto
  rw [absent, room]
  rfl

theorem fileInto_entry {f : RxFrame} {gives : Bool} {update : PeerEntry → PeerEntry} {told : State → State} {p : PeerEntry}
    (entry : s.EntryFor f p) (give : peerFind f.origin s.handler.peers = none → gives = true) : s.fileInto f gives update told =
      told (s.setPeers (peerPut { update p with origin := f.origin, lastHeard := f.receipt } s.handler.peers)) := by
  obtain found | ⟨absent, room, rfl⟩ := entry
  · exact fileInto_found found
  · rw [give absent]
    exact fileInto_made absent (if_pos room)

theorem takeNext_judged (h : s.Judged) : s.takeNext.Judged := h

/-! #### The commands -/

theorem inHandOf_of {f : RxFrame} {k : Nat} (hand : s.handler.inHand = some f) (kind : f.kind = k) : s.inHandOf k = some f := by
  unfold State.inHandOf
  rw [hand]
  exact if_pos kind

theorem execFileWetness_of {f : RxFrame} {w : WetnessFields} (hand : s.handler.inHand = some f) (kind : f.kind = 1)
    (fields : wetnessFields f.payload = some w) : exec .fileWetness s = .next ((s.fileWetness f w).finish).takeNext := by
  show execFileWetness s = _
  unfold execFileWetness
  rw [inHandOf_of hand kind]
  dsimp only
  rw [fields]

theorem execFileGust_of {f : RxFrame} {g : GustFields} (hand : s.handler.inHand = some f) (kind : f.kind = 2)
    (fields : gustFields f.payload = some g) : exec .fileGust s = .next ((s.fileGust f g).finish).takeNext := by
  show execFileGust s = _
  unfold execFileGust
  rw [inHandOf_of hand kind]
  dsimp only
  rw [fields]

theorem execFileDraw_of {f : RxFrame} {d : DrawFields} (hand : s.handler.inHand = some f) (kind : f.kind = 3)
    (fields : drawFields f.payload = some d) : exec .fileDraw s = .next ((s.fileDraw f d).finish).takeNext := by
  show execFileDraw s = _
  unfold execFileDraw
  rw [inHandOf_of hand kind]
  dsimp only
  rw [fields]

/-- The part that a WETNESS of phase 0 or 1 gives. -/
def WetnessFields.part (w : WetnessFields) (f : RxFrame) : WetnessPart := { onset := f.receipt - w.age, left := 2000 - f.age }

/-- The part that a GUST gives. -/
def GustFields.part (g : GustFields) (f : RxFrame) : WindPart :=
  { assessment := g.assessment, sector := g.sector, left := 1800 - f.age }

theorem fileWetness_gives {f : RxFrame} {w : WetnessFields} (phase : w.phase ≤ 1) :
    s.fileWetness f w = s.fileInto f true (fun p => { p with wetness := some (w.part f) }) State.askReview :=
  if_neg (by omega)

theorem fileWetness_withdraws {f : RxFrame} {w : WetnessFields} (phase : w.phase = 2) : ∃ ask : Bool,
    s.fileWetness f w = s.fileInto f false (fun p => { p with wetness := none }) (fun u => if ask then u.askReview else u) :=
  ⟨_, if_pos phase⟩

theorem claim_or_waiting {f : RxFrame} {d : DrawFields} :
    ((d.claim f.age).isSome || (d.waiting f.age).isSome) = true ↔ 0 < d.draw ∧ f.age < d.hold ∨ d.waitMost ≠ none := by
  unfold DrawFields.claim DrawFields.waiting
  rw [Bool.or_eq_true, Option.isSome_map, Option.isSome_iff_ne_none (o := d.waitMost)]
  refine or_congr_left ?_
  split <;> simp_all

/-- The entry that a filing leaves, and the others. -/
theorem State.Filed.put {l : List PeerEntry} {e : PeerEntry} (h : s.Filed t (peerPut e l)) (o : Nat) :
    peerFind o t.handler.peers = if o = e.origin then some e else peerFind o l := by
  rw [h.peers]
  exact peerFind_peerPut o e l

/-- Settles O43: a filing puts the entry (`fileInto_entry`), and what it starts leaves the table (`told_filed`). -/
theorem noticesAreFiled : Obligations.NoticesAreFiled := by
  unfold Obligations.NoticesAreFiled
  intro s f p hand entry
  have entry : s.EntryFor f p := entry
  have origin := entry.origin
  refine ⟨fun w kind fields phase => ?_, fun w kind fields phase => ?_, fun g kind fields => ?_, fun d kind fields gives => ?_⟩
  · have ends := execFileWetness_of hand kind fields
    rw [fileWetness_gives phase, fileInto_entry entry (fun _ => rfl)] at ends
    have filed := told_filed (s := s) tells_askReview
    refine ⟨_, ends, (filed _).hand, (filed _).queue, fun _ => takeNext_judged (finish_askReview_judged _), fun o ne => ?_, ?_⟩
    · rw [(filed (peerPut _ _)).put o, if_neg ne]
    · rw [(filed (peerPut _ _)).put, if_pos rfl, ← origin]
      rfl
  · have ends := execFileWetness_of hand kind fields
    obtain ⟨ask, cases⟩ := fileWetness_withdraws (s := s) (f := f) phase
    cases found : peerFind f.origin s.handler.peers with
    | none =>
      rw [cases, fileInto_ignored found] at ends
      have filed : s.Filed s.finish.takeNext s.handler.peers :=
        takeNext_filed (finish_block s .table) (finish_block s .overflow) (kept_lastOverflow (finish_kept s))
      refine ⟨_, ends, filed.hand, fun o _ => by rw [filed.peers], by rw [filed.peers]; exact found⟩
    | some q =>
      rw [cases, fileInto_found found] at ends
      have tells : Tells (fun u => if ask then u.askReview else u) := tells_of_kept (fun u => by
        cases ask
        · rfl
        · exact askReview_kept u)
      have filed := told_filed (s := s) tells
      refine ⟨_, ends, (filed _).hand, fun o ne => ?_, ?_⟩
      · rw [(filed (peerPut _ _)).put o, if_neg ne]
      · rw [(filed (peerPut _ _)).put, if_pos rfl, ← (peerFind_mem found).2]
        rfl
  · have ends := execFileGust_of hand kind fields
    have cases : s.fileGust f g = s.fileInto f true (fun p => { p with wind := some (g.part f) })
      (fun s => s.judgeExclusion.askReview) := rfl
    rw [cases, fileInto_entry entry (fun _ => rfl)] at ends
    have filed := told_filed (s := s) tells_judgeExclusion
    refine ⟨_, ends, (filed _).hand, fun _ => takeNext_judged (finish_askReview_judged _), fun o ne => ?_, ?_⟩
    · rw [(filed (peerPut _ _)).put o, if_neg ne]
    · rw [(filed (peerPut _ _)).put, if_pos rfl, ← origin]
      rfl
  · have ends := execFileDraw_of hand kind fields
    have cases : s.fileDraw f d = s.fileInto f ((d.claim f.age).isSome || (d.waiting f.age).isSome)
      (fun p => { p with circuit := some d.circuit, claim := d.claim f.age, waiting := d.waiting f.age }) State.askEval := rfl
    rw [cases, fileInto_entry entry (fun absent => claim_or_waiting.mpr (gives.resolve_left (absurd absent)))] at ends
    have filed := told_filed (s := s) tells_askEval
    refine ⟨_, ends, (filed _).hand, fun o ne => ?_, ?_⟩
    · rw [(filed (peerPut _ _)).put o, if_neg ne]
    · rw [(filed (peerPut _ _)).put, if_pos rfl, ← origin]
      rfl

end

end Sys2Proof.Machine

namespace Sys2Proof.Machine
set_option Elab.async false

/-! ### A full table (R148, R149) -/

section

variable {s t : State}

/-- The command files a notice that gives an entry a part; `e` is the entry it makes where there was none. -/
def State.FilesPart (s : State) (c : Instr) (f : RxFrame) (e : PeerEntry) : Prop :=
  ∃ (update : PeerEntry → PeerEntry) (told : State → State), Tells told ∧
    exec c s = .next (s.fileInto f true update told).finish.takeNext ∧
    { update (.fresh f.origin f.receipt) with origin := f.origin, lastHeard := f.receipt } = e

theorem filesPart_wetness {f : RxFrame} {w : WetnessFields} (hand : s.handler.inHand = some f) (kind : f.kind = 1)
    (fields : wetnessFields f.payload = some w) (phase : w.phase ≤ 1) :
    s.FilesPart .fileWetness f { PeerEntry.fresh f.origin f.receipt with wetness := some (w.part f) } := by
  refine ⟨fun p => { p with wetness := some (w.part f) }, State.askReview, tells_askReview, ?_, rfl⟩
  rw [execFileWetness_of hand kind fields, fileWetness_gives phase]

theorem filesPart_gust {f : RxFrame} {g : GustFields} (hand : s.handler.inHand = some f) (kind : f.kind = 2)
    (fields : gustFields f.payload = some g) :
    s.FilesPart .fileGust f { PeerEntry.fresh f.origin f.receipt with wind := some (g.part f) } :=
  ⟨fun p => { p with wind := some (g.part f) }, fun s => s.judgeExclusion.askReview, tells_judgeExclusion,
    execFileGust_of hand kind fields, rfl⟩

theorem filesPart_draw {f : RxFrame} {d : DrawFields} (hand : s.handler.inHand = some f) (kind : f.kind = 3)
    (fields : drawFields f.payload = some d) (gives : 0 < d.draw ∧ f.age < d.hold ∨ d.waitMost ≠ none) :
    s.FilesPart .fileDraw f { PeerEntry.fresh f.origin f.receipt with
      circuit := some d.circuit, claim := d.claim f.age, waiting := d.waiting f.age } := by
  refine ⟨fun p => { p with circuit := some d.circuit, claim := d.claim f.age, waiting := d.waiting f.age }, State.askEval,
    tells_askEval, ?_, rfl⟩
  rw [execFileDraw_of hand kind fields]
  unfold State.fileDraw
  rw [claim_or_waiting.mpr gives]

theorem makeRoom_full {own : Option Nat} {l : List PeerEntry} (full : 48 ≤ l.length) :
    makeRoom own l = (evictee own l).map (fun p => peerRemove p.origin l) := if_neg (Nat.not_lt.mpr full)

/-- Where every entry has a live part, none can go. -/
theorem evictee_none {own : Option Nat} {l : List PeerEntry} (live : ∀ p ∈ l, p.hasLive own = true) : evictee own l = none := by
  cases h : evictee own l with
  | none => rfl
  | some p =>
    obtain ⟨mem, dead⟩ := evictee_spec h
    cases dead.symm.trans (live p mem)

theorem peerFind_none {o : Nat} {l : List PeerEntry} (absent : peerFind o l = none) {p : PeerEntry} (mem : p ∈ l) : p.origin ≠ o :=
  fun eq => List.find?_eq_none.mp absent p mem (decide_eq_true eq)

/-- An entry without a live part gives way to the one that a filing makes. -/
theorem State.FilesPart.evicts {c : Instr} {f : RxFrame} {p e : PeerEntry} (files : s.FilesPart c f e)
    (absent : peerFind f.origin s.handler.peers = none) (full : 48 ≤ s.handler.peers.length)
    (goes : evictee s.circuit? s.handler.peers = some p) :
    ∃ t, exec c s = .next t ∧ peerFind p.origin t.handler.peers = none ∧ peerFind f.origin t.handler.peers = some e ∧
      (∀ o, o ≠ f.origin → o ≠ p.origin → peerFind o t.handler.peers = peerFind o s.handler.peers) ∧
      t.handler.inHand = s.line.queue.head? ∧ t.handler.lastOverflow = s.handler.lastOverflow ∧
      t.handler.overflow = s.handler.overflow := by
  obtain ⟨update, told, tells, ends, rfl⟩ := files
  have room : makeRoom s.circuit? s.handler.peers = some (peerRemove p.origin s.handler.peers) := by
    rw [makeRoom_full full, goes]
    rfl
  rw [fileInto_made absent room] at ends
  have filed := told_filed (s := s) tells (peerPut
    { update (.fresh f.origin f.receipt) with origin := f.origin, lastHeard := f.receipt } (peerRemove p.origin s.handler.peers))
  have other : p.origin ≠ f.origin := peerFind_none absent (evictee_spec goes).1
  refine ⟨_, ends, ?_, ?_, fun o ne ne' => ?_, filed.hand, filed.lastOverflow, filed.overflow⟩
  · rw [filed.put, if_neg other, peerFind_peerRemove, if_pos rfl]
  · rw [filed.put, if_pos rfl]
  · rw [filed.put, if_neg ne, peerFind_peerRemove, if_neg ne']

theorem overflowed_flag (s : State) : s.overflowed.flag .peerOverflow = { raised := true, condition := true } := by
  unfold State.overflowed
  dsimp only
  rw [raise_flag, if_pos rfl, setCondition_flag, if_pos rfl]

/-- Where every entry has a live part, the notice is ignored and PEER OVERFLOW is raised. -/
theorem State.FilesPart.overflows {c : Instr} {f : RxFrame} {e : PeerEntry} (files : s.FilesPart c f e)
    (absent : peerFind f.origin s.handler.peers = none) (full : 48 ≤ s.handler.peers.length)
    (live : ∀ p ∈ s.handler.peers, p.hasLive s.circuit? = true) :
    ∃ t, exec c s = .next t ∧ t.handler.peers = s.handler.peers ∧ t.handler.lastOverflow = some s.now ∧
      t.handler.overflow = some 600 ∧ t.flag .peerOverflow = { raised := true, condition := true } ∧
      t.handler.inHand = s.line.queue.head? := by
  obtain ⟨update, told, tells, ends, -⟩ := files
  have room : makeRoom s.circuit? s.handler.peers = none := by
    rw [makeRoom_full full, evictee_none live]
    rfl
  rw [fileInto_overflowed absent room] at ends
  have kept := finish_kept s.overflowed
  have raised := congrArg State.handler (raiseAt_kept (State.setCondition { s with
    handler := { s.handler with lastOverflow := some s.now, overflow := some 600 } } .peerOverflow true) FlagId.peerOverflow.index)
  have table := (finish_block s.overflowed .table).trans (overflowed_block s (by decide))
  have flag := (flag_of_flags (kept_flags kept) .peerOverflow).trans (overflowed_flag s)
  have last : s.overflowed.handler.lastOverflow = some s.now := congrArg (·.lastOverflow) raised
  have left : s.overflowed.handler.overflow = some 600 := congrArg (·.overflow) raised
  generalize s.overflowed = u at *
  exact ⟨_, ends, congrArg (·.handler.peers) table, (kept_lastOverflow kept).trans last, (kept_overflow kept).trans left, flag,
    congrArg (·.line.queue.head?) table⟩

/-- Settles O44: the order of eviction by `evictee_iff`; the three kinds by what they have in common (`State.FilesPart`). -/
theorem fullTableEvicts : Obligations.FullTableEvicts := by
  unfold Obligations.FullTableEvicts
  refine ⟨fun own l p sorted => evictee_iff sorted, fun c s f p e hand absent full goes files => ?_,
    fun c s f hand files absent full live => ?_⟩
  · have files : s.FilesPart c f e := by
      obtain ⟨rfl, kind, w, fields, phase, rfl⟩ | ⟨rfl, kind, g, fields, rfl⟩ | ⟨rfl, kind, d, fields, gives, rfl⟩ := files
      · exact filesPart_wetness hand kind fields phase
      · exact filesPart_gust hand kind fields
      · exact filesPart_draw hand kind fields gives
    exact files.evicts absent full goes
  · obtain ⟨e, files⟩ : ∃ e, s.FilesPart c f e := by
      obtain ⟨rfl, kind, w, fields, phase⟩ | ⟨rfl, kind, some⟩ | ⟨rfl, kind, d, fields, gives⟩ := files
      · exact ⟨_, filesPart_wetness hand kind fields phase⟩
      · obtain ⟨g, fields⟩ := Option.ne_none_iff_exists'.mp some
        exact ⟨_, filesPart_gust hand kind fields⟩
      · exact ⟨_, filesPart_draw hand kind fields gives⟩
    exact files.overflows absent full live

end

end Sys2Proof.Machine

namespace Sys2Proof.Machine
set_option Elab.async false

/-! ### The line controller (R124, R130 to R135, R139) -/

section

variable {s t : State}

/-- What the begin of a condition leaves of the line and the handler. -/
theorem beginCondition_rest (s : State) (f : FlagId) : (s.beginCondition f).kept.line = s.kept.line ∧
    (s.beginCondition f).handler.peers = s.handler.peers ∧ (s.beginCondition f).handler.isolated = s.handler.isolated ∧
    (s.beginCondition f).handler.isolation = s.handler.isolation ∧ (s.beginCondition f).handler.inHand = s.handler.inHand := by
  have kept := beginCondition_kept s f
  generalize s.beginCondition f = t at kept ⊢
  exact ⟨congrArg (·.line) kept, congrArg (·.handler.peers) kept, congrArg (·.handler.isolated) kept,
    congrArg (·.handler.isolation) kept, congrArg (·.handler.inHand) kept⟩

theorem bitTime_notSending (quiet : s.line.tx = .notSending) : s.bitTime = s := by
  unfold State.bitTime LineCtl.bitTime
  rw [quiet]
  rfl

theorem bitTime_sending {e : PoolEntry} {frame : List Bool} {k : Nat} (sending : s.line.tx = .sending e frame k) :
    s.bitTime = s.setLine { s.line with
      tx := .sending e frame (min frame.length (k + 1)), idle := (if k = 1 then false else s.line.idle) } := by
  unfold State.bitTime LineCtl.bitTime
  rw [sending]

theorem bitTime_holding {e : PoolEntry} {k : Nat} (holding : s.line.tx = .holding e k) :
    s.bitTime = s.setLine { s.line with tx := .holding e (min 8 (k + 1)) } := by
  unfold State.bitTime LineCtl.bitTime
  rw [holding]
  rfl

/-- The pins carry the bit begun last (R122). -/
theorem dominant_sending {e : PoolEntry} {frame : List Bool} {k : Nat} (sending : s.line.tx = .sending e frame k) :
    s.line.tx.dominant = true ↔ ∃ pos, k = pos + 1 ∧ frame[pos]? = some false := by
  rw [sending]
  unfold Transmitter.dominant
  rw [Bool.and_eq_true, decide_eq_true_eq, decide_eq_true_eq]
  cases k with
  | zero => simp
  | succ pos => simp

/-- The steps of a frame that is being sent, bit by bit. -/
theorem execFrameSuccess_sending {e : PoolEntry} {frame : List Bool} {k : Nat} (sending : s.line.tx = .sending e frame k) :
    (k = frame.length → exec .frameSuccess s = .next (s.setLine { s.line with tx := .notSending, failures := 0 })) ∧
      (k ≠ frame.length → exec .frameSuccess s = .next s) := by
  have ends : exec .frameSuccess s = execFrameSuccess s := rfl
  unfold execFrameSuccess at ends
  rw [sending] at ends
  exact ⟨fun last => ends.trans (if_pos last), fun more => ends.trans (if_neg more)⟩

theorem execStartBit_sending {e : PoolEntry} {frame : List Bool} {k : Nat} (sending : s.line.tx = .sending e frame k) :
    (1 ≤ k → exec .startBitFromAnotherStation s = .next s) ∧
      ∀ a, s.port.ownAddress = some a → k = 0 → s.line.idle = true → exec .startBitFromAnotherStation s =
        .next (s.setLine { s.line with
          idle := false, receiving := true, tx := .notSending, waiting := poolReturn e s.line.waiting }) := by
  have ends : exec .startBitFromAnotherStation s = execStartBitFromAnotherStation s := rfl
  unfold execStartBitFromAnotherStation at ends
  refine ⟨fun begun => ?_, fun a address first idle => ?_⟩
  · obtain ⟨j, rfl⟩ := Nat.exists_eq_add_of_le' begun
    rw [ends, sending]
    split
    · rfl
    · exact ite_self _
  · subst first
    rw [ends, address, sending]
    exact if_pos idle

theorem execArbitrationLoss_sending {e : PoolEntry} {frame : List Bool} {k : Nat} (sending : s.line.tx = .sending e frame k) (pos : Nat) :
    (k ≠ pos + 1 → exec (.arbitrationLoss pos) s = .next s) ∧
      ∀ a sent, s.port.ownAddress = some a → k = pos + 1 → frame[pos]? = some sent → 1 ≤ pos → pos < arbitrationEnd e.rank a →
        sent = true → exec (.arbitrationLoss pos) s = .next (s.setLine { s.line with
          tx := .notSending, receiving := true, idle := false, waiting := poolReturn e s.line.waiting }) := by
  have ends : exec (.arbitrationLoss pos) s = execArbitrationLoss pos s := rfl
  unfold execArbitrationLoss at ends
  rw [sending] at ends
  refine ⟨fun other => ?_, fun a sent address place bit first field recessive => ?_⟩
  · rw [ends]
    cases s.port.ownAddress with
    | none => rfl
    | some a => exact if_neg (by simp [other])
  · rw [address] at ends
    refine ends.trans (if_pos ?_)
    unfold lossArises
    simp [place, bit, recessive, first, field]

theorem execBitError_sending {e : PoolEntry} {frame : List Bool} {k : Nat} (sending : s.line.tx = .sending e frame k) (pos : Nat) :
    (k ≠ pos + 1 → exec (.bitError pos) s = .next s) ∧
      ∀ a sent, s.port.ownAddress = some a → k = pos + 1 → frame[pos]? = some sent →
        pos = 0 ∨ arbitrationEnd e.rank a ≤ pos ∨ sent = false → exec (.bitError pos) s = .next (s.setLine { s.line with
          tx := .holding e 0, receiving := false, idle := (if sent = true then false else s.line.idle) }) := by
  have ends : exec (.bitError pos) s = execBitError pos s := rfl
  unfold execBitError at ends
  rw [sending] at ends
  refine ⟨fun other => ?_, fun a sent address place bit arises => ?_⟩
  · rw [ends]
    cases s.port.ownAddress with
    | none => rfl
    | some a => exact if_neg (by simp [other])
  · rw [address] at ends
    have error : errorArises e a pos frame = true := by
      unfold errorArises
      rw [bit]
      simpa [or_assoc] using arises
    refine (ends.trans (if_pos ?_)).trans ?_
    · rw [error, place]
      simp
    · rw [bit]
      simp

theorem execBitErrorHoldEnd_more {e : PoolEntry} {k : Nat} (heard : Bool) (holding : s.line.tx = .holding e k) (more : k < 8) :
    exec (.bitErrorHoldEnd heard) s = .next s := by
  have ends : exec (.bitErrorHoldEnd heard) s = execBitErrorHoldEnd heard s := rfl
  unfold execBitErrorHoldEnd at ends
  rw [holding] at ends
  exact ends.trans (if_pos more)

/-- The line after the end of a hold, its mode apart (R131, R132, R139). -/
def LineCtl.holdEnded (l : LineCtl) (e : PoolEntry) (heard : Bool) : LineCtl :=
  { l with
    tx := .notSending, failures := min 16 (l.failures + 1), waiting := poolReturn e l.waiting
    idle := if heard then false else l.idle }

theorem execBitErrorHoldEnd_over {e : PoolEntry} (heard : Bool) (holding : s.line.tx = .holding e 8) (mode : s.line.mode = .normal) :
    exec (.bitErrorHoldEnd heard) s = if s.line.failures < 15 then .next (s.setLine (s.line.holdEnded e heard))
      else .next ((s.setLine { s.line.holdEnded e heard with mode := .listenOnly 600 }).beginCondition .lineFault).finish := by
  have ends : exec (.bitErrorHoldEnd heard) s = execBitErrorHoldEnd heard s := rfl
  unfold execBitErrorHoldEnd at ends
  rw [holding] at ends
  refine ends.trans ((if_neg (by decide)).trans ?_)
  have normal : s.line.mode.isNormal = true := by rw [mode]; rfl
  dsimp only
  rw [normal, Bool.and_true]
  by_cases few : s.line.failures < 15
  · rw [if_pos few, if_neg (by rw [decide_eq_true_eq]; omega)]
    rfl
  · rw [if_neg few, if_pos (by rw [decide_eq_true_eq]; omega)]
    rfl

/-! #### The LISTEN-ONLY expiry -/

theorem submit_faultAck (s : State) (e : Notice) (r : Nat) (a : Option Nat) :
    (State.submit { s with line := { s.line with faultAck := a } } e r).line = { (s.submit e r).line with faultAck := a } := by
  unfold State.submit
  dsimp only
  split <;> rfl

theorem endLineFault_flag (s : State) : s.endLineFault.flag .lineFault =
    { raised := (s.flag .lineFault).raised && !s.faultAcked, condition := false } := by
  have ended : (({ s with line := { s.line with faultAck := none } } : State).endCondition .lineFault).flag .lineFault =
      { s.flag .lineFault with condition := false } :=
    (setCondition_flag { s with line := { s.line with faultAck := none } } .lineFault .lineFault false).trans (if_pos rfl)
  unfold State.endLineFault
  dsimp only
  generalize State.endCondition _ _ = u at ended ⊢
  cases acked : s.faultAcked
  · rw [if_neg (by decide), ended, Bool.not_false, Bool.and_true]
  · rw [if_pos rfl, Bool.not_true, Bool.and_false]
    refine (clearAt_flags u _ _).trans ((if_pos rfl).trans ?_)
    exact congrArg (fun f : Flag => { f with raised := false }) ended

/-- The part of O40 about the LISTEN-ONLY expiry. -/
theorem execListenOnlyExpiry_over (expired : s.line.mode = .listenOnly 0) : ∃ v : State,
    (v = (s.setLine { s.line with mode := .normal, failures := 0 }).endLineFault ∨
      v = (s.setLine { s.line with mode := .normal, failures := 0 }).endLineFault.askEval) ∧
    exec .listenOnlyExpiry s = .next v.finish := by
  have ends : exec .listenOnlyExpiry s = execListenOnlyExpiry s := rfl
  unfold execListenOnlyExpiry at ends
  rw [expired] at ends
  generalize State.endLineFault _ = u at ends ⊢
  dsimp only at ends
  cases isolated : u.handler.isolated
  · exact ⟨_, .inr rfl, ends.trans (by rw [isolated]; rfl)⟩
  · exact ⟨_, .inl rfl, ends.trans (by rw [isolated]; rfl)⟩

theorem faultAcked_iff (s : State) : s.faultAcked = true ↔ ∃ a, s.line.faultAck = some a ∧ a < s.now := by
  unfold State.faultAcked
  cases s.line.faultAck <;> simp

/-- Settles O40: frame and hold bit by bit, the idle line, the end of a hold and of LISTEN-ONLY. -/
theorem transmitterFollowsTheLine : Obligations.TransmitterFollowsTheLine := by
  unfold Obligations.TransmitterFollowsTheLine
  refine ⟨⟨fun s a e w address quiet waiting idle mode => ?_, fun s quiet => ⟨bitTime_notSending quiet, by rw [quiet]; rfl⟩,
      fun s e frame k sending => ⟨bitTime_sending sending, dominant_sending sending, (execFrameSuccess_sending sending).1,
        (execFrameSuccess_sending sending).2, (execStartBit_sending sending).1,
        fun pos other => ⟨(execArbitrationLoss_sending sending pos).1 other, (execBitError_sending sending pos).1 other⟩,
        fun a address => ⟨(execStartBit_sending sending).2 a address, fun pos sent place bit =>
          ⟨(execArbitrationLoss_sending sending pos).2 a sent address place bit,
            (execBitError_sending sending pos).2 a sent address place bit⟩⟩⟩,
      fun s a address => ⟨?_, fun quiet idle => ?_⟩, fun bits s f fault => ?_⟩,
    fun heard s e k holding => ⟨bitTime_holding holding, by rw [holding]; exact decide_eq_true_iff, execBitErrorHoldEnd_more heard holding⟩,
    fun heard s e holding mode few => ?_, faultAcked_iff, fun s u expired eq => ?_⟩
  · have ends : exec .transmissionStart s = execTransmissionStart s := rfl
    unfold execTransmissionStart at ends
    rw [address, quiet, waiting] at ends
    exact ends.trans (if_pos (by rw [idle, mode]; rfl))
  · have ends : exec .lineIdle s = execLineIdle s := rfl
    unfold execLineIdle at ends
    rw [address] at ends
    exact ends
  · have ends : exec .startBitFromAnotherStation s = execStartBitFromAnotherStation s := rfl
    unfold execStartBitFromAnotherStation at ends
    rw [address, quiet] at ends
    exact ends.trans (if_pos idle)
  · have ends : exec (.frameAbandoned bits) s = execFrameAbandoned bits s := rfl
    unfold execFrameAbandoned at ends
    rw [fault] at ends
    exact ends
  · have ends := execBitErrorHoldEnd_over heard holding mode
    by_cases more : s.line.failures < 15
    · rw [if_pos more] at ends
      exact ⟨_, ends, rfl, min_eq_right (by omega), rfl, fun _ => ⟨mode, rfl, rfl⟩, fun last => by omega⟩
    · rw [if_neg more] at ends
      have kept := finish_kept ((s.setLine { s.line.holdEnded e heard with mode := .listenOnly 600 }).beginCondition .lineFault)
      obtain ⟨line, -⟩ := beginCondition_rest (s.setLine { s.line.holdEnded e heard with mode := .listenOnly 600 }) .lineFault
      obtain ⟨condition, raised⟩ := beginCondition_flag_self (s.setLine { s.line.holdEnded e heard with mode := .listenOnly 600 }) .lineFault
      refine ⟨_, ends, ?_⟩
      generalize State.beginCondition _ _ = v at *
      have flag := flag_of_flags (kept_flags kept) .lineFault
      refine ⟨(kept_tx kept).trans (congrArg (·.tx) line), (kept_failures kept).trans ((congrArg (·.failures) line).trans
          (min_eq_right (by omega))), (kept_idle kept).trans (congrArg (·.idle) line), fun few => absurd few more, fun _ =>
        ⟨(kept_mode kept).trans (congrArg (·.mode) line), ?_, ?_⟩⟩
      · rw [flag]
        exact condition
      · rw [flag]
        exact raised
  · obtain ⟨v, cases, ends⟩ := execListenOnlyExpiry_over expired
    have ended := endLineFault_kept (s.setLine { s.line with mode := .normal, failures := 0 })
    have flag := endLineFault_flag (s.setLine { s.line with mode := .normal, failures := 0 })
    have settled : v.finish.kept = ((s.setLine { s.line with mode := .normal, failures := 0 }).endLineFault).kept := by
      refine (finish_kept v).trans ?_
      obtain rfl | rfl := cases
      · rfl
      · exact askEval_kept _
    have after : v.finish.flag .lineFault = { raised := (s.flag .lineFault).raised && !s.faultAcked, condition := false } :=
      (flag_of_flags (kept_flags settled) _).trans flag
    have kept := settled.trans ended
    refine ⟨_, ends, ?_⟩
    generalize v.finish = t at *
    refine ⟨kept_mode kept, kept_failures kept, kept_faultAck kept, after, ?_, fun raised acked => ?_⟩
    · rw [after, kept, eq]
      rfl
    · unfold State.endLineFault
      dsimp only
      rw [acked, if_pos rfl, clearAt_line]
      · refine Eq.trans (submit_line_congr (s := { s with line := { s.line with faultAck := none } })
          (t := State.endCondition { s with line := { s.line with faultAck := none } } .lineFault) rfl rfl _ _) ?_
        exact submit_faultAck s (.alarm 6 0 false) 10 none
      · have same : (({ s with line := { s.line with faultAck := none } } : State).endCondition .lineFault).flag .lineFault =
            { s.flag .lineFault with condition := false } :=
          (setCondition_flag { s with line := { s.line with faultAck := none } } .lineFault .lineFault false).trans (if_pos rfl)
        exact (congrArg Flag.raised same).trans raised

end

end Sys2Proof.Machine

namespace Sys2Proof.Machine
set_option Elab.async false

/-! ### A valid frame, and isolation (R133 to R135, R157 to R160) -/

section

variable {s t : State}

/-! #### A frame of the own origin -/

theorem clash_kept_line (s : State) : s.clash.kept.line = ({ s with line := { s.line with mode := .clashed, faultAck := none } } : State).kept.line ∧
    s.clash.handler.inHand = s.handler.inHand ∧ s.clash.handler.isolated = s.handler.isolated := by
  unfold State.clash
  dsimp only
  split
  · obtain ⟨line, -, isolated, -, hand⟩ := beginCondition_rest (s.setLine { s.line with mode := .clashed, faultAck := none }) .addressClash
    exact ⟨line, hand, isolated⟩
  · obtain ⟨line, -, isolated, -, hand⟩ :=
      beginCondition_rest ((s.setLine { s.line with mode := .clashed, faultAck := none }).endCondition .lineFault) .addressClash
    exact ⟨line, hand, isolated⟩

theorem clash_addressClash (s : State) : s.clash.flag .addressClash = (s.flag .addressClash).begun := by
  unfold State.clash
  dsimp only
  rw [beginCondition_flag, if_pos rfl]
  split
  · rfl
  · exact congrArg Flag.begun ((setCondition_flag _ .lineFault .addressClash false).trans (if_neg nofun))

theorem clash_lineFault (mode : s.line.mode ≠ .normal) : (s.clash.flag .lineFault).condition = false := by
  have other : s.line.mode.isNormal = false := by
    cases h : s.line.mode <;> first | rfl | exact absurd h mode
  unfold State.clash
  dsimp only
  rw [other, if_neg Bool.false_ne_true, beginCondition_flag, if_neg nofun]
  exact congrArg Flag.condition ((setCondition_flag _ .lineFault .lineFault false).trans (if_pos rfl))

theorem execFrameArrival_of {bits : List Bool} {a origin kind : Nat} {payload : List Byte} (address : s.port.ownAddress = some a)
    (quiet : s.line.tx = .notSending) (receiving : s.line.receiving = true) (frame : receive bits = .frame origin kind payload) :
    exec (.frameArrival bits) s = if origin = a then .next (s.setLine { s.line with receiving := false }).clash.finish
      else .next ((s.setLine { s.line with receiving := false }).heard.offer
        { origin := origin, kind := kind, payload := payload, receipt := s.now, age := 0 }).finish := by
  have ends : exec (.frameArrival bits) s = execFrameArrival bits s := rfl
  unfold execFrameArrival at ends
  rw [address, quiet, frame] at ends
  exact ends.trans (if_pos receiving)

/-! #### A frame of another origin -/

/-- What a report of a valid frame leaves alone. -/
theorem heard_rest (s : State) : s.heard.kept.line = s.kept.line ∧ s.heard.handler.inHand = s.handler.inHand ∧
    s.heard.filing = s.filing ∧ s.heard.rereading = s.rereading := by
  have outer (u : State) : (if u.line.mode.isNormal then u.askEval else u).kept = u.kept := by
    split
    · exact askEval_kept u
    · rfl
  unfold State.heard
  split
  · exact ⟨rfl, rfl, rfl, rfl⟩
  · rename_i c config
    dsimp only
    split
    · have kept := (outer _).trans (askReview_kept (State.endCondition { s with handler := { s.handler with
        isolation := some (10 * c.isolationS), isolated := false } } .isolation))
      have reread := kept_rereading kept
      refine ⟨congrArg (·.line) kept, congrArg (·.handler.inHand) kept, ?_, reread⟩
      unfold State.filing
      rw [kept_config kept, kept_read kept]
      rfl
    · exact ⟨rfl, rfl, rfl, rfl⟩

/-- A valid frame ends isolation and starts its timer anew (R157, R159). -/
theorem heard_ends {c : RunCfg} (config : s.port.config = some c) : s.heard.handler.isolated = false ∧
    s.heard.handler.isolation = some (10 * c.isolationS) ∧ (s.handler.isolated = true →
      s.heard.flag .isolation = { s.flag .isolation with condition := false } ∧
        (s.rereading = false → s.heard.reviewDue = true)) := by
  have outer (u : State) : (if u.line.mode.isNormal then u.askEval else u).kept = u.kept ∧
      (if u.line.mode.isNormal then u.askEval else u).reviewDue = u.reviewDue := by
    split
    · exact ⟨askEval_kept u, State.askEval_reviewDue u⟩
    · exact ⟨rfl, rfl⟩
  unfold State.heard
  rw [config]
  dsimp only
  split
  · obtain ⟨kept, due⟩ := outer (State.askReview (State.endCondition { s with handler := { s.handler with
      isolation := some (10 * c.isolationS), isolated := false } } .isolation))
    have kept := kept.trans (askReview_kept _)
    refine ⟨congrArg (·.handler.isolated) kept, congrArg (·.handler.isolation) kept, fun _ => ⟨?_, fun reread => due.trans ?_⟩⟩
    · exact (flag_of_flags (kept_flags kept) .isolation).trans ((setCondition_flag _ .isolation .isolation false).trans (if_pos rfl))
    · unfold State.askReview
      exact if_pos (deciding_iff.mpr ⟨c, config, reread⟩) ▸ rfl
  · rename_i no
    exact ⟨rfl, rfl, fun yes => absurd yes no⟩

/-- The parts of the state that an offered frame may change. -/
theorem offer_cases (s : State) (f : RxFrame) :
    (s.handler.inHand = none ∧ s.filing = true ∧ s.offer f = { s with handler := { s.handler with inHand := some f } }) ∨
      ((s.handler.inHand ≠ none ∨ s.filing = false) ∧
        s.offer f = s.setLine { s.line with queue := if s.line.queue.length < 6 then s.line.queue ++ [f] else s.line.queue }) := by
  unfold State.offer
  split
  · rename_i takes
    simp only [Bool.and_eq_true, Option.isNone_iff_eq_none] at takes
    exact .inl ⟨takes.1, takes.2, rfl⟩
  · rename_i joins
    refine .inr ⟨?_, ?_⟩
    · simp only [Bool.and_eq_true, Option.isNone_iff_eq_none, not_and_or] at joins
      exact joins.imp id Bool.eq_false_iff.mpr
    · have capacity : Config.queueCapacity = 6 := rfl
      rw [capacity]
      split <;> rfl

theorem offer_rest (s : State) (f : RxFrame) : (s.offer f).flags = s.flags ∧ (s.offer f).handler.isolated = s.handler.isolated ∧
    (s.offer f).handler.isolation = s.handler.isolation ∧ (s.offer f).reviewDue = s.reviewDue ∧ (s.offer f).line.mode = s.line.mode := by
  obtain ⟨-, -, eq⟩ | ⟨-, eq⟩ := offer_cases s f <;> rw [eq] <;> exact ⟨rfl, rfl, rfl, rfl, rfl⟩

/-- Settles O41: a frame of the own origin by `State.clash`, another by `State.heard` and `State.offer`. -/
theorem framesArrive : Obligations.FramesArrive := by
  unfold Obligations.FramesArrive
  intro bits s a origin kind payload address quiet receiving frame
  have ends := execFrameArrival_of address quiet receiving frame
  refine ⟨fun own => ?_, fun other f eq => ?_⟩
  · rw [if_pos own] at ends
    obtain ⟨line, hand, isolated⟩ := clash_kept_line (s.setLine { s.line with receiving := false })
    have clash := clash_addressClash (s.setLine { s.line with receiving := false })
    have fault := clash_lineFault (s := s.setLine { s.line with receiving := false })
    generalize State.clash _ = u at *
    have kept := finish_kept u
    refine ⟨_, ends, ?_⟩
    generalize u.finish = t at *
    have line := (congrArg (·.line) kept).trans line
    have flag := fun f => flag_of_flags (kept_flags kept) f
    obtain ⟨condition, raised⟩ := (s.flag .addressClash).begun_spec
    refine ⟨congrArg (·.mode) line, congrArg (·.queue) line, congrArg (·.faultAck) line, (kept_inHand kept).trans hand,
      (kept_isolated kept).trans isolated, ?_, fun clear => ?_, fun mode => ?_⟩
    · rw [flag, clash]
      exact condition
    · rw [flag, clash]
      exact raised clear
    · rw [flag]
      exact fault mode
  · rw [if_neg other, ← eq] at ends
    obtain ⟨line, hand, filing, reread⟩ := heard_rest (s.setLine { s.line with receiving := false })
    have isolation := fun c config => heard_ends (s := s.setLine { s.line with receiving := false }) (c := c) config
    generalize State.heard _ = u at *
    obtain ⟨flags, isolated, timer, due, mode⟩ := offer_rest u f
    have cases := offer_cases u f
    have settled := finish_judged_of_due (u.offer f)
    generalize u.offer f = v at *
    have kept := finish_kept v
    refine ⟨_, ends, ?_⟩
    generalize v.finish = t at *
    have queue : u.line.queue = s.line.queue := congrArg (·.queue) line
    have takes (empty : s.handler.inHand = none) (files : s.filing = true) : v.handler.inHand = some f ∧ v.line.queue = s.line.queue := by
      obtain ⟨-, -, rfl⟩ | ⟨busy, -⟩ := cases
      · exact ⟨rfl, queue⟩
      · exact (busy.elim (fun h => h (hand.trans empty)) (fun h => by rw [filing] at h; exact Bool.false_ne_true (h.symm.trans files))).elim
    have joins (busy : s.handler.inHand ≠ none ∨ s.filing = false) : v.handler.inHand = s.handler.inHand ∧
        v.line.queue = if s.line.queue.length < 6 then s.line.queue ++ [f] else s.line.queue := by
      obtain ⟨empty, files, -⟩ | ⟨-, rfl⟩ := cases
      · exact (busy.elim (fun h => h (hand.symm.trans empty)) (fun h => Bool.false_ne_true (h.symm.trans (filing.symm.trans files)))).elim
      · exact ⟨hand, by rw [← queue]; rfl⟩
    refine ⟨(kept_mode kept).trans (mode.trans (congrArg (·.mode) line)), fun empty files => ?_, fun busy => ?_, fun c config => ?_⟩
    · exact ⟨(kept_inHand kept).trans (takes empty files).1, (kept_queue kept).trans (takes empty files).2⟩
    · exact ⟨(kept_inHand kept).trans (joins busy).1, (kept_queue kept).trans (joins busy).2⟩
    · obtain ⟨ended, set, mark⟩ := isolation c config
      refine ⟨(kept_isolated kept).trans (isolated.trans ended), (kept_isolation kept).trans (timer.trans set), fun was => ?_⟩
      obtain ⟨flag, review⟩ := mark was
      have after : t.flag .isolation = { s.flag .isolation with condition := false } :=
        (flag_of_flags ((kept_flags kept).trans flags) .isolation).trans flag
      rw [after]
      exact ⟨rfl, rfl, fun deciding => settled (due.trans (review deciding))⟩

/-! #### The isolation expiry -/

/-- A chain of reviews and evaluations leaves the session but for what R197 records, or ends it. -/
theorem Settles.session_stem {r : Prop} {l : Option Ch} (h : Settles r l s t) {p : Session} (hp : t.port.session = some p) :
    ∃ q, s.port.session = some q ∧ p.stem = q.stem := by
  induction h generalizing p with
  | refl => exact ⟨p, hp, rfl⟩
  | @turn t n new _ _ ih =>
    obtain ⟨q, hq, stem⟩ := (setState_port t n new).session hp
    obtain ⟨q', hq', stem'⟩ := ih hq
    exact ⟨q', hq', stem.trans stem'⟩
  | @create t n x _ _ ih =>
    obtain ⟨q, hq, stem⟩ := (createTravel_port t n x).session hp
    obtain ⟨q', hq', stem'⟩ := ih hq
    exact ⟨q', hq', stem.trans stem'⟩
  | ended _ _ _ _ _ _ =>
    rw [State.judgeLamp_port] at hp
    cases hp
  | marks _ _ _ ih => exact ih hp
  | review _ _ _ _ _ ih => exact ih hp
  | aside _ _ _ ih => exact ih hp
  | draw _ _ _ ih => exact ih ((congrArg (·.session) (submitDraw_port ..)).symm.trans hp)

/-- Only a STORING session outlives an abort (R202). -/
theorem abortLearn_session {p : Session} (hp : s.abortLearn.port.session = some p) : p.phase = .storing := by
  unfold State.abortLearn at hp
  split at hp
  · rename_i none
    rw [none] at hp
    cases hp
  · rename_i q session
    split at hp
    · rename_i storing
      rw [session] at hp
      cases hp
      exact storing
    · unfold State.endSession at hp
      rw [session] at hp
      dsimp only at hp
      have chain := (Settles.refl (r := False) (l := some q.channel)
        (s := ({ s with port := { s.port with session := none, store := none } } : State).judgeLamp)).stopLearn
          (n := q.channel) rfl (by simp [State.isLearnChannel, State.learnChannel?])
      obtain ⟨x, hx, -⟩ := chain.session_stem hp
      rw [State.judgeLamp_port] at hx
      cases hx

/-- What stands after OPEN travels and a session have been ended stands so at rest. -/
theorem endedOpens_ends (s : State) : (∀ n, ((s.eachChannel (fun n s => s.endOpen n)).abortLearn.askReview.finish).NoOpn n) ∧
    ∀ p, ((s.eachChannel (fun n s => s.endOpen n)).abortLearn.askReview.finish).port.session = some p → p.phase = .storing := by
  refine ⟨fun n => ?_, fun p hp => ?_⟩
  · have chain := (((Moves.start .plain (s.eachChannel (fun n s => s.endOpen n))).abortLearn).askReview).shifts
    exact (finish_settles _).noOpn (chain.noOpn id (endOpens_noOpn s n))
  · obtain ⟨q, hq, stem⟩ := (finish_settles _).session_stem hp
    rw [State.askReview_port] at hq
    exact (Session.stem_phase stem).trans (abortLearn_session hq)

/-- Settles O42: the condition begins, OPEN travels and the session end under policy CLOSE, and a review follows. -/
theorem isolationBegins : Obligations.IsolationBegins := by
  unfold Obligations.IsolationBegins
  intro s c config clear expired
  have ends : exec .isolationExpiry s = execIsolationExpiry s := rfl
  unfold execIsolationExpiry at ends
  rw [config] at ends
  have ends := ends.trans (if_pos (by rw [expired, clear]; rfl))
  dsimp only at ends
  obtain ⟨-, peers, isolated, timer, -⟩ :=
    beginCondition_rest { s with handler := { s.handler with isolation := none, isolated := true } } .isolation
  obtain ⟨condition, raised⟩ :=
    beginCondition_flag_self { s with handler := { s.handler with isolation := none, isolated := true } } .isolation
  generalize State.beginCondition _ _ = u at *
  have kept : (if c.policyClose then (u.eachChannel (fun n s => s.endOpen n)).abortLearn else u).askReview.finish.kept = u.kept := by
    rw [finish_kept, askReview_kept]
    split
    · rw [abortLearn_kept]
      exact eachChannel_keeps State.kept _ (fun n u => endOpen_kept u n) u
    · rfl
  have judged := finish_askReview_judged (if c.policyClose then (u.eachChannel (fun n s => s.endOpen n)).abortLearn else u)
  have closes (policy : c.policyClose = true) := by
    have := endedOpens_ends u
    rwa [show (u.eachChannel (fun n s => s.endOpen n)).abortLearn =
      if c.policyClose then (u.eachChannel (fun n s => s.endOpen n)).abortLearn else u from (if_pos policy).symm] at this
  refine ⟨_, ends, ?_⟩
  generalize State.finish _ = t at *
  have flag := flag_of_flags (kept_flags kept) .isolation
  refine ⟨(kept_isolated kept).trans isolated, (kept_isolation kept).trans timer, (kept_peers kept).trans peers, ?_, fun was => ?_,
    fun _ => judged, closes⟩
  · rw [flag]
    exact condition
  · rw [flag]
    exact raised was

end

end Sys2Proof.Machine

namespace Sys2Proof.Machine
set_option Elab.async false

/-! ### The store's pages (R203 to R205) -/

section

variable {s t : State}

/-- Reviews and evaluations leave the store, but where they abort a session that is not STORING. -/
theorem Settles.store {r : Prop} {l : Option Ch} (h : Settles r l s t) : t.port.store = s.port.store ∨
    t.port.store = none ∧ ∃ q, s.port.session = some q ∧ q.phase ≠ .storing := by
  induction h with
  | refl => exact .inl rfl
  | @turn t n new _ _ ih =>
    obtain ⟨x, eq, -⟩ := setState_port t n new
    rwa [eq]
  | @create t n x _ _ ih =>
    obtain ⟨y, eq, -⟩ := createTravel_port t n x
    rwa [eq]
  | ended hu session phase _ _ ih =>
    obtain ⟨q, hq, stem⟩ := hu.session_stem session
    exact .inr ⟨by rw [State.judgeLamp_port], q, hq, Session.stem_phase stem ▸ phase⟩
  | marks _ _ _ ih => exact ih
  | review _ _ _ _ _ ih => exact ih
  | aside _ _ _ ih => exact ih
  | draw _ _ _ ih => rwa [submitDraw_port]

/-- The end of a session ends its store with it (R205). -/
theorem endSession_port {p : Session} (session : s.port.session = some p) :
    s.endSession.port.session = none ∧ s.endSession.port.store = none := by
  have chain := (Settles.refl (r := False) (l := some p.channel)
    (s := ({ s with port := { s.port with session := none, store := none } } : State).judgeLamp)).stopLearn
      (n := p.channel) rfl (by simp [State.isLearnChannel, State.learnChannel?])
  unfold State.endSession
  rw [session]
  dsimp only
  generalize State.stopLearn _ _ = u at chain ⊢
  constructor
  · cases ended : u.port.session with
    | none => rfl
    | some x =>
      obtain ⟨y, hy, -⟩ := chain.session_stem ended
      rw [State.judgeLamp_port] at hy
      cases hy
  · obtain same | ⟨-, q, hq, -⟩ := chain.store
    · rwa [State.judgeLamp_port] at same
    · rw [State.judgeLamp_port] at hq
      cases hq

/-- What the port makes of a page that has come to its end (R204, R205). -/
theorem nextPage_ends {q : Session} (x : Store) (session : s.port.session = some q) :
    (s.nextPage x).kept = s.kept ∧
      (x.rest = [] → (s.nextPage x).port.session = none ∧ (s.nextPage x).port.store = none) ∧
      ∀ p l, x.rest = p :: l → (s.nextPage x).port.session = some q ∧
        (s.nextPage x).port.store = some { x with page := p, rest := l, polling := false } := by
  unfold State.nextPage
  cases rest : x.rest with
  | nil => exact ⟨endSession_kept s, fun _ => endSession_port session, nofun⟩
  | cons p l =>
    refine ⟨rfl, nofun, fun p' l' eq => ?_⟩
    obtain ⟨rfl, rfl⟩ := List.cons.inj eq
    exact ⟨session, rfl⟩

/-- At rest after a page's end stands what the port made of it. -/
theorem nextPage_finish {q : Session} (x : Store) (session : s.port.session = some q) (storing : q.phase = .storing) :
    (s.nextPage x).finish.kept = s.kept ∧
      (x.rest = [] → (s.nextPage x).finish.port.session = none ∧ (s.nextPage x).finish.port.store = none) ∧
      ∀ p l, x.rest = p :: l → (s.nextPage x).finish.port.store = some { x with page := p, rest := l, polling := false } := by
  obtain ⟨kept, last, more⟩ := nextPage_ends x session
  generalize s.nextPage x = u at *
  have chain := finish_settles u
  refine ⟨(finish_kept u).trans kept, fun rest => ?_, fun p l rest => ?_⟩
  · obtain ⟨session, store⟩ := last rest
    refine ⟨?_, chain.store.elim (fun same => same.trans store) (·.1)⟩
    cases ended : u.finish.port.session with
    | none => rfl
    | some y =>
      obtain ⟨z, hz, -⟩ := chain.session_stem ended
      rw [session] at hz
      cases hz
  · obtain ⟨session, store⟩ := more p l rest
    obtain same | ⟨-, z, hz, phase⟩ := chain.store
    · exact same.trans store
    · rw [session] at hz
      cases hz
      exact absurd storing phase

/-- Settles O53: each end of a page is `State.nextPage`, a failed one after the raise of STORE. -/
theorem storeWritesItsPages : Obligations.StoreWritesItsPages := by
  unfold Obligations.StoreWritesItsPages
  intro s x q store session storing
  have write (acked : Bool) : exec (.pageWriteEnd acked) s = execPageWriteEnd acked s := rfl
  have poll (acked : Bool) : exec (.pollExpiry acked) s = execPollExpiry acked s := rfl
  unfold execPageWriteEnd at write
  unfold execPollExpiry at poll
  simp only [store] at write poll
  refine ⟨fun polling => ?_, fun polling few => ?_, fun c failed cases => ?_⟩
  · rw [write, polling]
    rfl
  · rw [poll, polling]
    exact (if_pos rfl).trans ((if_neg Bool.false_ne_true).trans (if_pos (by omega)))
  · obtain ⟨y, rest, ends⟩ : ∃ y : Store, y.rest = x.rest ∧
        exec c s = .next ((if failed then s.raise .store else s).nextPage y).finish := by
      obtain ⟨rfl, polling, rfl⟩ | ⟨rfl, polling, rfl⟩ | ⟨rfl, polling, many, rfl⟩ := cases
      · exact ⟨{ x with polls := 0 }, rfl, by rw [write, polling]; rfl⟩
      · exact ⟨{ x with polls := x.polls + 1 }, rfl, by rw [poll, polling]; rfl⟩
      · exact ⟨{ x with polls := x.polls + 1 }, rfl, by rw [poll, polling]; exact (if_pos rfl).trans ((if_neg Bool.false_ne_true).trans (if_neg (by omega)))⟩
    have port : (if failed then s.raise .store else s).port = s.port := by
      split
      · exact raiseAt_port s _
      · rfl
    obtain ⟨kept, last, more⟩ := nextPage_finish y ((congrArg (·.session) port).trans session) storing
    refine ⟨_, ends, ?_⟩
    have raised (yes : failed = true) : ((if failed then s.raise .store else s).flag .store).raised = true := by
      rw [if_pos yes, raise_flag, if_pos rfl]
    generalize State.finish _ = t at *
    refine ⟨fun yes => ?_, fun no => ?_, fun empty => last (rest.trans empty), fun p l eq => ⟨_, more p l (rest.trans eq), rfl, rfl, rfl⟩,
      (kept_image kept).trans (congrArg (·.image) port), (kept_config kept).trans (congrArg (·.config) port)⟩
    · rw [flag_of_flags (kept_flags kept)]
      exact raised yes
    · rw [kept_flags kept, if_neg (by rw [no]; decide)]

end

end Sys2Proof.Machine

namespace Sys2Proof.Machine
set_option Elab.async false

/-! ### The image after a confirm (R203, R209 to R211) -/

section

variable {m : Memory}

theorem read_write16 (wf : m.wf = true) (x v y : Nat) :
    (m.write16 x v).read y = if y = x + 1 then byteOf v else if y = x then byteOf (v / 256) else m.read y := by
  unfold Memory.write16
  rw [read_write (lo := 0) (write_wf wf x _), read_write (lo := 0) wf]

theorem u16_write16 (wf : m.wf = true) (x : Nat) {v : Nat} (small : v < 65536) : (m.write16 x v).u16 x = v := by
  unfold Memory.u16
  rw [read_write16 wf, read_write16 wf, if_neg (by omega), if_pos rfl, if_pos rfl]
  exact fromBe16_be16 (Nat.le_of_lt_succ small)

theorem u16_write16_apart (wf : m.wf = true) (x v : Nat) {y : Nat} (apart : y + 1 < x ∨ x + 1 < y) :
    (m.write16 x v).u16 y = m.u16 y := by
  unfold Memory.u16
  rw [read_write16 wf, read_write16 wf, if_neg (by omega), if_neg (by omega), if_neg (by omega), if_neg (by omega)]

/-- The check does not cover its own place. -/
theorem check_write16 (wf : m.wf = true) (v : Nat) : (m.write16 0x7FE v).check = m.check := by
  unfold Memory.check
  rw [bytes_eq (write16_wf wf _ _), bytes_eq wf]
  have bytes : (List.range 0x7FE).map (fun i => (m.write16 0x7FE v).read (0 + i)) = (List.range 0x7FE).map (fun i => m.read (0 + i)) := by
    refine List.map_congr_left (fun i mem => ?_)
    have := List.mem_range.mp mem
    rw [read_write16 wf, if_neg (by omega), if_neg (by omega)]
  rw [bytes]

/-- The places in a record that a confirm writes: the span, and the speed of each profile. -/
def learnedBytes : List Nat := [10, 11, 28, 29, 34, 35]

theorem learnedBytes_lt {i : Nat} (mem : i ∈ learnedBytes) : i < 64 := by
  have bound : ∀ i ∈ learnedBytes, i < 64 := by decide
  exact bound i mem

theorem check_small (m : Memory) : m.check < 65536 := BitVec.isLt _

end

section

variable {m : Memory} (wf : m.wf = true) (n : Ch) {span normal storm : Nat}

include wf

/-- A confirm writes the three values and the check, and nothing else (R203). -/
theorem applyLearned_read (y : Nat) (below : y < 0x7FE) (apart : ∀ i ∈ learnedBytes, y ≠ recordBase n + i) :
    (m.applyLearned n span normal storm).read y = m.read y := by
  have h1 := apart 10 (by decide)
  have h2 := apart 11 (by decide)
  have h3 := apart 28 (by decide)
  have h4 := apart 29 (by decide)
  have h5 := apart 34 (by decide)
  have h6 := apart 35 (by decide)
  have wf1 := write16_wf wf (recordBase n + 10) span
  have wf2 := write16_wf wf1 (recordBase n + 28) normal
  have wf3 := write16_wf wf2 (recordBase n + 34) storm
  unfold Memory.applyLearned
  dsimp only
  rw [read_write16 wf3, if_neg (by omega), if_neg (by omega), read_write16 wf2, if_neg (by omega), if_neg (by omega),
    read_write16 wf1, if_neg (by omega), if_neg (by omega), read_write16 wf, if_neg (by omega), if_neg (by omega)]

/-- The records stand between 0x40 and 0x140. -/
theorem applyLearned_read_outside {y : Nat} (outside : y < 0x40 ∨ 0x140 ≤ y) (below : y < 0x7FE) :
    (m.applyLearned n span normal storm).read y = m.read y := by
  refine applyLearned_read wf n y below (fun i mem => ?_)
  have inside := learnedBytes_lt mem
  have := n.isLt
  unfold recordBase
  omega

theorem applyLearned_u8 (y : Nat) (apart : y < 0x40 ∨ 0x140 ≤ y ∧ y < 0x7FE) :
    (m.applyLearned n span normal storm).u8 y = m.u8 y := by
  unfold Memory.u8
  rw [applyLearned_read_outside wf n (by omega) (by omega)]

theorem applyLearned_u16 (y : Nat) (apart : y + 1 < 0x40 ∨ 0x140 ≤ y ∧ y + 1 < 0x7FE) :
    (m.applyLearned n span normal storm).u16 y = m.u16 y := by
  unfold Memory.u16
  rw [applyLearned_read_outside wf n (by omega) (by omega), applyLearned_read_outside wf n (by omega) (by omega)]

/-- The image's check stands at its place. -/
theorem applyLearned_check : (m.applyLearned n span normal storm).u16 0x7FE = (m.applyLearned n span normal storm).check := by
  have wf3 := write16_wf (write16_wf (write16_wf wf (recordBase n + 10) span) (recordBase n + 28) normal) (recordBase n + 34) storm
  unfold Memory.applyLearned
  dsimp only
  rw [check_write16 wf3, u16_write16 wf3 _ (check_small _)]

/-- The three values stand at their places in the channel's record. -/
theorem applyLearned_values (h : span < 65536 ∧ normal < 65536 ∧ storm < 65536) :
    (m.applyLearned n span normal storm).u16 (recordBase n + 10) = span ∧
      (m.applyLearned n span normal storm).u16 (recordBase n + 28) = normal ∧
      (m.applyLearned n span normal storm).u16 (recordBase n + 34) = storm := by
  obtain ⟨smallSpan, smallNormal, smallStorm⟩ := h
  have wf1 := write16_wf wf (recordBase n + 10) span
  have wf2 := write16_wf wf1 (recordBase n + 28) normal
  have wf3 := write16_wf wf2 (recordBase n + 34) storm
  have low : recordBase n + 35 < 0x7FE := by
    have := n.isLt
    unfold recordBase
    omega
  unfold Memory.applyLearned
  dsimp only
  rw [u16_write16_apart wf3 _ _ (by omega), u16_write16_apart wf3 _ _ (by omega), u16_write16_apart wf3 _ _ (by omega),
    u16_write16_apart wf2 _ _ (by omega), u16_write16_apart wf2 _ _ (by omega), u16_write16 wf2 _ smallStorm,
    u16_write16_apart wf1 _ _ (by omega), u16_write16 wf1 _ smallNormal, u16_write16 wf _ smallSpan]
  exact ⟨rfl, rfl, rfl⟩

/-! #### The station's fields -/

theorem applyLearned_plainFields : (m.applyLearned n span normal storm).plainFieldsOk = m.plainFieldsOk := by
  unfold Memory.plainFieldsOk
  simp (disch := decide) only [applyLearned_u8 wf n, applyLearned_u16 wf n]

theorem applyLearned_rainFields : (m.applyLearned n span normal storm).rainFieldsOk = m.rainFieldsOk := by
  unfold Memory.rainFieldsOk
  simp (disch := decide) only [applyLearned_u8 wf n, applyLearned_u16 wf n]

theorem applyLearned_windFields : (m.applyLearned n span normal storm).windFieldsOk = m.windFieldsOk := by
  unfold Memory.windFieldsOk
  simp (disch := decide) only [applyLearned_u8 wf n]

theorem applyLearned_slotAddress {k : Nat} (slot : k < 16) : (m.applyLearned n span normal storm).u8 (slotBase k) = m.u8 (slotBase k) :=
  applyLearned_u8 wf n _ (by unfold slotBase; omega)

theorem applyLearned_slotLead {k j : Nat} (slot : k < 16) (sector : j < 8) :
    (m.applyLearned n span normal storm).u16 (slotBase k + 2 + 2 * j) = m.u16 (slotBase k + 2 + 2 * j) :=
  applyLearned_u16 wf n _ (by unfold slotBase; omega)

theorem applyLearned_mapOk (own : Nat) : (m.applyLearned n span normal storm).mapOk own = m.mapOk own := by
  have addresses : (m.applyLearned n span normal storm).slotAddresses = m.slotAddresses :=
    List.map_congr_left fun k mem => applyLearned_slotAddress wf n (List.mem_range.mp mem)
  have leads {k : Nat} (slot : k < 16) : (m.applyLearned n span normal storm).slotLeads k = m.slotLeads k :=
    List.map_congr_left fun j mem => applyLearned_slotLead wf n slot (List.mem_range.mp mem)
  unfold Memory.mapOk
  rw [addresses]
  congr 1
  rw [Bool.eq_iff_iff, List.all_eq_true, List.all_eq_true]
  refine forall₂_congr (fun k mem => ?_)
  rw [leads (List.mem_range.mp mem)]

theorem applyLearned_mapOf : (m.applyLearned n span normal storm).mapOf = m.mapOf := by
  unfold Memory.mapOf
  refine List.filterMap_congr (fun k mem => ?_)
  have slot := List.mem_range.mp mem
  rw [applyLearned_slotAddress wf n slot]
  have leads : (Vector.ofFn fun j : Fin 8 => leadField ((m.applyLearned n span normal storm).u16 (slotBase k + 2 + 2 * j.val))) =
      Vector.ofFn fun j : Fin 8 => leadField (m.u16 (slotBase k + 2 + 2 * j.val)) := by
    congr 1
    funext j
    rw [applyLearned_slotLead wf n slot j.isLt]
  rw [leads]

/-! #### The channel records -/

theorem applyLearned_record_read {k : Ch} {i : Nat} (inside : i < 64) (apart : k ≠ n ∨ i ∉ learnedBytes) :
    (m.applyLearned n span normal storm).read (recordBase k + i) = m.read (recordBase k + i) := by
  have hk := k.isLt
  refine applyLearned_read wf n _ (by unfold recordBase; omega) (fun j mem same => ?_)
  have := learnedBytes_lt mem
  unfold recordBase at same
  have record : k.val = n.val := by omega
  have place : i = j := by omega
  obtain other | out := apart
  · exact other (Fin.ext record)
  · exact out (place ▸ mem)

theorem applyLearned_record_u8 {k : Ch} {i : Nat} (inside : i < 64) (apart : k ≠ n ∨ i ∉ learnedBytes) :
    (m.applyLearned n span normal storm).u8 (recordBase k + i) = m.u8 (recordBase k + i) := by
  unfold Memory.u8
  rw [applyLearned_record_read wf n inside apart]

theorem applyLearned_record_u16 {k : Ch} {i : Nat} (inside : i + 1 < 64) (apart : k ≠ n ∨ i ∉ learnedBytes ∧ i + 1 ∉ learnedBytes) :
    (m.applyLearned n span normal storm).u16 (recordBase k + i) = m.u16 (recordBase k + i) := by
  unfold Memory.u16
  rw [applyLearned_record_read wf n (by omega) (apart.imp_right (·.1)), Nat.add_assoc,
    applyLearned_record_read wf n inside (apart.imp_right (·.2))]

/-- A record that the confirm does not write is judged as before. -/
theorem applyLearned_judgeChannel_ne {k : Ch} (ne : k ≠ n) (budget : Nat) :
    (m.applyLearned n span normal storm).judgeChannel budget k = m.judgeChannel budget k := by
  have u8 {i : Nat} (inside : i < 64) := applyLearned_record_u8 wf n (span := span) (normal := normal) (storm := storm) inside (.inl ne)
  have u16 {i : Nat} (inside : i + 1 < 64) := applyLearned_record_u16 wf n (span := span) (normal := normal) (storm := storm) inside (.inl ne)
  have first := u8 (i := 0) (by decide)
  rw [Nat.add_zero] at first
  unfold Memory.judgeChannel Memory.recordOk Memory.chanAt Memory.profileAt
  simp only [Nat.add_assoc]
  simp (disch := decide) only [first, u8, u16]

/-- The confirm's record is judged to hold the confirm's values. -/
theorem applyLearned_judgeChannel {k : ChanCfg} {budget : Nat} (fitted : m.judgeChannel budget n = .fitted k)
    (passes : rangeCheck k.c span normal storm = true) :
    (m.applyLearned n span normal storm).judgeChannel budget n = .fitted (k.applyLearned span normal storm) := by
  unfold rangeCheck at passes
  rw [decide_eq_true_eq] at passes
  obtain ⟨spanLow, spanHigh, top, normalLow, normalHigh, stormLow, stormHigh⟩ := passes
  obtain ⟨newSpan, newNormal, newStorm⟩ := applyLearned_values wf n (span := span) (normal := normal) (storm := storm)
    ⟨by omega, by omega, by omega⟩
  have u8 {i : Nat} (inside : i < 64) (apart : i ∉ learnedBytes) :=
    applyLearned_record_u8 wf n (span := span) (normal := normal) (storm := storm) (k := n) inside (.inr apart)
  have u16 {i : Nat} (inside : i + 1 < 64) (apart : i ∉ learnedBytes ∧ i + 1 ∉ learnedBytes) :=
    applyLearned_record_u16 wf n (span := span) (normal := normal) (storm := storm) (k := n) inside (.inr apart)
  have first := u8 (i := 0) (by decide) (by decide)
  rw [Nat.add_zero] at first
  unfold Memory.judgeChannel at fitted ⊢
  dsimp only at fitted ⊢
  rw [first]
  have record : (m.applyLearned n span normal storm).chanAt (recordBase n) = (m.chanAt (recordBase n)).applyLearned span normal storm := by
    unfold Memory.chanAt Memory.profileAt ChanCfg.applyLearned
    simp only [Nat.add_assoc]
    simp (disch := decide) only [u8, u16, newSpan, newNormal, newStorm]
  split at fitted
  · cases fitted
  · rename_i used
    split at fitted
    · rename_i ok
      cases fitted
      have ok' : (m.applyLearned n span normal storm).recordOk (recordBase n) budget = true := by
        have ok := (Bool.and_eq_true_iff.mp ok).2
        unfold Memory.recordOk at ok ⊢
        rw [record]
        unfold ChanCfg.applyLearned ProfileCfg.ok at *
        dsimp only at ok ⊢
        simp only [Bool.and_eq_true] at ok
        have spanOk : inRange 200 60000 span = true := decide_eq_true ⟨spanLow, spanHigh⟩
        have topOk : decide ((m.chanAt (recordBase n)).c + span ≤ 65000) = true := decide_eq_true top
        have normalOk : inRange 1 5000 normal = true := decide_eq_true ⟨normalLow, normalHigh⟩
        have stormOk : inRange 1 5000 storm = true := decide_eq_true ⟨stormLow, stormHigh⟩
        simp (disch := decide) only [u8, ok, spanOk, topOk, normalOk, stormOk, Bool.and_self]
      rw [if_neg used, if_pos (Bool.and_eq_true_iff.mpr ⟨(Bool.and_eq_true_iff.mp ok).1, ok'⟩), record]
    · cases fitted

theorem applyLearned_chans {n : Ch} {k : ChanCfg} {budget : Nat} (fitted : m.judgeChannel budget n = .fitted k)
    (passes : rangeCheck k.c span normal storm = true) :
    (Vector.ofFn fun j : Fin 4 => (m.applyLearned n span normal storm).judgeChannel budget j) =
      (Vector.ofFn fun j : Fin 4 => m.judgeChannel budget j).set n (.fitted (k.applyLearned span normal storm)) := by
  refine Vector.ext (fun i inside => ?_)
  rw [Vector.getElem_ofFn, Vector.getElem_set]
  split
  · rename_i own
    subst own
    exact applyLearned_judgeChannel wf n fitted passes
  · rename_i other
    rw [Vector.getElem_ofFn]
    exact applyLearned_judgeChannel_ne wf n (fun e => other (congrArg Fin.val e).symm) budget

end

/-- Settles O54: the confirm leaves every field but its record's three values (`applyLearned_judgeChannel`). -/
theorem learnedImageReadsBack : Obligations.LearnedImageReadsBack := by
  unfold Obligations.LearnedImageReadsBack
  intro own m c n k span normal storm wf judged fitted passes
  unfold judgeImage at judged ⊢
  rw [applyLearned_u8 wf n 0 (by decide), applyLearned_check wf, applyLearned_plainFields wf, applyLearned_rainFields wf,
    applyLearned_windFields wf, applyLearned_mapOk wf, decide_eq_true rfl, Bool.and_true]
  split at judged
  · rename_i ok
    simp only [Bool.and_eq_true] at ok
    obtain ⟨⟨⟨⟨⟨version, -⟩, plain⟩, rain⟩, wind⟩, map⟩ := ok
    cases judged
    have fitted : m.judgeChannel (m.u16 0x002) n = .fitted k := by
      simpa [Memory.runCfg] using fitted
    rw [if_pos (by rw [version, plain, rain, wind, map]; rfl)]
    unfold Memory.runCfg
    simp (disch := decide) only [applyLearned_u8 wf n, applyLearned_u16 wf n, applyLearned_mapOf wf n]
    rw [applyLearned_chans wf fitted passes]
  · cases judged

end Sys2Proof.Machine

namespace Sys2Proof.Machine
set_option Elab.async false

/-! ### What stays in the pool while a command runs to rest (R136 to R140) -/

section

variable {s t : State}

/-- The pool of `t` comes from that of `s` by STATE and DRAW notices. -/
inductive Speaks (s : State) : State → Prop
  | refl : Speaks s s
  | state {t : State} (n : Ch) (v : View) (r : Nat) : Speaks s t → Speaks s (t.submit (.state n v) r)
  | draw {t : State} (c : DrawContent) (h r : Nat) : Speaks s t → Speaks s (t.submit (.draw c h) r)
  | aside {t : State} (u : State) : Speaks s t → u.line = t.line → u.port.ownAddress = t.port.ownAddress → Speaks s u

theorem Speaks.checkView (h : Speaks s t) (n : Ch) : Speaks s (t.checkView n) := by
  unfold State.checkView
  split
  · exact (h.state n (t.view n) 12).aside _ rfl rfl
  · exact h

theorem Speaks.submitDraw (h : Speaks s t) (c : DrawContent) (hold : Nat) : Speaks s (t.submitDraw c hold) :=
  (h.draw c hold t.drawRank).aside _ rfl rfl

theorem Speaks.lamp (h : Speaks s t) : Speaks s t.judgeLamp := h.aside _ (by simp) (by simp)

theorem Speaks.setState (h : Speaks s t) (n : Ch) (new : ChState) : Speaks s (t.setState n new) := by
  obtain ⟨u, eq, -, -, -, line⟩ := setState_pre t n new
  have kept : u.kept = t.kept := by
    rw [← setState_kept t n new, eq, checkLastTravel_kept, judgeLamp_kept, checkView_kept]
  have before := ((h.aside u line (kept_ownAddress kept)).checkView n).lamp
  rw [eq]
  obtain ⟨e, -⟩ | ⟨c, -, -, -, e⟩ := checkLastTravel_cases (u.checkView n).judgeLamp (t.stateOf n) <;> rw [e]
  · exact before
  · exact before.submitDraw _ _

/-- Reviews and evaluations submit STATE and DRAW notices alone. -/
theorem Settles.speaks {r : Prop} {l : Option Ch} (h : Settles r l s t) : Speaks s t := by
  induction h with
  | refl => exact .refl
  | turn _ _ ih => exact ih.setState _ _
  | @create u n x _ _ ih =>
    exact ((ih.aside (u.setUnit n { u.units[n]'n.isLt with illegal := 0, indexRecord := none }) rfl rfl).setState n (.waiting x)).aside _
      (State.askEval_line _) (congrArg (·.ownAddress) (State.askEval_port _))
  | @ended u q _ _ _ _ _ ih => exact (ih.aside { u with port := { u.port with session := none, store := none } } rfl rfl).lamp
  | marks v e _ ih => exact ih.aside _ rfl rfl
  | review c _ _ _ _ ih => exact ih.aside _ rfl rfl
  | aside d h _ ih => exact ih.aside _ rfl rfl
  | draw c _ _ ih => exact ih.submitDraw _ _

theorem submit_waiting {a : Nat} (address : s.port.ownAddress = some a) (e : Notice) (r : Nat) :
    (s.submit e r).line.waiting = poolSubmit (if s.line.tx.locked?.isSome then 1 else 0)
      { notice := e, rank := r, seq := s.line.nextSeq } s.line.waiting := by
  unfold State.submit
  rw [address]

/-- A notice of rank 0 gives way only to one of its key (R138, R140). -/
theorem mem_poolSubmit_urgent {locked : Nat} {e f : PoolEntry} {w : List PoolEntry} (mem : f ∈ w) (urgent : f.rank = 0)
    (key : sameKey e.notice f.notice = false) : f ∈ poolSubmit locked e w := by
  unfold poolSubmit
  split
  · rename_i old find
    refine (mem_poolInsert _ _ _).mpr (.inr ((List.mem_erase_of_ne ?_).mpr mem))
    rintro rfl
    rw [List.find?_some find] at key
    cases key
  · split
    · exact (mem_poolInsert _ _ _).mpr (.inr mem)
    · split
      · exact mem
      · rename_i v least
        split
        · rename_i less
          refine (mem_poolInsert _ _ _).mpr (.inr ((List.mem_erase_of_ne ?_).mpr mem))
          rintro rfl
          omega
        · exact mem

theorem mem_submit_urgent {e : Notice} {r : Nat} {f : PoolEntry} (mem : f ∈ s.line.waiting) (urgent : f.rank = 0)
    (key : sameKey e f.notice = false) : f ∈ (s.submit e r).line.waiting := by
  cases address : s.port.ownAddress with
  | none =>
    unfold State.submit
    rw [address]
    exact mem
  | some a =>
    rw [submit_waiting address]
    exact mem_poolSubmit_urgent mem urgent key

/-- A notice of another key than STATE and DRAW stays while the pool has room, and one of rank 0 always. -/
theorem Speaks.stands (h : Speaks s t) {f : PoolEntry} (mem : f ∈ s.line.waiting)
    (state : ∀ n v, sameKey (.state n v) f.notice = false) (draw : ∀ c h, sameKey (.draw c h) f.notice = false)
    (stays : f.rank = 0 ∨ t.PoolHasRoom) : f ∈ t.line.waiting := by
  induction h with
  | refl => exact mem
  | state n v r _ ih =>
    obtain urgent | room := stays
    · exact mem_submit_urgent (ih (.inl urgent)) urgent (state n v)
    · exact (mem_submit_of_room room).2 f (ih (.inr (poolHasRoom_of_submit room))) (state n v)
  | draw c h r _ ih =>
    obtain urgent | room := stays
    · exact mem_submit_urgent (ih (.inl urgent)) urgent (draw c h)
    · exact (mem_submit_of_room room).2 f (ih (.inr (poolHasRoom_of_submit room))) (draw c h)
  | aside u _ line own ih =>
    rw [line]
    exact ih (stays.imp_right (poolHasRoom_congr (by rw [line]) (by rw [line]) own).mp)

/-- The room at rest was there before running to rest. -/
theorem Speaks.room (h : Speaks s t) (room : t.PoolHasRoom) : s.PoolHasRoom := by
  induction h with
  | refl => exact room
  | state _ _ _ _ ih => exact ih (poolHasRoom_of_submit room)
  | draw _ _ _ _ ih => exact ih (poolHasRoom_of_submit room)
  | aside u _ line own ih => exact ih ((poolHasRoom_congr (by rw [line]) (by rw [line]) own).mp room)

/-- A notice of rank 0 enters a pool that has room, or in which a less urgent notice waits (R138, R140). -/
theorem mem_poolSubmit_of_urgent {locked : Nat} {e : PoolEntry} {w : List PoolEntry} (urgent : e.rank = 0)
    (room : w.length + locked < Config.poolCapacity ∨ ∃ f ∈ w, 0 < f.rank) :
    ∃ f ∈ poolSubmit locked e w, f.notice = e.notice ∧ f.rank = 0 := by
  unfold poolSubmit
  split
  · exact ⟨_, (mem_poolInsert _ _ _).mpr (.inl rfl), rfl, urgent⟩
  · split
    · exact ⟨e, (mem_poolInsert _ _ _).mpr (.inl rfl), rfl, urgent⟩
    · rename_i full
      obtain ⟨g, mem, rank⟩ := room.resolve_left full
      split
      · rename_i none
        rw [leastUrgent_eq_none.mp none] at mem
        cases mem
      · rename_i v least
        have droppable := leastUrgent_droppable least g mem
        unfold PoolEntry.Droppable at droppable
        rw [if_pos (by omega)]
        exact ⟨e, (mem_poolInsert _ _ _).mpr (.inl rfl), rfl, urgent⟩

theorem mem_submit_of_urgent {e : Notice} (address : s.port.ownAddress.isSome = true)
    (room : s.line.poolSize < Config.poolCapacity ∨ ∃ f ∈ s.line.waiting, 0 < f.rank) :
    ∃ f ∈ (s.submit e 0).line.waiting, f.notice = e ∧ f.rank = 0 := by
  obtain ⟨a, address⟩ := Option.isSome_iff_exists.mp address
  rw [submit_waiting address]
  exact mem_poolSubmit_of_urgent rfl room

end

end Sys2Proof.Machine

namespace Sys2Proof.Machine
set_option Elab.async false

/-! ### A reading of the rain sensor (R57 to R66) -/

section

variable {s t : State} {c : RunCfg}

theorem lasted_keepRun {holds : Bool} {run : Option Nat} {ds : Nat} (positive : 1 ≤ ds) :
    lasted (keepRun holds run) ds = true ↔ holds = true ∧ ∃ a, run = some a ∧ ds ≤ a := by
  cases holds
  · exact ⟨nofun, nofun⟩
  · unfold keepRun lasted
    cases run with
    | none => simp; omega
    | some a => simp

theorem lasted_of {a ds : Nat} {run : Option Nat} (running : run = some a) (long : ds ≤ a) : lasted (keepRun true run) ds = true := by
  subst running
  exact decide_eq_true long

/-! #### The sensor state -/

theorem sense_onset {f : RainFront} {r now a : Nat} (dry : f.state = some .capturing ∨ f.state = some .dry)
    (sound : lasted (keepRun (outOfRange r) f.faultRun) 50 = false) (wet : f.onsetThreshold c ≤ r) (run : f.onsetRun = some a)
    (long : 10 * c.onsetConfirmS ≤ a) : f.sense c r now = ({ f with
      state := some .wet, onsetRun := none, ceaseRun := none, faultRun := keepRun (outOfRange r) f.faultRun, capture := .idle
      wetTime := some now, intensity := intensityOf (f.onsetThreshold c) r }, .onset) := by
  have judged : f.sense c r now = f.senseDry c r now := by
    unfold RainFront.sense
    obtain dry | dry := dry <;> rw [dry]
  rw [judged]
  unfold RainFront.senseDry
  dsimp only
  rw [sound, if_neg Bool.false_ne_true, decide_eq_true wet, if_pos (lasted_of run long)]

/-- A reading that changes nothing of the sensor state keeps or closes the runs. -/
theorem sense_stays {f : RainFront} {r now : Nat} (dry : f.state = some .capturing ∨ f.state = some .dry)
    (sound : lasted (keepRun (outOfRange r) f.faultRun) 50 = false)
    (short : lasted (keepRun (decide (f.onsetThreshold c ≤ r)) f.onsetRun) (10 * c.onsetConfirmS) = false) :
    f.sense c r now = ({ f with
      onsetRun := keepRun (decide (f.onsetThreshold c ≤ r)) f.onsetRun, faultRun := keepRun (outOfRange r) f.faultRun }, .none) := by
  have judged : f.sense c r now = f.senseDry c r now := by
    unfold RainFront.sense
    obtain dry | dry := dry <;> rw [dry]
  rw [judged]
  unfold RainFront.senseDry
  dsimp only
  rw [sound, if_neg Bool.false_ne_true, short, if_neg Bool.false_ne_true]

theorem sense_cease {f : RainFront} {r now a : Nat} (wet : f.state = some .wet)
    (sound : lasted (keepRun (outOfRange r) f.faultRun) 50 = false) (dry : r < f.ceaseThreshold c) (run : f.ceaseRun = some a)
    (long : 10 * c.dryHoldS ≤ a) : f.sense c r now = ({ f with
      state := some f.dryState, ceaseRun := none, faultRun := keepRun (outOfRange r) f.faultRun, intensity := 0 }, .cease) := by
  unfold RainFront.sense
  rw [wet]
  dsimp only
  unfold RainFront.senseWet
  dsimp only
  rw [sound, if_neg Bool.false_ne_true, decide_eq_true dry, if_pos (lasted_of run long)]

theorem sense_fault {f : RainFront} {r now b : Nat} (state : f.state ≠ none) (sound : f.state ≠ some .fault)
    (out : outOfRange r = true) (run : f.faultRun = some b) (long : 50 ≤ b) : f.sense c r now =
      ({ f.enterFault with wetTime := if f.state = some .wet then f.wetTime else some now },
        if f.state = some .wet then .faultFromWet else .faultFromDry) := by
  unfold RainFront.sense
  split
  · rename_i none
    exact absurd none state
  · rename_i fault
    exact absurd fault sound
  · rename_i wet
    unfold RainFront.senseWet
    dsimp only
    rw [out, if_pos (lasted_of run long), if_pos wet, if_pos wet]
    rfl
  all_goals
    rename_i dry
    unfold RainFront.senseDry
    dsimp only
    rw [out, if_pos (lasted_of run long), dry]
    rfl

theorem sense_faultEnd {f : RainFront} {r now b : Nat} (fault : f.state = some .fault) (sound : outOfRange r = false)
    (run : f.inRangeRun = some b) (long : 50 ≤ b) : f.sense c r now =
      ({ f with state := some f.dryState, owed := f.owed || f.reference.isSome, inRangeRun := none }, .faultEnd) := by
  unfold RainFront.sense
  rw [fault]
  dsimp only
  unfold RainFront.senseFault
  dsimp only
  rw [sound]
  exact if_pos (lasted_of run long)

/-! #### The reports -/

/-- A change of the sensor state starts a review. -/
theorem rainReport_due {e : RainEvent} (change : e ≠ .none) (deciding : s.deciding = true) : (s.rainReport e).reviewDue = true := by
  have asks (u : State) (h : u.deciding = true) : u.askReview.reviewDue = true := by
    unfold State.askReview
    rw [if_pos h]
  have begun (u : State) (port : u.port = s.port) : u.deciding = true := by
    unfold State.deciding State.rereading at deciding ⊢
    rwa [port]
  cases e with
  | none => exact absurd rfl change
  | onset => exact asks _ (begun _ (State.submit_port _ _ _))
  | cease => exact asks _ (begun _ (State.submit_port _ _ _))
  | faultFromWet => exact asks _ (begun _ (beginCondition_port _ _))
  | faultFromDry => exact asks _ (begun _ (beginCondition_port _ _))
  | faultEnd => exact asks _ (begun _ rfl)

theorem takeRain_report (r : Nat) {f : RainFront} {e : RainEvent} (sensed : (s.rain.reads r).sense c r s.now = (f, e)) :
    s.takeRain c r = { ({ s with rain := f } : State).rainReport e with rain := f.captureStep c r } := by
  have sensed : ({ s.rain with latest := some r, latestNow := true } : RainFront).sense c r s.now = (f, e) := sensed
  unfold State.takeRain
  rw [sensed]
  dsimp only
  rw [rainReport_rain]

theorem execRainReading_of (r : Fin 1024) (config : s.port.config = some c) (fitted : c.rainFitted = true)
    (reread : s.rereading = false) : exec (.rainReading r) s = .next (s.takeRain c r.val).finish := by
  have cfg : s.rainCfg? = some c := by
    unfold State.rainCfg?
    rw [config]
    exact if_pos (by rw [fitted, reread]; rfl)
  have ends : exec (.rainReading r) s = execRainReading r s := rfl
  unfold execRainReading at ends
  rwa [cfg] at ends

/-- The refresh timer after a reading's reports (R154). -/
def RainEvent.refreshes (e : RainEvent) (before : Timer) : Timer :=
  match e with
  | .onset => some 600
  | .cease | .faultFromWet => Option.none
  | .none | .faultFromDry | .faultEnd => before

theorem rainReport_kept (s : State) (e : RainEvent) : (s.rainReport e).kept = { s.kept with
    handler := { s.kept.handler with refresh := e.refreshes s.handler.refresh }
    flags := (s.rainReport e).flags } := by
  have told (p a i : Nat) (x : Timer) : ((s.submitWetness p a i).setRefresh x).askReview.kept =
      { s.kept with
        handler := { s.kept.handler with refresh := x }
        flags := ((s.submitWetness p a i).setRefresh x).askReview.flags } := by
    have submitted : ((s.submitWetness p a i).setRefresh x).kept = { s.kept with handler := { s.kept.handler with refresh := x } } := by
      have kept : (s.submitWetness p a i).kept = s.kept := submit_kept s _ _
      have set (u : State) : (u.setRefresh x).kept = { u.kept with handler := { u.kept.handler with refresh := x } } := rfl
      rw [set, kept]
    have kept := (askReview_kept ((s.submitWetness p a i).setRefresh x)).trans submitted
    rw [kept, kept_flags (askReview_kept _)]
    exact congrArg (fun l => { s.kept with
      handler := { s.kept.handler with refresh := x }
      flags := l }) (State.submit_flags s _ _).symm
  have begun (u : State) : (u.beginCondition .rainSensor).askReview.kept =
      { u.kept with flags := (u.beginCondition .rainSensor).askReview.flags } := by
    rw [askReview_kept, kept_flags (askReview_kept _)]
    exact beginCondition_kept u _
  cases e with
  | none => rfl
  | onset => exact told _ _ _ _
  | cease => exact told _ _ _ _
  | faultFromWet => exact begun _
  | faultFromDry => exact begun _
  | faultEnd =>
    unfold State.rainReport
    dsimp only
    rw [askReview_kept, kept_flags (askReview_kept _)]
    rfl

/-- What a reading leaves at rest. -/
theorem takeRain_finish_kept (r : Nat) {f : RainFront} {e : RainEvent} (sensed : (s.rain.reads r).sense c r s.now = (f, e)) :
    (s.takeRain c r).finish.kept = { s.kept with
      rain := f.captureStep c r
      handler := { s.kept.handler with refresh := e.refreshes s.handler.refresh }
      flags := (({ s with rain := f } : State).rainReport e).flags } := by
  have reported := rainReport_kept { s with rain := f } e
  rw [finish_kept, takeRain_report r sensed]
  generalize State.rainReport _ e = u at reported ⊢
  have set : ({ u with rain := f.captureStep c r } : State).kept = { u.kept with rain := f.captureStep c r } := rfl
  rw [set, reported]
  rfl

theorem rainReport_flags {e : RainEvent} (told : e = .none ∨ e = .onset ∨ e = .cease) : (s.rainReport e).flags = s.flags := by
  obtain rfl | rfl | rfl := told
  · rfl
  · exact (State.askReview_flags _).trans (State.submit_flags s _ _)
  · exact (State.askReview_flags _).trans (State.submit_flags s _ _)

theorem rainReport_onset_line (s : State) : (s.rainReport .onset).line = (s.submit (.wetness 0 0 s.rain.intensity) 0).line :=
  State.askReview_line ((s.submitWetness 0 0 s.rain.intensity).setRefresh (some 600))

theorem rainReport_cease_line (s : State) : (s.rainReport .cease).line = (s.submit (.wetness 2 s.wetAge 0) 9).line :=
  State.askReview_line ((s.submitWetness 2 s.wetAge 0).setRefresh none)

theorem takeRain_onset_line (r : Nat) {f : RainFront} (sensed : (s.rain.reads r).sense c r s.now = (f, .onset)) :
    (s.takeRain c r).line = (s.submit (.wetness 0 0 f.intensity) 0).line := by
  rw [takeRain_report r sensed]
  exact (rainReport_onset_line { s with rain := f }).trans (submit_line_congr (s := s) (t := { s with rain := f }) rfl rfl _ _)

theorem takeRain_cease_line (r : Nat) {f : RainFront} (sensed : (s.rain.reads r).sense c r s.now = (f, .cease)) :
    (s.takeRain c r).line = (s.submit (.wetness 2 (min 65535 (s.now - f.wetTime.getD s.now)) 0) 9).line := by
  rw [takeRain_report r sensed]
  exact (rainReport_cease_line { s with rain := f }).trans (submit_line_congr (s := s) (t := { s with rain := f }) rfl rfl _ _)

theorem rainReport_begun {e : RainEvent} (fault : e = .faultFromWet ∨ e = .faultFromDry) :
    (s.rainReport e).flag .rainSensor = (s.flag .rainSensor).begun := by
  have begun (u : State) : (u.beginCondition .rainSensor).askReview.flag .rainSensor = (u.flag .rainSensor).begun := by
    rw [flag_of_flags (kept_flags (askReview_kept _)), beginCondition_flag, if_pos rfl]
  obtain rfl | rfl := fault
  · exact begun _
  · exact begun _

theorem rainReport_ended (s : State) : (s.rainReport .faultEnd).flag .rainSensor = { s.flag .rainSensor with condition := false } :=
  (flag_of_flags (kept_flags (askReview_kept _)) _).trans ((setCondition_flag s _ _ _).trans (if_pos rfl))

theorem takeRain_finish_judged (r : Nat) {f : RainFront} {e : RainEvent} (sensed : (s.rain.reads r).sense c r s.now = (f, e))
    (change : e ≠ .none) (deciding : s.deciding = true) : (s.takeRain c r).finish.Judged := by
  refine finish_judged_of_due _ ?_
  rw [takeRain_report r sensed]
  exact rainReport_due (s := { s with rain := f }) change deciding

/-- While the own sensor counts as wet a review's arrival is the own wet time (R84). -/
theorem State.Judged.wet (judged : t.Judged) (config : t.port.config = some c) (reread : t.rereading = false)
    (wet : t.rain.countsWet = true) : t.eval.arrival = some (t.rain.wetTime.getD t.now) ∧ t.eval.threat = true := by
  obtain ⟨-, -, arrival, threat, -⟩ := judged c config reread
  have own : t.threatArrival c t.eval.v t.eval.d = some (t.rain.wetTime.getD t.now) := if_pos wet
  rw [threat, arrival, own]
  exact ⟨rfl, rfl⟩

/-- The capture does not concern a sensor that is WET or in FAULT. -/
theorem captureStep_idle {f : RainFront} {r : Nat} (state : f.state = some .wet ∨ f.state = some .fault) : f.captureStep c r = f := by
  unfold RainFront.captureStep
  refine if_neg ?_
  unfold RainFront.wantsCapture
  obtain state | state := state <;> rw [state] <;> exact Bool.false_ne_true

/-- An idle capture that starts at a reading changes the capture alone. -/
theorem captureStep_first {f : RainFront} (idle : f.capture = .idle) (r : Nat) : ∃ x : Capture,
    f.captureStep c r = { f with capture := x } ∧ (f.wantsCapture = true → x ≠ .idle) := by
  unfold RainFront.captureStep
  split
  · rw [idle]
    dsimp only
    unfold RainFront.captureReading
    split
    · exact ⟨_, rfl, fun _ => nofun⟩
    · exact ⟨_, rfl, fun _ => nofun⟩
  · rename_i unwanted
    exact ⟨f.capture, rfl, fun wanted => absurd wanted unwanted⟩

theorem dryState_eq (f : RainFront) : f.dryState = if f.reference.isSome then .dry else .capturing := rfl

theorem count_of_units (units : t.kept.units = s.kept.units) (n : Ch) : (t.units[n]'n.isLt).count = (s.units[n]'n.isLt).count := by
  have same := congrArg (fun x : Vector ChanUnit 4 => x[n]'n.isLt) units
  simp only [State.kept, Fin.getElem_fin, Vector.getElem_map] at same
  exact congrArg (·.count) (show (t.units[n]'n.isLt).sensed = (s.units[n]'n.isLt).sensed from same)

/-- Settles O34: the reading's event is an onset or a cease (`sense_onset`, `sense_cease`), and nothing that the review starts
drops its notice (`Speaks.stands`). -/
theorem rainStartsAndCeases : Obligations.RainStartsAndCeases := by
  unfold Obligations.RainStartsAndCeases
  intro r s c config fitted reread sound
  have ends := execRainReading_of r config fitted reread
  have deciding : s.deciding = true := deciding_iff.mpr ⟨c, config, reread⟩
  have sound : lasted (keepRun (outOfRange r.val) s.rain.faultRun) 50 = false :=
    Bool.eq_false_iff.mpr (mt (lasted_keepRun (by decide)).mp sound)
  refine ⟨fun dry wet a run long => ?_, fun wet idle dry a run long => ?_⟩
  · have sensed := sense_onset (f := s.rain.reads r.val) (c := c) (r := r.val) (now := s.now) dry sound wet run long
    have kept := takeRain_finish_kept r.val sensed
    have judged := takeRain_finish_judged r.val sensed nofun deciding
    have speaks := (finish_settles (s.takeRain c r.val)).speaks
    have line : _ = (s.submit (.wetness 0 0 (intensityOf (s.rain.onsetThreshold c) r.val)) 0).line := takeRain_onset_line r.val sensed
    rw [captureStep_idle (.inl rfl), rainReport_flags (.inr (.inl rfl))] at kept
    refine ⟨_, ends, ?_⟩
    generalize State.finish _ = t at *
    have rain : t.rain = _ := congrArg (·.rain) kept
    obtain ⟨arrival, threat⟩ := judged.wet (c := c) ((congrArg (·.port.config) kept).trans config) ((congrArg State.rereading kept).trans reread)
      (by rw [rain]; rfl)
    refine ⟨congrArg (·.state) rain, congrArg (·.wetTime) rain, congrArg (·.intensity) rain, congrArg (·.capture) rain,
      congrArg (·.reference) rain, congrArg (·.handler.refresh) kept, judged, threat, ?_, congrArg (·.flags) kept,
      count_of_units (congrArg (·.units) kept), fun address room => ?_⟩
    · rw [arrival, rain]
      rfl
    · obtain ⟨f, mem, notice, rank⟩ := mem_submit_of_urgent (e := .wetness 0 0 (intensityOf (s.rain.onsetThreshold c) r.val)) address room
      rw [← congrArg (·.waiting) line] at mem
      exact ⟨f, speaks.stands mem (by rw [notice]; exact fun _ _ => rfl) (by rw [notice]; exact fun _ _ => rfl) (.inl rank), notice, rank⟩
  · have sensed := sense_cease (f := s.rain.reads r.val) (c := c) (r := r.val) (now := s.now) wet sound dry run long
    have kept := takeRain_finish_kept r.val sensed
    have judged := takeRain_finish_judged r.val sensed nofun deciding
    have speaks := (finish_settles (s.takeRain c r.val)).speaks
    have line := takeRain_cease_line r.val sensed
    have own : (s.takeRain c r.val).port.ownAddress = s.port.ownAddress :=
      (kept_ownAddress (finish_kept _)).symm.trans (congrArg (·.port.ownAddress) kept)
    obtain ⟨x, eq, -⟩ := captureStep_first (c := c) (f := { s.rain.reads r.val with
      state := some (s.rain.reads r.val).dryState, ceaseRun := none, faultRun := keepRun (outOfRange r.val) (s.rain.reads r.val).faultRun
      intensity := 0 }) idle r.val
    rw [rainReport_flags (.inr (.inr rfl)), eq] at kept
    refine ⟨_, ends, ?_⟩
    generalize State.finish _ = t at *
    have rain : t.rain = _ := congrArg (·.rain) kept
    rw [rain]
    refine ⟨congrArg some (dryState_eq _), rfl, rfl, rfl, congrArg (·.handler.refresh) kept, judged, congrArg (·.flags) kept, fun room w was => ?_⟩
    have stood := speaks.room room
    have submitted : (s.submit (.wetness 2 (min 65535 (s.now - w)) 0) 9).PoolHasRoom := by
      refine poolHasRoom_of_line (t := s.takeRain c r.val) ?_ own stood
      rw [line, show (s.rain.reads r.val).wetTime = some w from was]
      rfl
    obtain ⟨⟨f, mem, notice, rank⟩, -⟩ := mem_submit_of_room submitted
    refine ⟨f, speaks.stands ?_ (by rw [notice]; exact fun _ _ => rfl) (by rw [notice]; exact fun _ _ => rfl) (.inr room), notice, rank⟩
    rw [line, show (s.rain.reads r.val).wetTime = some w from was]
    exact mem

end

end Sys2Proof.Machine

namespace Sys2Proof.Machine
set_option Elab.async false

/-! ### FAULT and the capture (R57 to R64) -/

section

variable {s t : State} {c : RunCfg}

/-- Once FAULT has ended a capture is wanted: of a first reference, or of the one that is owed (R57, R64). -/
theorem wantsCapture_faultEnd {f g : RainFront} (state : g.state = some f.dryState) (owed : g.owed = (f.owed || f.reference.isSome)) :
    g.wantsCapture = true := by
  unfold RainFront.wantsCapture
  rw [state, owed, dryState_eq]
  cases f.reference <;> simp

/-- Settles O35: the reading's event is the entry to FAULT or its end (`sense_fault`, `sense_faultEnd`). -/
theorem rainFaults : Obligations.RainFaults := by
  unfold Obligations.RainFaults
  intro r s c config fitted reread
  have ends := execRainReading_of r config fitted reread
  have deciding : s.deciding = true := deciding_iff.mpr ⟨c, config, reread⟩
  refine ⟨fun state sound out b run long => ?_, fun fault idle low high b run long => ?_⟩
  · have sensed := sense_fault (f := s.rain.reads r.val) (c := c) (r := r.val) (now := s.now) state sound (decide_eq_true out) run long
    have change : (if s.rain.state = some .wet then RainEvent.faultFromWet else .faultFromDry) ≠ .none := by split <;> nofun
    have fault : (if s.rain.state = some .wet then RainEvent.faultFromWet else .faultFromDry) = .faultFromWet ∨
        (if s.rain.state = some .wet then RainEvent.faultFromWet else .faultFromDry) = .faultFromDry := by
      split
      · exact .inl rfl
      · exact .inr rfl
    have refreshes : (if s.rain.state = some .wet then RainEvent.faultFromWet else .faultFromDry).refreshes s.handler.refresh =
        if s.rain.state = some .wet then none else s.handler.refresh := by split <;> rfl
    have kept := takeRain_finish_kept r.val sensed
    have judged := takeRain_finish_judged r.val sensed change deciding
    have begun := rainReport_begun (s := { s with rain := { (s.rain.reads r.val).enterFault with
      wetTime := if s.rain.state = some .wet then s.rain.wetTime else some s.now } }) fault
    rw [captureStep_idle (.inr rfl)] at kept
    refine ⟨_, ends, ?_⟩
    generalize State.finish _ = t at *
    have rain : t.rain = _ := congrArg (·.rain) kept
    have flag : t.flag .rainSensor = (s.flag .rainSensor).begun := (congrArg (·.flag .rainSensor) kept).trans begun
    obtain ⟨-, threat⟩ := judged.wet (c := c) ((congrArg (·.port.config) kept).trans config) ((congrArg State.rereading kept).trans reread)
      (by rw [rain]; rfl)
    obtain ⟨condition, raised⟩ := (s.flag .rainSensor).begun_spec
    rw [flag]
    exact ⟨congrArg (·.state) rain, congrArg (·.intensity) rain, congrArg (·.capture) rain, congrArg (·.reference) rain,
      congrArg (·.owed) rain, congrArg (·.wetTime) rain, (congrArg (·.handler.refresh) kept).trans refreshes, judged, threat, condition, raised⟩
  · have inside : outOfRange r.val = false := decide_eq_false (by omega)
    have sensed := sense_faultEnd (f := s.rain.reads r.val) (c := c) (r := r.val) (now := s.now) fault inside run long
    have kept := takeRain_finish_kept r.val sensed
    have judged := takeRain_finish_judged r.val sensed nofun deciding
    obtain ⟨x, eq, starts⟩ := captureStep_first (c := c) (f := { s.rain.reads r.val with
      state := some (s.rain.reads r.val).dryState
      owed := (s.rain.reads r.val).owed || (s.rain.reads r.val).reference.isSome
      inRangeRun := none }) idle r.val
    have wanted := starts (wantsCapture_faultEnd (f := s.rain.reads r.val) rfl rfl)
    have ended := rainReport_ended { s with rain := { s.rain.reads r.val with
      state := some (s.rain.reads r.val).dryState
      owed := (s.rain.reads r.val).owed || (s.rain.reads r.val).reference.isSome
      inRangeRun := none } }
    rw [eq] at kept
    refine ⟨_, ends, ?_⟩
    generalize State.finish _ = t at *
    have rain : t.rain = _ := congrArg (·.rain) kept
    have flag : t.flag .rainSensor = { s.flag .rainSensor with condition := false } := (congrArg (·.flag .rainSensor) kept).trans ended
    rw [flag, rain]
    exact ⟨rfl, wanted, rfl, judged, rfl, rfl⟩

/-! #### The capture -/

/-- The capture at a reading that is due (R57). -/
theorem captureStep_due {f : RainFront} {count least greatest sum since : Nat} (r : Nat) (wanted : f.wantsCapture = true)
    (capture : f.capture = .collecting count least greatest sum since) (due : 10 ≤ since) :
    f.captureStep c r = f.captureReading c r count least greatest sum := by
  unfold RainFront.captureStep
  rw [if_pos wanted, capture]
  exact if_pos due

/-- A reading that the sensor judges without an event, at rest, where the capture takes it. -/
theorem takeRain_due_kept {f : RainFront} {count least greatest sum since : Nat} (r : Nat)
    (sensed : (s.rain.reads r).sense c r s.now = (f, .none)) (wanted : f.wantsCapture = true)
    (capture : f.capture = .collecting count least greatest sum since) (due : 10 ≤ since) :
    (s.takeRain c r).finish.kept = { s.kept with rain := f.captureReading c r count least greatest sum } := by
  rw [finish_kept, takeRain_of_quiet sensed, captureStep_due r wanted capture due]
  rfl

theorem wantsCapture_of {f : RainFront} (h : f.state = some .capturing ∨ f.state = some .dry ∧ f.owed = true) : f.wantsCapture = true := by
  unfold RainFront.wantsCapture
  obtain state | ⟨state, owed⟩ := h
  · rw [state]
    rfl
  · rw [state, owed]
    rfl

theorem captureReading_fails {f : RainFront} {r count least greatest sum : Nat}
    (fails : c.wetFloor ≤ r ∨ count = 7 ∧ 16 < max greatest r - min least r) :
    f.captureReading c r count least greatest sum = { f with capture := .retryWait 600 } := by
  unfold RainFront.captureReading
  by_cases wet : c.wetFloor ≤ r
  · rw [if_pos wet]
  · obtain ⟨last, wide⟩ := fails.resolve_left wet
    rw [if_neg wet, if_neg (by omega), if_neg (by omega)]

theorem captureReading_goesOn {f : RainFront} {r count least greatest sum : Nat} (dry : ¬ c.wetFloor ≤ r) (more : count < 7) :
    f.captureReading c r count least greatest sum =
      { f with capture := .collecting (count + 1) (min least r) (max greatest r) (sum + r) 0 } := by
  unfold RainFront.captureReading
  rw [if_neg dry, if_pos (by omega)]

theorem captureReading_succeeds {f : RainFront} {r count least greatest sum : Nat} (dry : ¬ c.wetFloor ≤ r) (last : count = 7)
    (narrow : max greatest r - min least r ≤ 16) : f.captureReading c r count least greatest sum = f.captured (sum + r) := by
  unfold RainFront.captureReading
  rw [if_neg dry, if_neg (by omega), if_pos narrow]

theorem execCaptureRetryExpiry_of (config : s.port.config = some c) (fitted : c.rainFitted = true) (reread : s.rereading = false)
    (expired : s.rain.capture = .retryWait 0) : ∃ x : Capture,
    exec .captureRetryExpiry s = .next { s with rain := { s.rain with capture := x } } ∧
      (s.rain.wantsCapture = false → x = .idle) ∧
      (s.rain.wantsCapture = true → s.rain.latestNow = false → x = .collecting 0 1023 0 0 10) ∧
      (s.rain.wantsCapture = true → s.rain.latestNow = true → ∀ y, s.rain.latest = some y →
        x = if c.wetFloor ≤ y then .retryWait 600 else .collecting 1 (min 1023 y) y y 0) := by
  have cfg : s.rainCfg? = some c := by
    unfold State.rainCfg?
    rw [config]
    exact if_pos (by rw [fitted, reread]; rfl)
  have ends : exec .captureRetryExpiry s = execCaptureRetryExpiry s := rfl
  unfold execCaptureRetryExpiry at ends
  have wants : ({ s.rain with capture := .idle } : RainFront).wantsCapture = s.rain.wantsCapture := rfl
  simp only [cfg, expired, wants] at ends
  cases wanted : s.rain.wantsCapture with
  | false =>
    simp only [wanted, Bool.false_eq_true, if_false] at ends
    exact ⟨_, ends, fun _ => rfl, nofun, nofun⟩
  | true =>
    simp only [wanted, if_true] at ends
    split at ends
    · rename_i y latest now
      by_cases wet : c.wetFloor ≤ y
      · rw [captureReading_fails (.inl wet)] at ends
        refine ⟨_, ends, nofun, fun _ old => (Bool.false_ne_true (old.symm.trans now)).elim, fun _ _ z eq => ?_⟩
        obtain rfl := Option.some.inj (latest.symm.trans eq)
        exact (if_pos wet).symm
      · rw [captureReading_goesOn wet (by decide), Nat.max_eq_right (Nat.zero_le y), Nat.zero_add, Nat.zero_add] at ends
        refine ⟨_, ends, nofun, fun _ old => (Bool.false_ne_true (old.symm.trans now)).elim, fun _ _ z eq => ?_⟩
        obtain rfl := Option.some.inj (latest.symm.trans eq)
        exact (if_neg wet).symm
    · rename_i other
      exact ⟨_, ends, nofun, fun _ _ => rfl, fun _ now y latest => (other y latest now).elim⟩

/-- Settles O36: a quiet reading (`sense_stays`), then the capture's judgement (`captureStep_due`). -/
theorem capturesReference : Obligations.CapturesReference := by
  unfold Obligations.CapturesReference
  refine ⟨fun r s c count least greatest sum since config fitted reread wanted low high dry capture due => ?_,
    fun r s c count least greatest sum since config fitted reread wanted low high wet floor confirm short capture due => ?_,
    fun s c config fitted reread expired => ?_⟩
  · have ends := execRainReading_of r config fitted reread
    have inside : outOfRange r.val = false := decide_eq_false (by omega)
    have below : decide (s.rain.onsetThreshold c ≤ r.val) = false := decide_eq_false (by omega)
    have sensed := sense_stays (f := s.rain.reads r.val) (c := c) (r := r.val) (now := s.now)
      (wanted.imp_right (·.1)) (by rw [inside]; rfl) (by rw [show decide ((s.rain.reads r.val).onsetThreshold c ≤ r.val) = false from below]; rfl)
    have kept := takeRain_due_kept r.val sensed (wantsCapture_of wanted) capture due
    refine ⟨fun floor last narrow => ⟨_, ends, ?_⟩, fun floor more => ⟨_, ends, ?_⟩, fun fails => ⟨_, ends, ?_⟩⟩
    · rw [captureReading_succeeds (by omega) last narrow] at kept
      generalize State.finish _ = t at *
      have rain : t.rain = _ := congrArg (·.rain) kept
      rw [rain]
      exact ⟨rfl, rfl, rfl, rfl, rfl⟩
    · rw [captureReading_goesOn (by omega) more] at kept
      generalize State.finish _ = t at *
      have rain : t.rain = _ := congrArg (·.rain) kept
      rw [rain]
      exact ⟨rfl, rfl, rfl⟩
    · rw [captureReading_fails fails] at kept
      generalize State.finish _ = t at *
      have rain : t.rain = _ := congrArg (·.rain) kept
      rw [rain]
      exact ⟨rfl, rfl, rfl, rfl⟩
  · have ends := execRainReading_of r config fitted reread
    have inside : outOfRange r.val = false := decide_eq_false (by omega)
    have above : decide ((s.rain.reads r.val).onsetThreshold c ≤ r.val) = true := decide_eq_true wet
    have sensed := sense_stays (f := s.rain.reads r.val) (c := c) (r := r.val) (now := s.now) (wanted.imp_right (·.1))
      (by rw [inside]; rfl) (Bool.eq_false_iff.mpr fun lasts => by
        obtain ⟨-, a, run, long⟩ := (lasted_keepRun (by omega)).mp lasts
        have := short a run
        omega)
    have kept := takeRain_due_kept r.val sensed (wantsCapture_of wanted) capture due
    rw [captureReading_fails (.inl floor), above] at kept
    refine ⟨_, ends, ?_⟩
    generalize State.finish _ = t at *
    have rain : t.rain = _ := congrArg (·.rain) kept
    refine ⟨congrArg (·.state) rain, congrArg (·.reference) rain, congrArg (·.owed) rain, congrArg (·.capture) rain,
      congrArg (·.onsetRun) rain, congrArg (·.flags) kept⟩
  · obtain ⟨x, ends, rest⟩ := execCaptureRetryExpiry_of config fitted reread expired
    exact ⟨_, ends, rfl, rest⟩

end

end Sys2Proof.Machine

namespace Sys2Proof.Machine
set_option Elab.async false

/-! ### The wind report (R67 to R73, R154, R155) -/

section

variable {s t : State} {c : RunCfg}

theorem submitGust_kept (s : State) : s.submitGust.kept = { s.kept with handler := { s.kept.handler with
    lastGust := some (s.wind.assessment, s.vane.sector), gustTimer := some 300 } } := by
  have kept := submit_kept s (.gust s.wind.assessment s.wind.lastSpeed s.vane.sector) 8
  unfold State.submitGust
  generalize State.submit _ _ _ = u at kept ⊢
  have set : ({ u with handler := { u.handler with lastGust := some (s.wind.assessment, s.vane.sector), gustTimer := some 300 } } : State).kept =
      { u.kept with handler := { u.kept.handler with lastGust := some (s.wind.assessment, s.vane.sector), gustTimer := some 300 } } := rfl
  rw [set, kept]

/-- Handing the report leaves all but the last GUST and its timer. -/
theorem handReport_kept (s : State) : s.handReport.kept = { s.kept with handler := { s.kept.handler with
    lastGust := s.handReport.handler.lastGust, gustTimer := s.handReport.handler.gustTimer } } := by
  obtain eq | eq | eq := handReport_cases s <;> rw [eq]
  · rfl
  · have kept := askReview_kept s
    rw [kept, kept_lastGust kept, kept_gustTimer kept]
    rfl
  · rw [submitGust_kept, askReview_kept]
    rfl

/-- Handing the report starts a review while the report is offered (R72). -/
theorem handReport_due (offered : s.reportOffered = true) (deciding : s.deciding = true) : s.handReport.reviewDue = true := by
  have due : s.askReview.reviewDue = true := by
    unfold State.askReview
    rw [if_pos deciding]
  have told : s.askReview.submitGust.reviewDue = true := (State.submit_reviewDue s.askReview _ _).trans due
  unfold State.handReport
  rw [if_pos offered]
  dsimp only
  split
  · exact due
  · split
    · exact told
    · exact due

theorem handReport_off (off : s.reportOffered = false) : s.handReport = s := by
  unfold State.handReport
  rw [off]
  rfl

/-- A report that is handed is sent where it has changed enough (R155). -/
theorem handReport_gust {a d : Nat} (offered : s.reportOffered = true) (last : s.handler.lastGust = some (a, d)) :
    (s.wind.assessment < a + 10 ∧ a < s.wind.assessment + 10 ∧ d = s.vane.sector →
      s.handReport.handler.lastGust = some (a, d) ∧ s.handReport.handler.gustTimer = s.handler.gustTimer) ∧
    (a + 10 ≤ s.wind.assessment ∨ s.wind.assessment + 10 ≤ a ∨ d ≠ s.vane.sector →
      s.handReport.handler.lastGust = some (s.wind.assessment, s.vane.sector) ∧ s.handReport.handler.gustTimer = some 300) := by
  have kept := askReview_kept s
  have eq : s.handReport =
      if 10 ≤ absDiff s.wind.assessment a || s.vane.sector ≠ d then s.askReview.submitGust else s.askReview := by
    unfold State.handReport
    rw [if_pos offered]
    dsimp only
    rw [kept_lastGust kept, last, kept_wind kept, kept_vane kept]
  have far : (10 ≤ absDiff s.wind.assessment a || s.vane.sector ≠ d) = true ↔
      a + 10 ≤ s.wind.assessment ∨ s.wind.assessment + 10 ≤ a ∨ d ≠ s.vane.sector := by
    unfold absDiff
    simp only [Bool.or_eq_true, decide_eq_true_eq]
    omega
  rw [eq]
  refine ⟨fun near => ?_, fun changed => ?_⟩
  · rw [if_neg (fun h => by have := far.mp h; omega), kept_lastGust kept, kept_gustTimer kept]
    exact ⟨last, rfl⟩
  · rw [if_pos (far.mpr changed)]
    have sent := submitGust_kept s.askReview
    rw [kept_wind kept, kept_vane kept] at sent
    generalize State.submitGust _ = u at sent ⊢
    exact ⟨congrArg (·.handler.lastGust) sent, congrArg (·.handler.gustTimer) sent⟩

theorem reportOffered_iff (config : s.port.config = some c) (fitted : c.anemFitted = true) : s.reportOffered = !s.wind.excluded := by
  unfold State.reportOffered
  rw [config]
  dsimp only
  rw [fitted, Bool.true_and]

theorem vaneCfg?_of (config : s.port.config = some c) (vane : c.vaneFitted = true) (anem : c.anemFitted = true) :
    s.vaneCfg? = some c := by
  unfold State.vaneCfg?
  rw [config]
  exact if_pos (by rw [vane, anem]; rfl)

/-- What handing a report leaves at rest. -/
structure State.Handed (u t : State) : Prop where
  kept : t.kept = { u.kept with handler := { u.kept.handler with lastGust := t.handler.lastGust, gustTimer := t.handler.gustTimer } }
  judged : u.reportOffered = true → u.deciding = true → t.Judged
  near : ∀ a d, u.reportOffered = true → u.handler.lastGust = some (a, d) →
    u.wind.assessment < a + 10 ∧ a < u.wind.assessment + 10 ∧ d = u.vane.sector →
      t.handler.lastGust = some (a, d) ∧ t.handler.gustTimer = u.handler.gustTimer
  far : ∀ a d, u.reportOffered = true → u.handler.lastGust = some (a, d) →
    a + 10 ≤ u.wind.assessment ∨ u.wind.assessment + 10 ≤ a ∨ d ≠ u.vane.sector →
      t.handler.lastGust = some (u.wind.assessment, u.vane.sector) ∧ t.handler.gustTimer = some 300
  off : u.reportOffered = false → t.handler.lastGust = u.handler.lastGust

theorem handReport_handed (u : State) : u.Handed u.handReport.finish := by
  have kept := finish_kept u.handReport
  have same : u.handReport.finish.handler.lastGust = u.handReport.handler.lastGust := kept_lastGust kept
  have timer : u.handReport.finish.handler.gustTimer = u.handReport.handler.gustTimer := kept_gustTimer kept
  refine ⟨?_, fun offered deciding => finish_judged_of_due _ (handReport_due offered deciding),
    fun a d offered last near => ?_, fun a d offered last far => ?_, fun off => ?_⟩
  · rw [same, timer, kept]
    exact handReport_kept u
  · rw [same, timer]
    exact (handReport_gust offered last).1 near
  · rw [same, timer]
    exact (handReport_gust offered last).2 far
  · rw [same, handReport_off off]

/-- A review finds the own report among its sources (R72, R79). -/
theorem State.Judged.ownWind (judged : t.Judged) (config : t.port.config = some c) (reread : t.rereading = false)
    (offered : t.reportOffered = true) :
    (t.wind.assessment, t.vane.sector) ∈ t.windSources ∧ t.wind.assessment ≤ t.eval.v := by
  obtain ⟨v, -⟩ := judged c config reread
  have own := mem_windSources.mpr (.inl ⟨offered, rfl⟩)
  refine ⟨own, ?_⟩
  rw [v]
  exact (strongest_spec t.windSources).1 _ own

/-- What a vane sample makes of the candidate (R71). -/
theorem vaneSample_candidate (v : VaneFront) (d : Nat) : (v.sample d).sector = v.sector ∧
    (d = v.sector → (v.sample d).candidate = none) ∧
    (d ≠ v.sector → v.candidate = none → (v.sample d).candidate = some (d, 0)) ∧
    ∀ x age, d ≠ v.sector → v.candidate = some (x, age) → (v.sample d).candidate = if x = d then some (x, age) else some (d, 0) := by
  unfold VaneFront.sample
  by_cases same : d = v.sector
  · rw [if_pos same]
    exact ⟨rfl, fun _ => rfl, fun ne => absurd same ne, fun _ _ ne => absurd same ne⟩
  · rw [if_neg same]
    cases candidate : v.candidate with
    | none => exact ⟨rfl, fun eq => absurd eq same, fun _ _ => rfl, fun _ _ _ => nofun⟩
    | some p =>
      obtain ⟨y, old⟩ := p
      dsimp only
      refine ⟨by split <;> rfl, fun eq => absurd eq same, fun _ => nofun, fun x age _ eq => ?_⟩
      cases eq
      split <;> rfl

/-- Settles O37: window ends and sector acceptances hand the report (`handReport_handed`); the other commands set one field. -/
theorem weatherTimersAndSamples : Obligations.WeatherTimersAndSamples := by
  unfold Obligations.WeatherTimersAndSamples
  refine ⟨fun s c config fitted expired => ?_, ⟨fun s expired wet => ?_, fun s expired offered => ?_,
    fun us s c config fitted level long => ?_, fun v2 v1 v0 s c d config vane anem sector => ?_⟩,
    fun s c d age config vane anem candidate held => ?_⟩
  · have ends : exec .windowEnd s = execWindowEnd s := rfl
    unfold execWindowEnd at ends
    rw [anemCfg?_iff.mpr ⟨config, fitted⟩] at ends
    replace ends := ends.trans (if_pos (by rw [expired]; rfl))
    have handed := handReport_handed { s with wind := s.wind.endWindow c.k }
    have offered := reportOffered_iff (s := { s with wind := s.wind.endWindow c.k }) config fitted
    have excluded : (s.wind.endWindow c.k).excluded = s.wind.excluded := by
      unfold WindFront.endWindow
      dsimp only
      split <;> rfl
    rw [show ({ s with wind := s.wind.endWindow c.k } : State).wind.excluded = s.wind.excluded from excluded] at offered
    refine ⟨_, ends, ?_⟩
    generalize State.finish _ = t at *
    have kept := handed.kept
    have wind : t.wind = s.wind.endWindow c.k := congrArg (·.wind) kept
    have vane : t.vane = s.vane := congrArg (·.vane) kept
    have sameConfig : t.port.config = some c := (congrArg (·.port.config) kept).trans config
    refine ⟨fun on reread => ?_, fun on a d last => ?_, fun off => handed.off (by rw [offered, off]; rfl),
      count_of_units (congrArg (·.units) kept)⟩
    · have judged := handed.judged (by rw [offered, on]; rfl) (deciding_iff.mpr ⟨c, config, reread⟩)
      refine ⟨judged, judged.ownWind sameConfig ((congrArg State.rereading kept).trans reread) ?_⟩
      rw [reportOffered_iff sameConfig fitted, wind, excluded, on]
      rfl
    · rw [wind]
      exact ⟨handed.near a d (by rw [offered, on]; rfl) last, handed.far a d (by rw [offered, on]; rfl) last⟩
  · have ends : exec .wetnessRefreshExpiry s = execWetnessRefreshExpiry s := rfl
    unfold execWetnessRefreshExpiry at ends
    exact ends.trans (if_pos (by rw [expired, wet]; rfl))
  · have ends : exec .gustPeriodExpiry s = execGustPeriodExpiry s := rfl
    unfold execGustPeriodExpiry at ends
    refine ⟨_, ends.trans (if_pos (by rw [expired, offered]; rfl)), rfl, rfl, rfl, ?_⟩
    unfold State.submitGust State.submit
    split <;> rfl
  · have ends : exec (.anemLevelFall us) s = execAnemLevelFall us s := rfl
    unfold execAnemLevelFall at ends
    rw [anemCfg?_iff.mpr ⟨config, fitted⟩] at ends
    exact ends.trans (if_pos (by rw [level]; exact decide_eq_true long))
  · have ends : exec (.vaneSample v2 v1 v0) s = execVaneSample v2 v1 v0 s := rfl
    unfold execVaneSample at ends
    rw [vaneCfg?_of config vane anem] at ends
    dsimp only at ends
    rw [show c.sector v2 v1 v0 = d from sector.symm] at ends
    obtain ⟨same, ended, opened, kept⟩ := vaneSample_candidate s.vane d
    refine ⟨_, ends, rfl, same, ?_⟩
    by_cases back : d = s.vane.sector
    · rw [if_pos back]
      exact ended back
    · rw [if_neg back]
      cases candidate : s.vane.candidate with
      | none => exact opened back candidate
      | some p => exact kept p.1 p.2 back candidate
  · have ends : exec .sectorAccepted s = execSectorAccepted s := rfl
    unfold execSectorAccepted at ends
    rw [vaneCfg?_of config vane anem, candidate] at ends
    replace ends := ends.trans (if_pos held)
    have handed := handReport_handed { s with vane := { sector := d, candidate := none } }
    have offered := reportOffered_iff (s := { s with vane := { sector := d, candidate := none } }) config anem
    refine ⟨_, ends, ?_⟩
    generalize State.finish _ = t at *
    have kept := handed.kept
    refine ⟨congrArg (·.vane) kept, congrArg (·.wind) kept,
      fun on reread => handed.judged (by rw [offered, on]; rfl) (deciding_iff.mpr ⟨c, config, reread⟩),
      fun on a x last ne => handed.far a x (by rw [offered, on]; rfl) last (.inr (.inr ne)),
      fun off => handed.off (by rw [offered, off]; rfl)⟩

/-! #### Pulses and silence -/

/-- The judgement of exclusion once the silence has passed (R73). -/
theorem judgeExclusion_passed (config : s.port.config = some c) (fitted : c.anemFitted = true) (passed : s.wind.silencePassed = true) :
    s.judgeExclusion = if s.wind.excluded = false ∧ s.peerWindy = true then
      ((({ s with wind := { s.wind with excluded := true } } : State).beginCondition .windSensor).withdrawGust).askReview else s := by
  unfold State.judgeExclusion
  rw [anemCfg?_iff.mpr ⟨config, fitted⟩]
  dsimp only
  rw [passed, Bool.true_or, Bool.and_true]
  simp only [Bool.and_eq_true, Bool.not_eq_true']

/-- Settles O38: a pulse ends an exclusion, and the silence with a windy peer begins one (`State.judgeExclusion`). -/
theorem silentAnemometerIsExcluded : Obligations.SilentAnemometerIsExcluded := by
  unfold Obligations.SilentAnemometerIsExcluded
  refine ⟨fun us s c config fitted level long => ?_, fun s c config fitted expired => ?_⟩
  · have ends : exec (.anemPulse us) s = execAnemPulse us s := rfl
    unfold execAnemPulse at ends
    rw [anemCfg?_iff.mpr ⟨config, fitted⟩] at ends
    replace ends := ends.trans (if_pos (by rw [level]; exact decide_eq_true long))
    cases excluded : s.wind.excluded with
    | false =>
      replace ends := ends.trans (if_neg (by rw [excluded]; exact Bool.false_ne_true))
      exact ⟨_, ends, rfl, rfl, rfl, rfl, rfl, rfl, rfl, fun _ => rfl, nofun⟩
    | true =>
      replace ends := ends.trans (if_pos excluded)
      have told := submitGust_kept (State.endCondition { s with wind := s.wind.pulse } .windSensor)
      generalize State.submitGust _ = u at ends told
      have judged := finish_askReview_judged u
      have kept := ((finish_kept u.askReview).trans (askReview_kept u)).trans told
      refine ⟨_, ends, ?_⟩
      generalize State.finish _ = t at *
      have wind : t.wind = s.wind.pulse := congrArg (·.wind) kept
      have flag : t.flag .windSensor = { s.flag .windSensor with condition := false } :=
        (congrArg (·.flag .windSensor) kept).trans ((setCondition_flag s .windSensor .windSensor false).trans (if_pos rfl))
      rw [wind, flag]
      exact ⟨rfl, rfl, rfl, rfl, rfl, rfl, rfl, nofun, fun _ => ⟨rfl, rfl, congrArg (·.handler.lastGust) kept,
        congrArg (·.handler.gustTimer) kept, fun _ => judged⟩⟩
  · have ends : exec .anemSilenceExpiry s = execAnemSilenceExpiry s := rfl
    unfold execAnemSilenceExpiry at ends
    replace ends := ends.trans (if_pos (by rw [expired]; rfl))
    rw [judgeExclusion_passed (s := { s with wind := { s.wind with silence := none, silencePassed := true } }) config fitted rfl] at ends
    by_cases excludes : s.wind.excluded = false ∧ s.peerWindy = true
    · replace ends := ends.trans (congrArg (fun u : State => Host.Outcome.next u.finish) (if_pos excludes))
      have kept := beginCondition_kept { s with wind := { s.wind with silence := none, silencePassed := true, excluded := true } } .windSensor
      obtain ⟨condition, raised⟩ := beginCondition_flag_self
        { s with wind := { s.wind with silence := none, silencePassed := true, excluded := true } } .windSensor
      dsimp only at ends
      generalize State.beginCondition _ _ = u at *
      have judged := finish_askReview_judged u.withdrawGust
      have kept := ((finish_kept u.withdrawGust.askReview).trans (askReview_kept u.withdrawGust)).trans
        (congrArg State.withdrawGust kept)
      refine ⟨_, ends, ?_⟩
      generalize State.finish _ = t at *
      have wind : t.wind = _ := congrArg (·.wind) kept
      have flag : t.flag .windSensor = u.flag .windSensor := congrArg (·.flag .windSensor) kept
      rw [wind, flag]
      refine ⟨rfl, rfl, (show true = (s.wind.excluded || s.peerWindy) by rw [excludes.2, Bool.or_true]), fun _ _ => ⟨condition, raised, congrArg (·.handler.lastGust) kept,
        congrArg (·.handler.gustTimer) kept, ?_, fun _ => judged⟩, fun stays => ?_⟩
      · have sameConfig : t.port.config = some c := (congrArg (·.port.config) kept).trans config
        rw [reportOffered_iff sameConfig fitted, wind]
        rfl
      · obtain off | calm := stays
        · exact absurd (off.symm.trans excludes.1) nofun
        · exact absurd (calm.symm.trans excludes.2) nofun
    · replace ends := ends.trans (congrArg (fun u : State => Host.Outcome.next u.finish) (if_neg excludes))
      have kept := finish_kept { s with wind := { s.wind with silence := none, silencePassed := true } }
      dsimp only at ends kept
      refine ⟨_, ends, ?_⟩
      generalize State.finish _ = t at *
      have wind : t.wind = _ := congrArg (·.wind) kept
      rw [wind]
      refine ⟨rfl, rfl, ?_, fun on windy => absurd ⟨on, windy⟩ excludes, fun _ => ⟨congrArg (·.flags) kept, congrArg (·.handler.lastGust) kept⟩⟩
      show s.wind.excluded = (s.wind.excluded || s.peerWindy)
      cases on : s.wind.excluded with
      | true => rfl
      | false =>
        cases windy : s.peerWindy with
        | true => exact absurd ⟨on, windy⟩ excludes
        | false => rfl

end

end Sys2Proof.Machine

namespace Sys2Proof.Machine
set_option Elab.async false

/-! ### Requests (R46 to R50) -/

section

variable {s t : State} {n : Ch}

theorem stateOf_createTravel (s : State) (n : Ch) (x : Travel) : (s.createTravel n x).stateOf n = .waiting x := by
  rw [State.createTravel, stateOf_askEval, stateOf_setState]

theorem stateOf_toStill (s : State) (n : Ch) : (s.toStill n).stateOf n = .still := stateOf_setState s n .still

theorem towards_eq_none {x c : Nat} (same : c = x) : towards x c = none := by
  unfold towards
  rw [if_neg (by omega), if_neg (by omega)]

theorem towards_eq_some {x c : Nat} (other : c ≠ x) : towards x c = some (if c < x then .opening else .closing) := by
  unfold towards
  by_cases below : c < x
  · rw [if_pos below, if_pos below]
  · rw [if_neg below, if_neg below, if_pos (by omega)]

/-! #### OPEN (R47) -/

/-- An OPEN request makes a new travel, but where one runs to the target already. -/
theorem openRequest_makes {k : ChanCfg} {p : Nat} (o : Origin) (chan : s.chan? n = some k)
    (other : ∀ x, s.stateOf n = .running x → x.kind = .opn → towards (s.openTarget n k p) (s.units[n]'n.isLt).count ≠ some x.direction) :
    s.openRequest n p o = s.createTargeted n .opn (s.openTarget n k p) o 5 := by
  unfold State.openRequest
  rw [chan]
  dsimp only
  split
  · rename_i x running
    refine if_neg (fun same => ?_)
    simp only [Bool.and_eq_true, decide_eq_true_eq] at same
    exact other x running same.1 same.2
  · rfl

theorem createTargeted_there {x : Nat} {o : Origin} {b : Band} (there : (s.units[n]'n.isLt).count = x) :
    (s.createTargeted n .opn x o b).stateOf n = .still := by
  unfold State.createTargeted
  rw [towards_eq_none there]
  exact stateOf_toStill s n

theorem createTargeted_away {x : Nat} {o : Origin} {b : Band} (kd : TravelKind) (away : (s.units[n]'n.isLt).count ≠ x) :
    (s.createTargeted n kd x o b).stateOf n =
      .waiting (newTravel kd (some x) (if (s.units[n]'n.isLt).count < x then .opening else .closing) o b .normal) := by
  unfold State.createTargeted
  rw [towards_eq_some away]
  exact stateOf_createTravel _ _ _

theorem openRequest_runs {k : ChanCfg} {p : Nat} {x : Travel} (o : Origin) (chan : s.chan? n = some k) (running : s.stateOf n = .running x)
    (kind : x.kind = .opn) (same : towards (s.openTarget n k p) (s.units[n]'n.isLt).count = some x.direction) :
    (s.openRequest n p o).stateOf n = .running { x with target := some (s.openTarget n k p), origin := o } := by
  unfold State.openRequest
  rw [chan, running]
  dsimp only
  rw [if_pos (by rw [kind, same]; simp), State.setTravel, running]
  exact stateOf_setState _ _ _

/-! #### CLOSE (R48) -/

theorem closeRequest_idle {o : Origin} (none : s.travel? n = none) (ref : (s.recs[n]'n.isLt).referenced = true) :
    s.closeRequest n o = if s.closed n then s else s.createClose n 4 o := by
  unfold State.closeRequest
  rw [if_pos ref, none]

theorem closeRequest_unreferenced {o : Origin} (unref : (s.recs[n]'n.isLt).referenced = false) :
    s.closeRequest n o = if s.travel? n = none then s.createReference n else s := by
  unfold State.closeRequest
  rw [unref, if_neg Bool.false_ne_true]
  cases s.travel? n with
  | none => rfl
  | some x => rfl

theorem closeRequest_replaces {o : Origin} {x : Travel} (travel : s.travel? n = some x) (ref : (s.recs[n]'n.isLt).referenced = true)
    (kind : x.kind = .opn ∨ x.kind = .reduce) : s.closeRequest n o = s.createClose n 4 o := by
  unfold State.closeRequest
  rw [if_pos ref, travel]
  dsimp only
  obtain kind | kind := kind <;> rw [kind]

theorem need_asks_close {need : Need} : need.asks .close true = true ↔ ∃ b o, need = .close b o := by
  cases need <;> simp [Need.asks]

theorem closeRequest_close {o : Origin} {x : Travel} (travel : s.travel? n = some x) (ref : (s.recs[n]'n.isLt).referenced = true)
    (kind : x.kind = .close) :
    (x.origin.isRequest = true ∨ (∃ b o', s.needOf n = .close b o') → s.closeRequest n o = s) ∧
      (x.origin.isRequest = false → (∀ b o', s.needOf n ≠ .close b o') →
        (s.closeRequest n o).stateOf n = (s.stateOf n).withTravel { x with band := 4, origin := o }) := by
  unfold State.closeRequest
  rw [if_pos ref, travel]
  dsimp only
  rw [kind]
  dsimp only
  refine ⟨fun stays => ?_, fun need other => ?_⟩
  · by_cases request : x.origin.isRequest = true
    · rw [if_pos request]
    · rw [if_neg request, if_pos (need_asks_close.mpr (stays.resolve_left request))]
  · rw [if_neg (by rw [need]; decide), if_neg (fun asks => by
      obtain ⟨b, o', eq⟩ := need_asks_close.mp asks
      exact other b o' eq)]
    split
    · exact stateOf_setState _ _ _
    · rw [stateOf_askEval]
      exact stateOf_setState _ _ _

/-! #### STOP (R49) -/

/-- The need that acts on a channel without a travel makes one, or leaves it without. -/
theorem applyNeed_idle (none : s.travel? n = none) : (s.applyNeed n).travel? n = Option.none ∨
    ∃ x, Created s n x ∧ (s.applyNeed n).stateOf n = .waiting x := by
  have done : (s.complete n).travel? n = Option.none := by
    unfold State.travel?
    rw [stateOf_complete]
    rfl
  unfold State.applyNeed
  split
  · rename_i reaches
    split
    · rename_i ref
      split
      · rename_i b o need
        unfold State.needClose
        rw [none]
        exact .inr ⟨_, .close b o reaches ref need (by rw [none]; exact fun _ travel => nomatch travel), stateOf_createTravel _ _ _⟩
      · rename_i y need
        unfold State.needReduce
        rw [none]
        dsimp only
        unfold State.createTargeted
        split
        · rw [if_pos rfl]
          exact .inl done
        · rename_i d there
          exact .inr ⟨_, .reduce y d reaches ref need none there, stateOf_createTravel _ _ _⟩
      · rw [none]
        exact .inl none
    · rename_i unref
      unfold State.needUnreferenced
      rw [none]
      split
      · exact .inl none
      · rename_i x eq
        cases eq
      · rename_i need
        exact .inr ⟨_, .reference reaches (Bool.eq_false_iff.mpr unref) need none, stateOf_createTravel _ _ _⟩
      · rename_i some _
        cases some
  · exact .inl none

theorem stopRequest_stops (origins : ∀ b o, s.needOf n = .close b o → o.isRequest = false) {x : Travel}
    (travel : (s.stopRequest n).travel? n = some x) : x.stoppable = false := by
  unfold State.stopRequest at travel
  split at travel
  · rename_i none
    rw [none] at travel
    cases travel
  · rename_i y old
    split at travel
    · have bare : (s.toStill n).travel? n = none := by
        unfold State.travel?
        rw [stateOf_toStill]
        rfl
      obtain none | ⟨z, made, state⟩ := applyNeed_idle bare
      · rw [none] at travel
        cases travel
      · unfold State.travel? at travel
        rw [state] at travel
        cases travel
        cases made with
        | close b o _ _ need _ =>
          have need : s.needOf n = .close b o := by
            unfold State.needOf at need ⊢
            rwa [toStill_eval] at need
          exact origins b o need
        | reference => rfl
        | reduce => rfl
    · rename_i stays
      rw [old] at travel
      cases travel
      exact Bool.eq_false_iff.mpr stays

/-! #### When a request is accepted (R46) -/

theorem isFaulted_eq_false_iff {c : ChState} : c.isFaulted = false ↔ ∀ o e, c ≠ .faulted o e := by
  cases c <;> simp [ChState.isFaulted]

/-- The reasons that refuse a CLOSE on a channel that is free (R46). -/
theorem judge_close_of_free (fitted : s.fitted n = true) (free : s.maintHolds n = false ∧ s.isLearnChannel n = false) :
    s.judge n .close = if (s.stateOf n).isFaulted then .faulted else .accepted := by
  unfold State.judge
  rw [fitted, free.1, free.2]
  rfl

/-- The reasons that refuse an OPEN on a channel that is free (R46). -/
theorem judge_opn_of_free (p : Nat) (fitted : s.fitted n = true) (free : s.maintHolds n = false ∧ s.isLearnChannel n = false) :
    s.judge n (.opn p) =
      if (s.stateOf n).isFaulted then .faulted
      else if !(s.recs[n]'n.isLt).referenced then .unreferenced
      else if (s.recs[n]'n.isLt).consoleHold then .consoleHold
      else if s.closeLevelActive then .closeInput
      else if s.isolationClose then .isolated
      else if s.eval.threat then .threat
      else if s.eval.reopen.isSome then .reopen
      else if (s.eval.chans[n]'n.isLt).ceiling = 0 then .wind
      else .accepted := by
  unfold State.judge
  rw [fitted, free.1, free.2]
  rfl

theorem judge_plain_of_free {r : Request} (plain : r = .stop ∨ r = .hold ∨ r = .release) (fitted : s.fitted n = true)
    (free : s.maintHolds n = false ∧ s.isLearnChannel n = false) : s.judge n r = .accepted := by
  unfold State.judge
  rw [fitted, free.1, free.2]
  obtain rfl | rfl | rfl := plain <;> rfl

theorem judge_unfitted (r : Request) (unfitted : s.fitted n = false) : s.judge n r = .config := by
  unfold State.judge
  rw [unfitted]
  rfl

theorem judge_held (r : Request) (fitted : s.fitted n = true) (held : ¬(s.maintHolds n = false ∧ s.isLearnChannel n = false)) :
    s.judge n r = .maint := by
  unfold State.judge
  rw [fitted]
  refine (if_neg (by decide)).trans (if_pos ?_)
  rw [not_and_or, Bool.not_eq_false, Bool.not_eq_false] at held
  rwa [Bool.or_eq_true]

/-- A request is accepted only on a fitted channel that MAINT does not hold and that is not the learn channel. -/
theorem judge_accepted {r : Request} (accepted : s.judge n r = .accepted) :
    s.fitted n = true ∧ s.maintHolds n = false ∧ s.isLearnChannel n = false := by
  cases fitted : s.fitted n with
  | false =>
    rw [judge_unfitted r fitted] at accepted
    cases accepted
  | true =>
    by_cases free : s.maintHolds n = false ∧ s.isLearnChannel n = false
    · exact ⟨rfl, free⟩
    · rw [judge_held r fitted free] at accepted
      cases accepted

theorem judge_close : s.judge n .close = .accepted ↔ s.fitted n = true ∧ s.maintHolds n = false ∧ s.isLearnChannel n = false ∧
    ∀ o e, s.stateOf n ≠ .faulted o e := by
  rw [← isFaulted_eq_false_iff]
  constructor
  · intro accepted
    obtain ⟨fitted, free⟩ := judge_accepted accepted
    rw [judge_close_of_free fitted free] at accepted
    refine ⟨fitted, free.1, free.2, ?_⟩
    cases faulted : (s.stateOf n).isFaulted with
    | false => rfl
    | true => simp [faulted] at accepted
  · rintro ⟨fitted, maint, learn, sound⟩
    rw [judge_close_of_free fitted ⟨maint, learn⟩]
    exact if_neg (by rw [sound]; decide)

theorem judge_plain {r : Request} (plain : r = .stop ∨ r = .hold ∨ r = .release) : s.judge n r = .accepted ↔
    s.fitted n = true ∧ s.maintHolds n = false ∧ s.isLearnChannel n = false :=
  ⟨judge_accepted, fun ⟨fitted, free⟩ => judge_plain_of_free plain fitted free⟩

theorem openBarred_iff : s.openBarred = false ↔ s.closeLevelActive = false ∧ s.isolationClose = false ∧ s.eval.threat = false ∧
    s.eval.reopen.isSome = false := by
  unfold State.openBarred
  simp only [Bool.or_eq_false_iff]
  tauto

theorem judge_opn (p : Nat) : s.judge n (.opn p) = .accepted ↔ s.fitted n = true ∧ s.maintHolds n = false ∧
    s.isLearnChannel n = false ∧ (∀ o e, s.stateOf n ≠ .faulted o e) ∧ (s.recs[n]'n.isLt).referenced = true ∧
    (s.recs[n]'n.isLt).consoleHold = false ∧ s.openBarred = false ∧ (s.eval.chans[n]'n.isLt).ceiling ≠ 0 := by
  rw [← isFaulted_eq_false_iff, openBarred_iff]
  have free : s.judge n (.opn p) = .accepted → s.fitted n = true ∧ s.maintHolds n = false ∧ s.isLearnChannel n = false := judge_accepted
  by_cases frame : s.fitted n = true ∧ s.maintHolds n = false ∧ s.isLearnChannel n = false
  · obtain ⟨fitted, maint, learn⟩ := frame
    rw [judge_opn_of_free p fitted ⟨maint, learn⟩]
    refine ⟨fun accepted => ?_, fun ⟨_, _, _, sound, ref, hold, ⟨level, isolation, threat, reopen⟩, ceiling⟩ => ?_⟩
    · split_ifs at accepted
      all_goals simp_all
    · rw [sound, ref, hold, level, isolation, threat, reopen]
      exact if_neg ceiling
  · exact ⟨fun accepted => absurd (free accepted) frame, fun ⟨fitted, maint, learn, _⟩ => absurd ⟨fitted, maint, learn⟩ frame⟩

/-- A refusal for the threat names no reason that comes before it (R46). -/
theorem judge_threat {p : Nat} (threat : s.judge n (.opn p) = .threat) : s.eval.threat = true ∧ (s.recs[n]'n.isLt).referenced = true ∧
    s.closeLevelActive = false ∧ s.isolationClose = false := by
  cases fitted : s.fitted n with
  | false =>
    rw [judge_unfitted _ fitted] at threat
    cases threat
  | true =>
    by_cases free : s.maintHolds n = false ∧ s.isLearnChannel n = false
    · rw [judge_opn_of_free p fitted free] at threat
      split_ifs at threat
      simp_all
    · rw [judge_held _ fitted free] at threat
      cases threat

/-- Settles O47: each request by its cases, and the judgement by the order of its reasons. -/
theorem requestsAreJudgedAndCarriedOut : Obligations.RequestsAreJudgedAndCarriedOut := by
  unfold Obligations.RequestsAreJudgedAndCarriedOut
  refine ⟨fun s n k o chan => ⟨fun p x d target direction => ⟨fun there => ?_, fun away other => ?_⟩,
      fun p x y running kind target same => ?_, fun idle => ⟨fun ref closed => ?_, fun ref closed => ?_, fun unref => ?_⟩,
      fun y travel => ⟨fun stays => ?_, fun ref kind => ?_, fun ref kind => closeRequest_close travel ref kind⟩,
      fun y travel going => ?_, fun origins y travel => stopRequest_stops origins travel⟩,
    fun s n p => ⟨judge_opn p, judge_close, fun r plain => judge_plain plain, fun r unfitted => judge_unfitted r unfitted, judge_threat⟩⟩
  · have target : x = s.openTarget n k p := target
    subst target
    rw [openRequest_makes o chan (fun z _ _ => by rw [towards_eq_none there]; nofun)]
    exact createTargeted_there there
  · have target : x = s.openTarget n k p := target
    subst target direction
    rw [openRequest_makes o chan (fun z running kind same => other z running kind
      (Option.some.inj ((towards_eq_some away).symm.trans same)).symm)]
    exact createTargeted_away .opn away
  · have target : x = s.openTarget n k p := target
    subst target
    refine openRequest_runs o chan running kind ?_
    obtain ⟨direction, below⟩ | ⟨direction, above⟩ := same
    · rw [towards_eq_some (by omega), if_pos below, direction]
    · rw [towards_eq_some (by omega), if_neg (by omega), direction]
  · rw [closeRequest_idle idle ref, if_pos closed]
  · rw [closeRequest_idle idle ref, closed, if_neg Bool.false_ne_true]
    exact stateOf_createTravel _ _ _
  · rw [closeRequest_unreferenced unref, if_pos idle]
    refine ⟨_, stateOf_createTravel _ _ _, rfl, rfl, fun need => ?_⟩
    rw [need]
    exact ⟨rfl, rfl⟩
  · by_cases ref : (s.recs[n]'n.isLt).referenced = true
    · have kind := stays.resolve_left (by rw [ref]; decide)
      unfold State.closeRequest
      rw [if_pos ref, travel]
      dsimp only
      rw [kind]
    · rw [closeRequest_unreferenced (Bool.eq_false_iff.mpr ref), if_neg (by rw [travel]; nofun)]
  · rw [closeRequest_replaces travel ref kind]
    exact stateOf_createTravel _ _ _
  · unfold State.stopRequest
    rw [travel]
    exact if_neg (by rw [going]; decide)

end

end Sys2Proof.Machine

namespace Sys2Proof.Machine
set_option Elab.async false

/-! ### The acknowledge (R38, R188) -/

section

variable {s t : State}

/-- What relates a channel's part before and after its own step relates it over a step for each channel. -/
theorem eachChannel_relates {α : Type} {R : α → α → Prop} (g : State → α) (f : Ch → State → State) (n : Ch)
    (own : ∀ s, R (g s) (g (f n s))) (other : ∀ m s, m ≠ n → g (f m s) = g s) (s : State) : R (g s) (g (s.eachChannel f)) := by
  have rest : ∀ (ns : List Ch) (u : State), n ∉ ns → g (ns.foldl (fun s m => f m s) u) = g u := by
    intro ns
    induction ns with
    | nil => exact fun _ _ => rfl
    | cons m ns ih =>
      intro u absent
      simp only [List.mem_cons, not_or] at absent
      exact (ih _ absent.2).trans (other m u (Ne.symm absent.1))
  have fold : ∀ (ns : List Ch) (u : State), ns.Nodup → n ∈ ns → R (g u) (g (ns.foldl (fun s m => f m s) u)) := by
    intro ns
    induction ns with
    | nil => exact fun _ _ absent => absurd absent List.not_mem_nil
    | cons m ns ih =>
      intro u nodup mem
      obtain ⟨once, nodup⟩ := List.nodup_cons.mp nodup
      obtain rfl | later := List.mem_cons.mp mem
      · rw [List.foldl_cons, rest ns _ once]
        exact own u
      · have ne : m ≠ n := fun e => once (e ▸ later)
        rw [List.foldl_cons, ← other m u ne]
        exact ih _ nodup later
  exact fold channels s (by decide) (mem_channels n)

theorem setReferenced_kept (s : State) (n : Ch) (b : Bool) :
    (s.setReferenced n b).kept = (s.setRec n { s.recs[n]'n.isLt with referenced := b }).kept := by
  unfold State.setReferenced
  split
  · rename_i same
    have eq : ({ s.recs[n]'n.isLt with referenced := b } : ChanRec) = s.recs[n]'n.isLt := by
      cases h : s.recs[n]'n.isLt
      rw [h] at same
      cases same
      rfl
    rw [eq]
    unfold State.setRec
    simp
  · rw [judgeLamp_kept, checkView_kept, askReview_kept]

theorem setReferenced_flags (s : State) (n : Ch) (b : Bool) : (s.setReferenced n b).flags = s.flags :=
  congrArg (·.flags) (setReferenced_kept s n b)

/-- The marks of a record from what is kept of it. -/
theorem marks_of_recs (recs : t.kept.recs = s.kept.recs) (n : Ch) : (t.recs[n]'n.isLt).marks = (s.recs[n]'n.isLt).marks := by
  have same := congrArg (fun x : Vector ChanRec 4 => x[n]'n.isLt) recs
  simpa [State.kept] using same

theorem setRec_marks (s : State) (n m : Ch) (r : ChanRec) : ((s.setRec n r).recs[m]).marks = if m = n then r.marks else (s.recs[m]'m.isLt).marks := by
  unfold State.setRec
  by_cases same : m = n
  · subst same
    simp
  · have : n.val ≠ m.val := fun e => same (Fin.ext e.symm)
    simp [this, same]

theorem setReferenced_marks (s : State) (n m : Ch) (b : Bool) : ((s.setReferenced n b).recs[m]).marks =
    if m = n then { (s.recs[n]'n.isLt).marks with referenced := b } else (s.recs[m]'m.isLt).marks := by
  rw [marks_of_recs (congrArg (·.recs) (setReferenced_kept s n b)), setRec_marks]
  rfl

theorem setCondition_recs (s : State) (f : FlagId) (b : Bool) : (s.setCondition f b).recs = s.recs := rfl

/-! #### A channel's return -/

/-- The part of a channel that an acknowledge turns to. -/
def State.returns (n : Ch) (s : State) : ChState × ChanRec × Flag × Flag :=
  (s.stateOf n, (s.recs[n]'n.isLt).marks, s.flag (.encoder n), s.flag (.obstruction n))

/-- A channel's return (R38, R184). -/
structure Returned (a b : ChState × ChanRec × Flag × Flag) : Prop where
  sound : ∀ o e, b.1 ≠ .faulted o e
  consoleHold : b.2.1.consoleHold = a.2.1.consoleHold
  refusal : b.2.1.refusal = a.2.1.refusal
  encoder : ∀ o, a.1 = .faulted o true → b.2.1.referenced = false ∧ b.2.2.1.condition = false
  obstruction : ∀ e, a.1 = .faulted true e → b.2.2.2.condition = false

theorem endCondition_flag (s : State) (f g : FlagId) :
    (s.endCondition f).flag g = if g = f then { s.flag f with condition := false } else s.flag g := setCondition_flag s f g false

/-- The ends of the conditions a channel was FAULTED for (R184). -/
def State.endFaults (s : State) (n : Ch) (o e : Bool) : State :=
  if e then (if o then s.endCondition (.obstruction n) else s).endCondition (.encoder n)
  else if o then s.endCondition (.obstruction n) else s

theorem endFaults_recs (s : State) (n : Ch) (o e : Bool) : (s.endFaults n o e).recs = s.recs := by
  cases o <;> cases e <;> rfl

theorem endFaults_flag (s : State) (n : Ch) (o e : Bool) (f : FlagId) : (s.endFaults n o e).flag f =
    { s.flag f with condition := (s.flag f).condition && !(e && f = .encoder n) && !(o && f = .obstruction n) } := by
  have ended (u : State) (g : FlagId) : (u.endCondition g).flag f = { u.flag f with condition := (u.flag f).condition && !decide (f = g) } := by
    rw [endCondition_flag]
    by_cases same : f = g
    · subst same
      simp
    · simp [same]
  cases o <;> cases e <;> simp only [State.endFaults, Bool.false_eq_true, if_false, if_true, ended] <;> simp [Bool.and_left_comm, Bool.and_comm]

theorem returnFaulted_eq {n : Ch} {o e : Bool} (faulted : s.stateOf n = .faulted o e) : ∃ new : ChState,
    (∀ o e, new ≠ .faulted o e) ∧
      State.returnFaulted n s = ((if e then s.setReferenced n false else s).setState n new).endFaults n o e := by
  unfold State.returnFaulted
  rw [faulted]
  refine ⟨_, ?_, rfl⟩
  intro o e
  split <;> nofun

theorem returnFaulted_sound {n : Ch} (sound : ∀ o e, s.stateOf n ≠ .faulted o e) : State.returnFaulted n s = s := by
  unfold State.returnFaulted
  split
  · rename_i o e faulted
    exact absurd faulted (sound o e)
  · rfl

theorem returnFaulted_returned (s : State) (n : Ch) : Returned (s.returns n) ((State.returnFaulted n s).returns n) := by
  by_cases faulted : ∃ o e, s.stateOf n = .faulted o e
  · obtain ⟨o, e, faulted⟩ := faulted
    obtain ⟨new, sound, eq⟩ := returnFaulted_eq faulted
    have marks : (((if e then s.setReferenced n false else s).setState n new).recs[n]).marks =
        { (s.recs[n]'n.isLt).marks with referenced := (s.recs[n]'n.isLt).referenced && !e } := by
      rw [marks_of_recs (congrArg (·.recs) (setState_kept _ n new))]
      cases e
      · simp [ChanRec.marks]
      · rw [if_pos rfl, setReferenced_marks, if_pos rfl]
        simp
    have returned : ((State.returnFaulted n s).recs[n]).marks = { (s.recs[n]'n.isLt).marks with referenced := (s.recs[n]'n.isLt).referenced && !e } := by
      rw [eq, endFaults_recs, marks]
    have state : (State.returnFaulted n s).stateOf n = new := by
      rw [eq]
      unfold State.stateOf
      rw [endFaults_recs]
      exact stateOf_setState _ _ _
    refine ⟨fun o e eq => sound o e (state.symm.trans eq), ?_, ?_, fun o' was => ?_, fun e' was => ?_⟩
    · exact congrArg (·.consoleHold) returned
    · exact congrArg (·.refusal) returned
    · obtain ⟨rfl, rfl⟩ : o = o' ∧ e = true := by simpa [State.returns, faulted] using was
      refine ⟨(congrArg (·.referenced) returned).trans (by simp), ?_⟩
      show ((State.returnFaulted n s).flag (.encoder n)).condition = false
      rw [eq, endFaults_flag]
      simp
    · obtain ⟨rfl, rfl⟩ : o = true ∧ e = e' := by simpa [State.returns, faulted] using was
      show ((State.returnFaulted n s).flag (.obstruction n)).condition = false
      rw [eq, endFaults_flag]
      simp
  · have sound : ∀ o e, s.stateOf n ≠ .faulted o e := fun o e h => faulted ⟨o, e, h⟩
    rw [returnFaulted_sound sound]
    exact ⟨sound, rfl, rfl, fun o was => absurd was (sound o true), fun e was => absurd was (sound true e)⟩

theorem returnFaulted_flag (s : State) (n : Ch) : ∃ o e : Bool, ∀ f : FlagId, (State.returnFaulted n s).flag f =
    { s.flag f with condition := (s.flag f).condition && !(e && f = .encoder n) && !(o && f = .obstruction n) } := by
  by_cases faulted : ∃ o e, s.stateOf n = .faulted o e
  · obtain ⟨o, e, faulted⟩ := faulted
    obtain ⟨new, -, eq⟩ := returnFaulted_eq faulted
    refine ⟨o, e, fun f => ?_⟩
    have same : ((if e then s.setReferenced n false else s).setState n new).flag f = s.flag f := by
      rw [flag_of_flags (kept_flags (setState_kept _ n new))]
      cases e
      · rfl
      · exact flag_of_flags (setReferenced_flags s n false) f
    rw [eq, endFaults_flag, same]
  · rw [returnFaulted_sound (fun o e h => faulted ⟨o, e, h⟩)]
    exact ⟨false, false, fun f => by simp⟩

theorem returnFaulted_other {n m : Ch} (ne : m ≠ n) (s : State) : (State.returnFaulted m s).returns n = s.returns n := by
  obtain ⟨o', e', flags⟩ := returnFaulted_flag s m
  have encoder : (State.returnFaulted m s).flag (.encoder n) = s.flag (.encoder n) := by
    rw [flags]
    simp [Ne.symm ne]
  have obstruction : (State.returnFaulted m s).flag (.obstruction n) = s.flag (.obstruction n) := by
    rw [flags]
    simp [Ne.symm ne]
  have recs : (State.returnFaulted m s).stateOf n = s.stateOf n ∧ ((State.returnFaulted m s).recs[n]).marks = (s.recs[n]'n.isLt).marks := by
    by_cases faulted : ∃ o e, s.stateOf m = .faulted o e
    · obtain ⟨o, e, faulted⟩ := faulted
      obtain ⟨new, -, eq⟩ := returnFaulted_eq faulted
      rw [eq]
      unfold State.stateOf
      rw [endFaults_recs]
      refine ⟨(stateOf_setState_ne _ _ _ new (Ne.symm ne)).trans ?_, (marks_of_recs (congrArg (·.recs) (setState_kept _ m new)) n).trans ?_⟩
      · cases e
        · rfl
        · exact setReferenced_stateOf s m n false
      · cases e
        · rfl
        · exact (setReferenced_marks s m n false).trans (if_neg (Ne.symm ne))
    · rw [returnFaulted_sound (fun o e h => faulted ⟨o, e, h⟩)]
      exact ⟨rfl, rfl⟩
  unfold State.returns
  rw [recs.1, recs.2, encoder, obstruction]

/-! #### The flags -/

theorem clearEnded_flags (s : State) (i : Fin 21) : s.clearEnded.flags[i] =
    { s.flags[i]'i.isLt with raised := (s.flags[i]'i.isLt).raised && (s.flags[i]'i.isLt).condition } := by
  refine flagOrder_foldl_flags (g := fun x => { x with raised := x.raised && x.condition })
    (fun x => by simp only [Bool.and_assoc, Bool.and_self]) (fun u j i => ?_) s i
  cases holds : (u.flags[j]'j.isLt).condition with
  | true =>
    rw [if_pos rfl]
    by_cases same : i = j
    · subst same
      rw [if_pos rfl]
      exact flag_eq_of_raised (by rw [holds, Bool.and_true])
    · rw [if_neg same]
  | false =>
    rw [if_neg Bool.false_ne_true, clearAt_flags]
    by_cases same : i = j
    · subst same
      rw [if_pos rfl, if_pos rfl]
      exact congrArg (fun b => ({ raised := b, condition := _ } : Flag)) (by rw [holds, Bool.and_false])
    · rw [if_neg same, if_neg same]

theorem clearEnded_keeps {α : Type} (g : State → α) (hg : ∀ u i, g (State.clearAt u i) = g u) (s : State) : g s.clearEnded = g s := by
  have fold : ∀ (is : List (Fin 21)) (u : State),
      g (is.foldl (fun s i => if (s.flags[i]'i.isLt).condition then s else s.clearAt i) u) = g u := by
    intro is
    induction is with
    | nil => exact fun _ => rfl
    | cons i is ih =>
      intro u
      refine (ih _).trans ?_
      dsimp only
      split
      · rfl
      · exact hg u i
  exact fold _ s

/-- What an acknowledge leaves (R38, R132, R188). -/
structure State.Acknowledged (s u : State) : Prop where
  sound : ∀ n o e, u.stateOf n ≠ .faulted o e
  raised : ∀ i : Fin 21, (u.flags[i]'i.isLt).raised = ((s.flags[i]'i.isLt).raised && (u.flags[i]'i.isLt).condition)
  condition : ∀ i : Fin 21, 8 ≤ i.val → (u.flags[i]'i.isLt).condition = (s.flags[i]'i.isLt).condition
  encoder : ∀ n o, s.stateOf n = .faulted o true → (u.recs[n]'n.isLt).referenced = false ∧ (u.flag (.encoder n)).condition = false
  obstruction : ∀ n e, s.stateOf n = .faulted true e → (u.flag (.obstruction n)).condition = false
  marks : ∀ n : Ch, (u.recs[n]'n.isLt).consoleHold = (s.recs[n]'n.isLt).consoleHold ∧ (u.recs[n]'n.isLt).refusal = (s.recs[n]'n.isLt).refusal
  ack : u.line.faultAck = if (u.flag .lineFault).raised = true ∧ s.line.faultAck = none then some s.now else s.line.faultAck
  panel : u.kept.panel = s.kept.panel

theorem returnFaulted_panel (n : Ch) (s : State) : (State.returnFaulted n s).kept.panel = s.kept.panel := by
  have ended (u : State) (o e : Bool) : (u.endFaults n o e).kept.panel = u.kept.panel := by cases o <;> cases e <;> rfl
  by_cases faulted : ∃ o e, s.stateOf n = .faulted o e
  · obtain ⟨o, e, faulted⟩ := faulted
    obtain ⟨new, -, eq⟩ := returnFaulted_eq faulted
    rw [eq, ended, setState_kept]
    cases e
    · rfl
    · exact congrArg (·.panel) (setReferenced_kept s n false)
  · rw [returnFaulted_sound (fun o e h => faulted ⟨o, e, h⟩)]

theorem returnFaulted_raised (n : Ch) (s : State) (i : Fin 21) : ((State.returnFaulted n s).flags[i]).raised = (s.flags[i]'i.isLt).raised ∧
    (8 ≤ i.val → ((State.returnFaulted n s).flags[i]).condition = (s.flags[i]'i.isLt).condition) := by
  obtain ⟨o, e, flags⟩ := returnFaulted_flag s n
  obtain ⟨f, rfl⟩ := exists_flagId i
  have flag : (State.returnFaulted n s).flags[f.index] = _ := flags f
  rw [flag]
  refine ⟨rfl, fun station => ?_⟩
  have encoder : f ≠ .encoder n := by
    rintro rfl
    exact absurd station (by show ¬ 8 ≤ 4 + n.val; omega)
  have obstruction : f ≠ .obstruction n := by
    rintro rfl
    exact absurd station (by show ¬ 8 ≤ n.val; omega)
  simp [encoder, obstruction, State.flag]

theorem clearAt_panel (s : State) (i : Fin 21) : (s.clearAt i).kept.panel = s.kept.panel := congrArg (·.panel) (clearAt_kept s i)

theorem acknowledge_acknowledged (s : State) : s.Acknowledged s.acknowledge := by
  have returned (n : Ch) : Returned (s.returns n) ((s.eachChannel State.returnFaulted).returns n) :=
    eachChannel_relates (State.returns n) State.returnFaulted n (fun u => returnFaulted_returned u n)
      (fun m u ne => returnFaulted_other ne u) s
  have raised (i : Fin 21) : ((s.eachChannel State.returnFaulted).flags[i]).raised = (s.flags[i]'i.isLt).raised :=
    eachChannel_keeps (fun u : State => (u.flags[i]'i.isLt).raised) State.returnFaulted (fun n u => (returnFaulted_raised n u i).1) s
  have condition (i : Fin 21) (station : 8 ≤ i.val) : ((s.eachChannel State.returnFaulted).flags[i]).condition = (s.flags[i]'i.isLt).condition :=
    eachChannel_keeps (fun u : State => (u.flags[i]'i.isLt).condition) State.returnFaulted (fun n u => (returnFaulted_raised n u i).2 station) s
  have panel := eachChannel_keeps (fun u : State => u.kept.panel) State.returnFaulted returnFaulted_panel s
  have line := congrArg (·.line.faultAck) (returned_block s .line)
  have now := congrArg (·.now) (returned_block s .clock)
  have flags := clearEnded_flags (s.eachChannel State.returnFaulted)
  have recs : (s.eachChannel State.returnFaulted).clearEnded.recs = (s.eachChannel State.returnFaulted).recs :=
    clearEnded_keeps (·.recs) clearAt_recs _
  have panel' := (clearEnded_keeps (·.kept.panel) clearAt_panel (s.eachChannel State.returnFaulted)).trans panel
  unfold State.acknowledge
  rw [State.noteFaultAck_eq]
  generalize (s.eachChannel State.returnFaulted).clearEnded = v at *
  generalize s.eachChannel State.returnFaulted = u at *
  have flag (f : FlagId) : v.flag f = { u.flag f with raised := (u.flag f).raised && (u.flag f).condition } := flags f.index
  have state (n : Ch) : v.stateOf n = u.stateOf n := stateOf_of_recs recs n
  refine ⟨fun n o e faulted => (returned n).sound o e ((state n).symm.trans faulted), fun i => ?_, fun i station => ?_,
    fun n o faulted => ?_, fun n e faulted => ?_, fun n => ?_, ?_, panel'⟩
  · show (v.flags[i]'i.isLt).raised = ((s.flags[i]'i.isLt).raised && (v.flags[i]'i.isLt).condition)
    rw [flags, raised]
  · show (v.flags[i]'i.isLt).condition = (s.flags[i]'i.isLt).condition
    rw [flags, ← condition i station]
  · obtain ⟨ref, ended⟩ := (returned n).encoder o faulted
    refine ⟨?_, ?_⟩
    · show (v.recs[n]'n.isLt).referenced = false
      rw [recs]
      exact ref
    · show (v.flag (.encoder n)).condition = false
      rw [flag]
      exact ended
  · show (v.flag (.obstruction n)).condition = false
    rw [flag]
    exact (returned n).obstruction e faulted
  · show (v.recs[n]'n.isLt).consoleHold = (s.recs[n]'n.isLt).consoleHold ∧ (v.recs[n]'n.isLt).refusal = (s.recs[n]'n.isLt).refusal
    rw [recs]
    exact ⟨(returned n).consoleHold, (returned n).refusal⟩
  · have line : v.line.faultAck = s.line.faultAck := line
    have now : v.now = s.now := now
    have same : (v.flag .lineFault).raised = true → (v.flag .lineFault).condition = true := by
      rw [flag]
      intro raised
      exact (Bool.and_eq_true_iff.mp raised).2
    show (if (v.flag .lineFault).raised = true ∧ (v.flag .lineFault).condition = true ∧ v.line.faultAck = none then some v.now
      else v.line.faultAck) = if (v.flag .lineFault).raised = true ∧ s.line.faultAck = none then some s.now else s.line.faultAck
    rw [line, now]
    refine if_congr ?_ rfl rfl
    exact ⟨fun ⟨lit, _, new⟩ => ⟨lit, new⟩, fun ⟨lit, new⟩ => ⟨lit, same lit, new⟩⟩

/-- What holds of a channel's state is kept by reviews and evaluations, if it is by each change they make. -/
theorem Settles.keeps {r : Prop} {l : Option Ch} (h : Settles r l s t) {n : Ch} {Q : ChState → Prop} (start : Q (s.stateOf n))
    (turn : ∀ u new, u.kept = s.kept → Q (u.stateOf n) → Turn l u n new → Q new)
    (create : ∀ u x, u.kept = s.kept → Q (u.stateOf n) → Created u n x → Q (.waiting x)) : Q (t.stateOf n) := by
  induction h with
  | refl => exact start
  | @turn u m new hu hn ih =>
    by_cases same : n = m
    · subst same
      rw [stateOf_setState]
      exact turn u new hu.kept ih hn
    · rw [stateOf_setState_ne _ _ _ _ same]
      exact ih
  | @create u m x hu hn ih =>
    rw [State.createTravel, stateOf_askEval]
    by_cases same : n = m
    · subst same
      rw [stateOf_setState]
      exact create u x hu.kept ih hn
    · rw [stateOf_setState_ne _ _ _ _ same]
      exact ih
  | ended _ _ _ _ _ ih => exact (stateOf_of_recs (State.judgeLamp_recs _) n).symm ▸ ih
  | marks _ _ _ ih => exact ih
  | review _ _ _ _ _ ih => exact ih
  | aside _ _ _ ih => exact ih
  | draw _ _ _ ih => simpa [State.stateOf, State.submitDraw] using ih

theorem Turn.sound {l : Option Ch} {n : Ch} {new : ChState} (h : Turn l s n new) (sound : (s.stateOf n).isFaulted = false) :
    new.isFaulted = false := by
  cases h with
  | reclamp | bandClose | bandReference | retarget =>
    cases state : s.stateOf n <;> simp_all [ChState.withTravel, ChState.isFaulted]
  | _ => rfl

/-- No review and no evaluation faults a channel. -/
theorem finish_sound {n : Ch} (sound : ∀ o e, s.stateOf n ≠ .faulted o e) (o e : Bool) : s.finish.stateOf n ≠ .faulted o e := by
  have kept := (finish_settles s).keeps (n := n) (Q := fun c => c.isFaulted = false) (isFaulted_eq_false_iff.mpr sound)
    (fun u new _ sound turn => turn.sound sound) (fun _ _ _ _ _ => rfl)
  exact isFaulted_eq_false_iff.mp kept o e

/-- Running to rest after an acknowledge leaves what it has left. -/
theorem State.Acknowledged.rest {u : State} (h : s.Acknowledged u) : s.Acknowledged u.finish := by
  have kept := finish_kept u
  have sound (n : Ch) := finish_sound (h.sound n)
  generalize u.finish = t at *
  have flags := kept_flags kept
  refine ⟨sound, fun i => ?_, fun i station => ?_, fun n o faulted => ?_, fun n e faulted => ?_, fun n => ?_, ?_,
    (congrArg (·.panel) kept).trans h.panel⟩
  · rw [flags]
    exact h.raised i
  · rw [flags]
    exact h.condition i station
  · rw [kept_referenced kept, flag_of_flags flags]
    exact h.encoder n o faulted
  · rw [flag_of_flags flags]
    exact h.obstruction n e faulted
  · rw [kept_consoleHold kept, kept_refusal kept]
    exact h.marks n
  · rw [kept_faultAck kept, flag_of_flags flags]
    exact h.ack

/-- An acknowledge moves no count (R2). -/
theorem acknowledge_count {c : Instr} (ends : exec c s = .next t) (ack : c = .commandAcknowledge ∨ c = .ackHoldExpiry) (n : Ch) :
    (t.units[n]'n.isLt).count = (s.units[n]'n.isLt).count := by
  obtain same | ⟨⟨a, b, i, rfl⟩, -⟩ | ⟨⟨p, q, rfl | rfl | rfl⟩, -⟩ | ⟨⟨straps, enc, panel, anem, rfl⟩, -⟩ :=
    countMovesOnlyByItsChannel c s t n ends
  · exact same
  all_goals simp at ack

theorem maskChannels_mem {mask : Nat} {n : Ch} : n ∈ maskChannels mask ↔ mask.testBit n.val = true := by
  unfold maskChannels
  rw [List.mem_filter]
  exact and_iff_right (mem_channels n)

/-! #### What a change of state leaves of the handler -/

theorem recordIndex_frame (s : State) (n : Ch) : ∃ us, s.recordIndex n = { s with units := us } := by
  unfold State.recordIndex
  split
  · split
    · exact ⟨_, rfl⟩
    · exact ⟨s.units, rfl⟩
  · exact ⟨s.units, rfl⟩

theorem recordMeasure_frame (s : State) (n : Ch) : ∃ p, s.recordMeasure n = { s with port := p } := by
  unfold State.recordMeasure
  split
  · split
    · split
      · exact ⟨_, rfl⟩
      · exact ⟨_, rfl⟩
      · exact ⟨s.port, rfl⟩
    · exact ⟨s.port, rfl⟩
  · exact ⟨s.port, rfl⟩

theorem driveStart_frame (s : State) (n : Ch) (d : Direction) : ∃ us p, s.driveStart n d = { s with units := us, port := p } := by
  unfold State.driveStart
  generalize ChanUnit.startDrive _ _ _ = u
  obtain ⟨us, index⟩ := recordIndex_frame (s.setUnit n u) n
  rw [index]
  obtain ⟨p, measure⟩ := recordMeasure_frame { s.setUnit n u with units := us } n
  rw [measure]
  exact ⟨us, p, rfl⟩

theorem energise_frame (s : State) (n : Ch) (d : Direction) : ∃ us p, s.energise n d = { s with units := us, port := p } := by
  unfold State.energise
  dsimp only
  generalize ChanUnit.readied _ _ = u
  split
  · exact ⟨s.units, s.port, rfl⟩
  · split
    · exact ⟨_, s.port, rfl⟩
    · obtain ⟨us, p, start⟩ := driveStart_frame (s.setUnit n u) n d
      rw [start]
      exact ⟨us, p, rfl⟩

/-- The drive's part of a change of state changes units and port alone (R15, R197). -/
theorem applyDrive_frame (s : State) (n : Ch) (o w : ChState) : ∃ us p, s.applyDrive n o w = { s with units := us, port := p } := by
  unfold State.applyDrive
  split
  · exact ⟨_, s.port, rfl⟩
  · exact energise_frame s n _
  · split
    · exact ⟨s.units, s.port, rfl⟩
    · exact energise_frame s n _

/-- A state whose records, units, port, arbiter and marks of what is due are others. -/
def State.redone (s : State) (rs : Vector ChanRec 4) (us : Vector ChanUnit 4) (p : Port) (a : Arbiter) (r e : Bool) : State :=
  { s with recs := rs, units := us, port := p, arb := a, reviewDue := r, evalDue := e }

theorem askReview_redone (s : State) : ∃ r, s.askReview = s.redone s.recs s.units s.port s.arb r s.evalDue := by
  unfold State.askReview
  split
  · exact ⟨true, rfl⟩
  · exact ⟨s.reviewDue, rfl⟩

theorem askEval_redone (s : State) : ∃ e, s.askEval = s.redone s.recs s.units s.port s.arb s.reviewDue e := by
  unfold State.askEval
  split
  · exact ⟨true, rfl⟩
  · exact ⟨s.evalDue, rfl⟩

theorem askReview_if (s : State) (b : Prop) [Decidable b] : ∃ r, (if b then s.askReview else s) =
    s.redone s.recs s.units s.port s.arb r s.evalDue := by
  split
  · exact askReview_redone s
  · exact ⟨s.reviewDue, rfl⟩

theorem askEval_if (s : State) (b : Prop) [Decidable b] : ∃ e, (if b then s.askEval else s) =
    s.redone s.recs s.units s.port s.arb s.reviewDue e := by
  split
  · exact askEval_redone s
  · exact ⟨s.evalDue, rfl⟩

theorem leaveRunning_if (s : State) (n : Ch) (b : Prop) [Decidable b] : ∃ a, (a = s.arb ∨ a = s.arb.leaveRunning n) ∧
    (if b then ({ s with arb := s.arb.leaveRunning n } : State) else s) =
      s.redone s.recs s.units s.port a s.reviewDue s.evalDue := by
  split
  · exact ⟨_, .inr rfl, rfl⟩
  · exact ⟨_, .inl rfl, rfl⟩

/-- A change of state: of records, units, port and arbiter first, then its reports. -/
theorem setState_shape (s : State) (n : Ch) (new : ChState) : ∃ us p a r e, (a = s.arb ∨ a = s.arb.leaveRunning n) ∧
    s.setState n new = (((s.redone (s.recs.set n { s.recs[n]'n.isLt with state := new }) us p a r e).checkView n).judgeLamp).checkLastTravel
      (s.stateOf n) := by
  obtain ⟨us, p, drive⟩ := applyDrive_frame (s.setRec n { s.recs[n]'n.isLt with state := new }) n (s.stateOf n) new
  unfold State.setState
  dsimp only
  rw [drive]
  obtain ⟨a, cases, left⟩ := leaveRunning_if { s.setRec n { s.recs[n]'n.isLt with state := new } with units := us, port := p } n
    (((s.stateOf n).isRunning && !new.isRunning) = true)
  rw [left]
  obtain ⟨e, asked⟩ := askEval_if (State.redone _ _ _ _ a _ _) (evalAtChange (s.stateOf n) new = true)
  rw [asked]
  obtain ⟨r, told⟩ := askReview_if (State.redone _ _ _ _ _ _ e) ((s.stateOf n).code ≠ new.code)
  rw [told]
  exact ⟨us, p, a, r, e, cases, rfl⟩

theorem submitState_stateTimers (s : State) (n m : Ch) :
    (s.submitState n).handler.stateTimers[m] = if m = n then some 3000 else s.handler.stateTimers[m]'m.isLt := by
  have handler : (s.submitState n).handler.stateTimers = s.handler.stateTimers.set n (some 3000) :=
    congrArg (fun h : Handler => h.stateTimers.set n (some 3000)) (State.submit_handler s _ _)
  have place := congrArg (fun x : Vector Timer 4 => x[m]'m.isLt) handler
  refine place.trans ?_
  by_cases same : m = n
  · subst same
    simp
  · have : n.val ≠ m.val := fun e => same (Fin.ext e.symm)
    simp [this, same]

theorem checkView_stateTimers (s : State) (n m : Ch) (set : s.handler.stateTimers[m]'m.isLt = some 3000) :
    (s.checkView n).handler.stateTimers[m] = some 3000 := by
  unfold State.checkView
  split
  · rw [submitState_stateTimers, set]
    exact ite_self _
  · exact set

theorem submitDraw_handler (s : State) (c : DrawContent) (h : Nat) : (s.submitDraw c h).handler = s.handler := State.submit_handler s _ _

theorem setState_stateTimers (s : State) (n m : Ch) (new : ChState) (set : s.handler.stateTimers[m]'m.isLt = some 3000) :
    (s.setState n new).handler.stateTimers[m] = some 3000 := by
  obtain ⟨us, p, a, r, e, -, eq⟩ := setState_shape s n new
  rw [eq]
  have viewed := checkView_stateTimers (s.redone (s.recs.set n { s.recs[n]'n.isLt with state := new }) us p a r e) n m set
  generalize State.checkView _ n = u at viewed ⊢
  have lit : u.judgeLamp.handler.stateTimers[m] = some 3000 := by rwa [State.judgeLamp_handler]
  obtain ⟨eq, -⟩ | ⟨c, -, -, -, eq⟩ := checkLastTravel_cases u.judgeLamp (s.stateOf n) <;> rw [eq]
  · exact lit
  · unfold State.submitFinalDraw
    rwa [submitDraw_handler]

/-- A STATE timer at its start stays so through reviews and evaluations: each STATE they send starts it anew (R156). -/
theorem Settles.stateTimers {r : Prop} {l : Option Ch} (h : Settles r l s t) {n : Ch} (set : s.handler.stateTimers[n]'n.isLt = some 3000) :
    t.handler.stateTimers[n]'n.isLt = some 3000 := by
  induction h with
  | refl => exact set
  | turn _ _ ih => exact setState_stateTimers _ _ _ _ ih
  | @create u m x _ _ ih =>
    unfold State.createTravel
    rw [State.askEval_handler]
    exact setState_stateTimers (u.setUnit m { u.units[m]'m.isLt with illegal := 0, indexRecord := none }) m n (.waiting x) ih
  | ended _ _ _ _ _ ih => rwa [State.judgeLamp_handler]
  | marks _ _ _ ih => exact ih
  | review _ _ _ _ _ ih => exact ih
  | aside _ _ _ ih => exact ih
  | draw _ _ _ ih => rwa [submitDraw_handler]

/-! #### REPORT and RESTART (R163) -/

theorem execCommandReport_of {o : Order} (order : s.orderInHand .report = some o) :
    exec .commandReport s = .next (((maskChannels o.mask).foldl State.submitState s).finish).takeNext := by
  have ends : exec .commandReport s = execCommandReport s := rfl
  unfold execCommandReport at ends
  rwa [order] at ends

theorem submitStates_mask_kept (ns : List Ch) (s : State) : (ns.foldl State.submitState s).kept = s.kept := by
  induction ns generalizing s with
  | nil => rfl
  | cons n ns ih => exact (ih _).trans (submitState_kept s n)

theorem takeNext_kept {u v : State} (h : u.kept = v.kept) : u.takeNext.kept = v.takeNext.kept := congrArg State.takeNext h

/-- A channel's view comes from records, units and configuration (R55). -/
theorem view_congr (recs : t.recs = s.recs) (units : t.units = s.units) (port : t.port = s.port) (n : Ch) : t.view n = s.view n := by
  simp [State.view, State.stateOf, State.positionPercent, State.targetPercent, State.travel?, State.stateOf, State.chan?, recs, units, port]

theorem submitState_lastState (s : State) (n m : Ch) :
    (s.submitState n).handler.lastState[m] = if m = n then s.view n else s.handler.lastState[m]'m.isLt := by
  have handler : (s.submitState n).handler.lastState = s.handler.lastState.set n (s.view n) :=
    congrArg (fun h : Handler => h.lastState.set n (s.view n)) (State.submit_handler s _ _)
  have place := congrArg (fun x : Vector View 4 => x[m]'m.isLt) handler
  refine place.trans ?_
  by_cases same : m = n
  · subst same
    simp
  · have : n.val ≠ m.val := fun e => same (Fin.ext e.symm)
    simp [this, same]

theorem submitState_view (s : State) (n m : Ch) : (s.submitState n).view m = s.view m :=
  view_congr (submitState_recs s n) (submitState_units s n) (submitState_port s n) m

/-- STATE notices for a list of channels leave each of them reported, with its timer at its start (R156). -/
theorem submitStates_told (ns : List Ch) (s : State) (m : Ch) :
    (m ∈ ns ∨ s.handler.stateTimers[m]'m.isLt = some 3000 → (ns.foldl State.submitState s).handler.stateTimers[m] = some 3000) ∧
      (m ∈ ns ∨ s.handler.lastState[m]'m.isLt = s.view m → (ns.foldl State.submitState s).handler.lastState[m] = s.view m) := by
  induction ns generalizing s with
  | nil => exact ⟨fun h => h.resolve_left List.not_mem_nil, fun h => h.resolve_left List.not_mem_nil⟩
  | cons n ns ih =>
    obtain ⟨timers, views⟩ := ih (s.submitState n)
    rw [List.foldl_cons]
    rw [submitState_view] at views
    refine ⟨fun h => timers ?_, fun h => views ?_⟩
    · rw [submitState_stateTimers]
      by_cases same : m = n
      · exact .inr (if_pos same)
      · rw [if_neg same]
        exact h.imp_left (fun mem => (List.mem_cons.mp mem).resolve_left same)
    · rw [submitState_lastState]
      by_cases same : m = n
      · exact .inr (by rw [if_pos same, same])
      · rw [if_neg same]
        exact h.imp_left (fun mem => (List.mem_cons.mp mem).resolve_left same)

theorem submitStates_due (ns : List Ch) (s : State) : (ns.foldl State.submitState s).reviewDue = s.reviewDue ∧
    (ns.foldl State.submitState s).evalDue = s.evalDue := by
  induction ns generalizing s with
  | nil => exact ⟨rfl, rfl⟩
  | cons n ns ih => exact ⟨(ih (s.submitState n)).1.trans (State.submit_reviewDue _ _ _),
    (ih (s.submitState n)).2.trans (State.submit_evalDue _ _ _)⟩

theorem checkDraw_handler (s : State) : s.checkDraw.handler = s.handler := by
  unfold State.checkDraw
  split
  · rfl
  · split
    · exact submitDraw_handler s _ _
    · rfl

/-! #### O48 -/

theorem acknowledged_at (counts : ∀ n : Ch, (t.units[n]'n.isLt).count = (s.units[n]'n.isLt).count)
    (left : s.Acknowledged t) : (∀ (n : Ch) (o e : Bool), t.stateOf n ≠ .faulted o e) ∧
      (∀ i : Fin 21, (t.flags[i]'i.isLt).raised = ((s.flags[i]'i.isLt).raised && (t.flags[i]'i.isLt).condition)) ∧
      (∀ i : Fin 21, 8 ≤ i.val → (t.flags[i]'i.isLt).condition = (s.flags[i]'i.isLt).condition) ∧
      (∀ (n : Ch) (o e : Bool), s.stateOf n = .faulted o e →
        (e = true → (t.recs[n]'n.isLt).referenced = false ∧ (t.flag (.encoder n)).condition = false) ∧
        (o = true → (t.flag (.obstruction n)).condition = false)) ∧
      (∀ n : Ch, (t.units[n]'n.isLt).count = (s.units[n]'n.isLt).count ∧ (t.recs[n]'n.isLt).consoleHold = (s.recs[n]'n.isLt).consoleHold ∧
        (t.recs[n]'n.isLt).refusal = (s.recs[n]'n.isLt).refusal) ∧
      t.line.faultAck = (if (t.flag .lineFault).raised = true ∧ s.line.faultAck = none then some s.now
        else s.line.faultAck) := by
  refine ⟨left.sound, left.raised, left.condition, fun n o e faulted => ⟨?_, ?_⟩, fun n => ⟨counts n, left.marks n⟩,
    left.ack⟩
  · rintro rfl
    exact left.encoder n o faulted
  · rintro rfl
    exact left.obstruction n e faulted

/-- Settles O48: an acknowledge is followed channel by channel and flag by flag, and what it leaves is kept by the reviews and
evaluations that it starts. -/
theorem stationActions : Obligations.StationActions := by
  unfold Obligations.StationActions
  refine ⟨?_, ?_, fun s n => rfl, ?_⟩
  · rintro c s (⟨rfl, o, order⟩ | ⟨rfl, timer⟩)
    · have ends : exec .commandAcknowledge s = execCommandAcknowledge s := rfl
      unfold execCommandAcknowledge at ends
      rw [order] at ends
      replace ends : exec .commandAcknowledge s = .next (s.acknowledge.finish).takeNext := ends
      have table : s.acknowledge.finish.block .table = s.block .table :=
        (finish_block s.acknowledge .table).trans (acknowledge_block s (by decide))
      have left := (acknowledge_acknowledged s).rest
      generalize s.acknowledge.finish = u at *
      have hand : u.line.queue = s.line.queue := congrArg (·.line.queue) table
      have left : s.Acknowledged u.takeNext := ⟨left.sound, left.raised, left.condition, left.encoder, left.obstruction, left.marks,
        left.ack, left.panel⟩
      obtain ⟨sound, raised, condition, channel, kept, ack⟩ := acknowledged_at (acknowledge_count ends (.inl rfl)) left
      exact ⟨_, ends, sound, raised, condition, channel, kept, ack, nofun, fun _ => congrArg (·.head?) hand⟩
    · have ends : exec .ackHoldExpiry s = execAckHoldExpiry s := rfl
      unfold execAckHoldExpiry at ends
      rw [timer] at ends
      replace ends := ends.trans (if_pos rfl)
      have left := (acknowledge_acknowledged (s.setPanel { s.panel with ackTimer := none, ackGiven := true })).rest
      generalize State.finish _ = t at *
      have counts := acknowledge_count ends (.inr rfl)
      obtain ⟨sound, raised, condition, channel, kept, ack⟩ :=
        acknowledged_at (s := s.setPanel { s.panel with ackTimer := none, ackGiven := true }) counts left
      exact ⟨_, ends, sound, raised, condition, channel, kept, ack,
        fun _ => ⟨congrArg (·.ackTimer) left.panel, congrArg (·.ackGiven) left.panel⟩, nofun⟩
  · intro s o order
    have ends := execCommandReport_of order
    have kept := finish_kept ((maskChannels o.mask).foldl State.submitState s)
    have timers (n : Ch) (mem : o.mask.testBit n.val = true) := (finish_settles _).stateTimers
      ((submitStates_told (maskChannels o.mask) s n).1 (.inl (maskChannels_mem.mpr mem)))
    have plain (hr : s.reviewDue = false) (he : s.evalDue = false) :=
      finish_of_not_due ((submitStates_due (maskChannels o.mask) s).1.trans hr) ((submitStates_due (maskChannels o.mask) s).2.trans he)
    have views (n : Ch) (mem : o.mask.testBit n.val = true) :=
      (submitStates_told (maskChannels o.mask) s n).2 (.inl (maskChannels_mem.mpr mem))
    rw [submitStates_mask_kept] at kept
    generalize (maskChannels o.mask).foldl State.submitState s = u at *
    refine ⟨_, ends, takeNext_kept kept, timers, fun hr he => ⟨?_, fun n mem => ?_⟩⟩
    · rw [plain hr he]
    · rw [plain hr he]
      show u.checkDraw.handler.lastState[n] = s.view n
      rw [checkDraw_handler]
      exact views n mem
  · intro s o order
    have ends : exec .commandRestart s = execCommandRestart s := rfl
    unfold execCommandRestart at ends
    rw [order] at ends
    have kept := finish_kept { s with port := { s.port with restart := true } }
    have restart : (State.finish { s with port := { s.port with restart := true } }).port.restart = true :=
      congrArg (·.port.restart) kept
    exact ⟨_, ends, takeNext_kept kept, restart⟩

end

end Sys2Proof.Machine

namespace Sys2Proof.Machine
set_option Elab.async false

/-! ### What running to rest does to one channel's travel -/

section

variable {s t u : State} {n : Ch}

/-! #### Needs where the evaluator agrees with the inputs (R89, R91) -/

theorem State.Judged.need (judged : u.Judged) (deciding : u.deciding = true) {k : ChanCfg} (chan : u.chan? n = some k) :
    u.needOf n = u.needFor n k (u.slackOf n k u.eval.v u.eval.arrival) (u.eval.chans[n]'n.isLt).ceiling ∧
      (u.eval.chans[n]'n.isLt).ceiling = windCeiling k u.eval.v ∧ u.eval.threat = u.eval.arrival.isSome := by
  obtain ⟨c, config, reread⟩ := deciding_iff.mp deciding
  obtain ⟨-, -, -, threat, chans⟩ := judged c config reread
  have row := (chans n).trans (evalChannel_fitted u.eval.v u.eval.arrival chan)
  have ceiling : (u.eval.chans[n]'n.isLt).ceiling = windCeiling k u.eval.v := congrArg ChanEval.ceiling row
  refine ⟨?_, ceiling, threat⟩
  rw [ceiling]
  exact congrArg ChanEval.need row

/-- The origins of slacks (R89). -/
theorem slackOf_origin {k : ChanCfg} {v : Nat} {a : Option Nat} {x : Int} {o : Origin} (slack : u.slackOf n k v a = some (x, o)) :
    (o = .threat ∨ o = .wind) ∧ (a.isSome = true ∨ k.wc ≤ v) := by
  unfold State.slackOf joinSlack rainSlack windSlack at slack
  dsimp only at slack
  cases a with
  | none =>
    by_cases windy : k.wc ≤ v
    · rw [if_pos windy] at slack
      simp only [Option.map_none, Option.map_some, Option.some.injEq, Prod.mk.injEq] at slack
      exact ⟨.inr slack.2.symm, .inr windy⟩
    · rw [if_neg windy] at slack
      cases slack
  | some a =>
    refine ⟨?_, .inl rfl⟩
    by_cases windy : k.wc ≤ v
    · rw [if_pos windy] at slack
      simp only [Option.map_some] at slack
      split at slack
      · simp only [Option.map_some, Option.some.injEq, Prod.mk.injEq] at slack
        exact .inl slack.2.symm
      · simp only [Option.map_some, Option.some.injEq, Prod.mk.injEq] at slack
        exact .inr slack.2.symm
    · rw [if_neg windy] at slack
      simp only [Option.map_some, Option.some.injEq, Prod.mk.injEq] at slack
      exact .inl slack.2.symm

/-- The cases of a fitted channel's need (R91). -/
theorem needFor_cases (k : ChanCfg) (x : Option (Int × Origin)) (y : Nat) :
    (u.closed n = true ∧ u.needFor n k x y = .none) ∨
      (∃ z o, x = some (z, o) ∧ u.needFor n k x y = .close (slackBand z) o) ∨
      (u.closeLevelActive = true ∧ u.needFor n k x y = .close 4 .closeInput) ∨
      (u.isolationClose = true ∧ u.needFor n k x y = .close 4 .isolation) ∨
      ((u.recs[n]'n.isLt).referenced = false ∧ u.needFor n k x y = .reference) ∨
      ((u.recs[n]'n.isLt).referenced = true ∧ k.c + y < (u.units[n]'n.isLt).count ∧ u.needFor n k x y = .reduce (k.c + y)) ∨
      (u.recs[n]'n.isLt).referenced = true ∧ u.needFor n k x y = .none := by
  unfold State.needFor
  cases closed : u.closed n with
  | true => exact .inl ⟨rfl, rfl⟩
  | false =>
    rw [if_neg Bool.false_ne_true]
    cases x with
    | some x => exact .inr (.inl ⟨x.1, x.2, rfl, rfl⟩)
    | none =>
      dsimp only
      cases level : u.closeLevelActive with
      | true => exact .inr (.inr (.inl ⟨rfl, rfl⟩))
      | false =>
        rw [if_neg Bool.false_ne_true]
        cases isolation : u.isolationClose with
        | true => exact .inr (.inr (.inr (.inl ⟨rfl, rfl⟩)))
        | false =>
          rw [if_neg Bool.false_ne_true]
          cases ref : (u.recs[n]'n.isLt).referenced with
          | false => exact .inr (.inr (.inr (.inr (.inl ⟨rfl, rfl⟩))))
          | true =>
            rw [Bool.not_true, if_neg Bool.false_ne_true]
            by_cases above : k.c + y + k.span / 50 < (u.units[n]'n.isLt).count
            · rw [if_pos above]
              exact .inr (.inr (.inr (.inr (.inr (.inl ⟨rfl, by omega, rfl⟩)))))
            · rw [if_neg above]
              exact .inr (.inr (.inr (.inr (.inr (.inr ⟨rfl, rfl⟩)))))

theorem chan?_of_fitted (fitted : u.fitted n = true) : ∃ k, u.chan? n = some k := Option.isSome_iff_exists.mp fitted

theorem needReaches_parts (reaches : u.needReaches n = true) : u.deciding = true ∧ u.fitted n = true ∧ u.isLearnChannel n = false := by
  unfold State.needReaches at reaches
  simp only [Bool.and_eq_true, Bool.not_eq_true'] at reaches
  exact ⟨reaches.1.1.1, reaches.1.1.2, reaches.1.2⟩

/-- The origin of a CLOSE need is one of the needs' (R91). -/
theorem State.Judged.need_origin (judged : u.Judged) (reaches : u.needReaches n = true) {b : Band} {o : Origin}
    (need : u.needOf n = .close b o) : o.isNeed = true := by
  obtain ⟨deciding, fitted, -⟩ := needReaches_parts reaches
  obtain ⟨k, chan⟩ := chan?_of_fitted fitted
  obtain ⟨eq, -, -⟩ := judged.need deciding chan
  rw [need] at eq
  obtain ⟨-, other⟩ | ⟨z, p, slack, other⟩ | ⟨-, other⟩ | ⟨-, other⟩ | ⟨-, other⟩ | ⟨-, -, other⟩ | ⟨-, other⟩ :=
    needFor_cases (u := u) (n := n) k (u.slackOf n k u.eval.v u.eval.arrival) (u.eval.chans[n]'n.isLt).ceiling
  all_goals rw [other] at eq
  all_goals cases eq
  · obtain ⟨rfl | rfl, -⟩ := slackOf_origin slack <;> rfl
  · rfl
  · rfl

/-- An unreferenced channel always has a need (R91). -/
theorem State.Judged.need_unreferenced (judged : u.Judged) (deciding : u.deciding = true) (fitted : u.fitted n = true)
    (unref : (u.recs[n]'n.isLt).referenced = false) : u.needOf n ≠ .none := by
  obtain ⟨k, chan⟩ := chan?_of_fitted fitted
  obtain ⟨eq, -, -⟩ := judged.need deciding chan
  have away : u.closed n = false := by
    unfold State.closed
    rw [chan]
    dsimp only
    rw [unref]
    rfl
  rw [eq]
  obtain ⟨closed, other⟩ | ⟨z, p, slack, other⟩ | ⟨-, other⟩ | ⟨-, other⟩ | ⟨-, other⟩ | ⟨ref, -, other⟩ | ⟨ref, other⟩ :=
    needFor_cases (u := u) (n := n) k (u.slackOf n k u.eval.v u.eval.arrival) (u.eval.chans[n]'n.isLt).ceiling
  · rw [away] at closed
    cases closed
  all_goals rw [other]
  · nofun
  · nofun
  · nofun
  · nofun
  · nofun
  · rw [unref] at ref
    cases ref

/-- Where OPEN is not barred and the ceiling leaves some way, a referenced channel needs at most to be reduced (R91). -/
theorem State.Judged.need_open (judged : u.Judged) (deciding : u.deciding = true) {k : ChanCfg} (chan : u.chan? n = some k)
    (ref : (u.recs[n]'n.isLt).referenced = true) (bands : k.wr < k.wc) (free : u.openBarred = false) (ceiling : (u.eval.chans[n]'n.isLt).ceiling ≠ 0) :
    u.needOf n = .none ∨ u.needOf n = .reduce (k.c + (u.eval.chans[n]'n.isLt).ceiling) ∧
      k.c + (u.eval.chans[n]'n.isLt).ceiling < (u.units[n]'n.isLt).count := by
  obtain ⟨eq, height, threat⟩ := judged.need deciding chan
  obtain ⟨level, isolation, dry, -⟩ := openBarred_iff.mp free
  rw [eq]
  obtain ⟨closed, other⟩ | ⟨z, p, slack, other⟩ | ⟨on, -⟩ | ⟨on, -⟩ | ⟨unref, -⟩ | ⟨-, above, other⟩ | ⟨-, other⟩ :=
    needFor_cases (u := u) (n := n) k (u.slackOf n k u.eval.v u.eval.arrival) (u.eval.chans[n]'n.isLt).ceiling
  · exact .inl other
  · obtain ⟨-, wet | windy⟩ := slackOf_origin slack
    · rw [← threat, dry] at wet
      cases wet
    · refine absurd (height.trans ?_) ceiling
      unfold windCeiling
      rw [if_neg (by omega), if_neg (by omega)]
  · rw [level] at on
    cases on
  · rw [isolation] at on
    cases on
  · rw [ref] at unref
    cases unref
  · exact .inr ⟨other, above⟩
  · exact .inl other

/-! #### A closing travel -/

/-- Whose band and origin a closing travel may take from its need (R39, R40). -/
def Need.gives (need : Need) (ref : Bool) (kind : TravelKind) (b : Band) (o : Origin) : Prop :=
  kind = .close ∧ ref = true ∧ need = .close b o ∨ kind = .reference ∧ ref = false ∧ need ≠ .none ∧ referenceBand need = (b, o)

/-- A travel that goes on from another of its kind, with its band and origin or those of the need. -/
structure Travel.GoesOn (x y : Travel) (need : Need) (ref : Bool) : Prop where
  kind : y.kind = x.kind
  target : y.target = x.target
  direction : y.direction = x.direction
  retries : y.retries = x.retries
  asked : y.band = x.band ∧ y.origin = x.origin ∨ need.gives ref x.kind y.band y.origin

theorem Travel.GoesOn.refl (x : Travel) (need : Need) (ref : Bool) : x.GoesOn x need ref := ⟨rfl, rfl, rfl, rfl, .inl ⟨rfl, rfl⟩⟩

theorem Travel.GoesOn.trans {x y z : Travel} {need : Need} {ref : Bool} (h : x.GoesOn y need ref) (h' : y.GoesOn z need ref) :
    x.GoesOn z need ref := by
  refine ⟨h'.kind.trans h.kind, h'.target.trans h.target, h'.direction.trans h.direction, h'.retries.trans h.retries, ?_⟩
  obtain ⟨band, origin⟩ | gives := h'.asked
  · rw [band, origin]
    exact h.asked
  · rw [h.kind] at gives
    exact .inr gives

@[simp] theorem reband_same (c : ChState) (x : Travel) (b : Band) : (c.reband x b).direction = x.direction ∧
    (c.reband x b).retries = x.retries ∧ (c.reband x b).band = b := by
  unfold ChState.reband
  split
  · rename_i same
    exact ⟨rfl, rfl, same⟩
  · split <;> exact ⟨rfl, rfl, rfl⟩

/-- What a review or an evaluation does to a travel that has no target and bears neither an OPEN nor a learn kind: it goes on, or is
discarded where it has lost its need. -/
theorem Turn.closing {l : Option Ch} {new : ChState} {x : Travel} (turn : Turn l u n new) (travel : u.travel? n = some x)
    (kind : x.kind = .close ∨ x.kind = .reference) (target : x.target = none) (learn : l ≠ some n) :
    (∃ y, new.travel? = some y ∧ x.GoesOn y (u.needOf n) (u.recs[n]'n.isLt).referenced) ∨
      new = .still ∧ x.origin.isNeed = true ∧ (u.needOf n).asks x.kind (u.recs[n]'n.isLt).referenced = false := by
  have not_opn : x.kind ≠ .opn := by obtain kind | kind := kind <;> rw [kind] <;> nofun
  have not_reduce : x.kind ≠ .reduce := by obtain kind | kind := kind <;> rw [kind] <;> nofun
  have kept {y : Travel} (h : u.travel? n = some y) : y = x := Option.some.inj (h.symm.trans travel)
  cases turn with
  | openBarred y ht hk => exact absurd (kept ht ▸ hk) not_opn
  | openAbove y k z ht hk => exact absurd (kept ht ▸ hk) not_opn
  | reclamp y k z d ht hk => exact absurd (kept ht ▸ hk) not_opn
  | bandClose y b o _ ht ref hk need =>
    obtain rfl := kept ht
    obtain ⟨direction, retries, band⟩ := reband_same (u.stateOf n) y b
    refine .inl ⟨_, travel?_withTravel travel, ⟨reband_kind _ _ _, reband_target _ _ _, direction, retries, .inr (.inl ⟨hk, ref, ?_⟩)⟩⟩
    show u.needOf n = .close ((u.stateOf n).reband y b).band o
    rw [band, need]
  | bandReference y _ ht ref hk need =>
    obtain rfl := kept ht
    obtain ⟨direction, retries, band⟩ := reband_same (u.stateOf n) y (referenceBand (u.needOf n)).1
    exact .inl ⟨_, travel?_withTravel travel, ⟨reband_kind _ _ _, reband_target _ _ _, direction, retries,
      .inr (.inr ⟨hk, ref, need, Prod.ext band.symm rfl⟩)⟩⟩
  | retarget y z d _ ht _ hk => exact absurd (kept ht ▸ hk) not_reduce
  | reduced y _ _ _ others => exact absurd (others x travel) not_reduce
  | lost y reaches state need lost =>
    have : u.travel? n = some y := by
      unfold State.travel?
      obtain state | state := state <;> rw [state] <;> rfl
    obtain rfl := kept this
    exact .inr ⟨rfl, need, lost⟩
  | dropLearn y own => exact absurd own learn
  | maintHold own => exact absurd own learn
  | yield y running =>
    have : u.travel? n = some y := by
      unfold State.travel?
      rw [running]
      rfl
    obtain rfl := kept this
    exact .inl ⟨y, rfl, .refl y _ _⟩
  | upgrade y _ running =>
    have : u.travel? n = some y := by
      unfold State.travel?
      rw [running]
      rfl
    obtain rfl := kept this
    exact .inl ⟨_, rfl, ⟨rfl, rfl, rfl, rfl, .inl ⟨rfl, rfl⟩⟩⟩
  | admitted y _ ht =>
    obtain rfl := kept ht
    exact .inl ⟨_, rfl, ⟨rfl, rfl, rfl, rfl, .inl ⟨rfl, rfl⟩⟩⟩
  | admitDone y ht _ reached =>
    obtain rfl := kept ht
    unfold Travel.reached at reached
    rw [target] at reached
    cases reached

/-- A travel that the need in force creates leaves none behind. -/
theorem Created.none_of_closing {x y : Travel} (created : Created u n y) (travel : u.travel? n = some x)
    (kind : x.kind = .close ∨ x.kind = .reference) : False := by
  cases created with
  | close b o _ _ _ others => obtain h | h := others x travel <;> obtain kind | kind := kind <;> rw [kind] at h <;> cases h
  | reference _ _ _ none => rw [travel] at none; cases none
  | reduce _ _ _ _ _ none => rw [travel] at none; cases none

/-- What the reviews and evaluations at the end of a command leave of a closing travel: it goes on, unless it has lost its need
(R39, R40, R42). -/
theorem finish_closing (due : s.deciding = true → s.Judged ∨ s.reviewDue = true) (learn : s.isLearnChannel n = false) {x : Travel}
    (travel : s.travel? n = some x) (kind : x.kind = .close ∨ x.kind = .reference) (target : x.target = none)
    (asked : x.origin.isNeed = true → s.deciding = true → (s.finish.needOf n).asks x.kind (s.recs[n]'n.isLt).referenced = true) :
    ∃ y, s.finish.travel? n = some y ∧ x.GoesOn y (s.finish.needOf n) (s.recs[n]'n.isLt).referenced := by
  have none : s.learnChannel? ≠ some n := fun own => by simp [State.isLearnChannel, own] at learn
  refine finish_channel (Q := fun c => ∃ y, c.travel? = some y ∧ x.GoesOn y (s.finish.needOf n) (s.recs[n]'n.isLt).referenced) due
    ⟨x, travel, .refl x _ _⟩ ?_ ?_
  · rintro u new kept judged deciding eval ⟨y, state, on⟩ turn
    have need : u.needOf n = s.finish.needOf n := by
      unfold State.needOf
      rw [eval]
    have ref : (u.recs[n]'n.isLt).referenced = (s.recs[n]'n.isLt).referenced := kept_referenced kept n
    have same : s.deciding = true := (kept_deciding kept).symm.trans deciding
    obtain ⟨z, state', on'⟩ | ⟨rfl, isNeed, lost⟩ := turn.closing state (on.kind ▸ kind) (on.target.trans target) none
    · rw [need, ref] at on'
      exact ⟨z, state', on.trans on'⟩
    · exfalso
      rw [need, ref, on.kind] at lost
      obtain ⟨-, origin⟩ | ⟨hk, href, hneed⟩ | ⟨hk, href, hneed, -⟩ := on.asked
      · rw [asked (origin ▸ isNeed) same] at lost
        cases lost
      · rw [hk, hneed, href] at lost
        cases lost
      · rw [hk, href] at lost
        revert lost
        cases other : s.finish.needOf n with
        | none => exact absurd other hneed
        | _ => nofun
  · rintro u y kept judged deciding eval ⟨z, state, on⟩ created
    exact (created.none_of_closing state (on.kind ▸ kind)).elim

/-! #### A travel that has ended -/

/-- Nothing, or a travel that the need in force has begun (R29, R93). -/
def ChState.Begun (c : ChState) (need : Need) : Prop :=
  c = .still ∨ need ≠ .none ∧ ∃ y, c.travel? = some y ∧ y.kind ≠ .opn ∧ y.origin.isNeed = true ∧ y.retries = 0

theorem ChState.Begun.ended {need : Need} (begun : (t.stateOf n).Begun need) (same : t.needOf n = need) : t.TravelEnded n := by
  obtain still | ⟨needed, y, travel, opn, isNeed, retries⟩ := begun
  · refine ⟨fun _ => still, fun y travel => ?_⟩
    unfold State.travel? at travel
    rw [still] at travel
    cases travel
  · refine ⟨fun none => ?_, fun z hz => ?_⟩
    · obtain none | none := none
      · exact absurd (same.symm.trans none) needed
      · cases none.symm.trans (show t.travel? n = some y from travel)
    · cases (show t.travel? n = some y from travel).symm.trans hz
      exact ⟨opn, isNeed, retries⟩

theorem referenceBand_origin (judged : u.Judged) (reaches : u.needReaches n = true) : (referenceBand (u.needOf n)).2.isNeed = true := by
  cases need : u.needOf n with
  | close b o => exact judged.need_origin reaches need
  | _ => rfl

theorem Created.begun {y : Travel} (created : Created u n y) (judged : u.Judged) : (ChState.waiting y).Begun (u.needOf n) := by
  cases created with
  | close b o reaches _ need =>
    refine .inr ⟨fun none => ?_, _, rfl, nofun, judged.need_origin reaches need, rfl⟩
    rw [need] at none
    cases none
  | reference reaches _ need => exact .inr ⟨need, _, rfl, nofun, referenceBand_origin judged reaches, rfl⟩
  | reduce y d _ _ need =>
    refine .inr ⟨fun none => ?_, _, rfl, nofun, rfl, rfl⟩
    rw [need] at none
    cases none

theorem Turn.begun {l : Option Ch} {new : ChState} (turn : Turn l u n new) (judged : u.Judged) (learn : l ≠ some n)
    (begun : (u.stateOf n).Begun (u.needOf n)) : new.Begun (u.needOf n) := by
  have keeps {x y : Travel} (travel : u.travel? n = some x) (kind : y.kind = x.kind)
      (origin : x.origin.isNeed = true → y.origin.isNeed = true)
      (retries : y.retries = x.retries) {c : ChState} (new : c.travel? = some y) : c.Begun (u.needOf n) := by
    obtain still | ⟨needed, z, hz, opn, isNeed, none⟩ := begun
    · unfold State.travel? at travel
      rw [still] at travel
      cases travel
    · cases (show u.travel? n = some z from hz).symm.trans travel
      exact .inr ⟨needed, y, new, kind ▸ opn, origin isNeed, retries.trans none⟩
  cases turn with
  | openBarred | openAbove | reduced | lost | admitDone => exact .inl rfl
  | reclamp x k y d ht => exact keeps (y := { x with target := _, direction := d }) ht rfl id rfl (travel?_withTravel ht)
  | bandClose x b o reaches ht _ _ need =>
    exact keeps (y := { (u.stateOf n).reband x b with origin := o }) ht (reband_kind _ x b) (fun _ => judged.need_origin reaches need)
      (reband_same _ x b).2.1 (travel?_withTravel ht)
  | bandReference x reaches ht =>
    exact keeps (y := { (u.stateOf n).reband x (referenceBand (u.needOf n)).1 with origin := (referenceBand (u.needOf n)).2 }) ht
      (reband_kind _ x _) (fun _ => referenceBand_origin judged reaches) (reband_same _ x _).2.1 (travel?_withTravel ht)
  | retarget x y d _ ht => exact keeps (y := { x with target := _, direction := d }) ht rfl id rfl (travel?_withTravel ht)
  | dropLearn x own => exact absurd own learn
  | maintHold own => exact absurd own learn
  | yield x running =>
    have ht : u.travel? n = some x := congrArg ChState.travel? running
    exact keeps ht rfl id rfl rfl
  | upgrade x _ running =>
    have ht : u.travel? n = some x := congrArg ChState.travel? running
    exact keeps ht (y := { x with profile := .storm }) rfl id rfl rfl
  | admitted x _ ht => exact keeps ht (y := { x with admission := some u.now }) rfl id rfl rfl

/-- Running to rest leaves a travel ended that has ended, but for one that the need in force begins (R29, R93). -/
theorem finish_begun (due : s.deciding = true → s.Judged ∨ s.reviewDue = true) (learn : s.isLearnChannel n = false)
    (begun : (s.stateOf n).Begun (s.finish.needOf n)) : s.finish.TravelEnded n := by
  have none : s.learnChannel? ≠ some n := fun own => by simp [State.isLearnChannel, own] at learn
  refine ChState.Begun.ended (need := s.finish.needOf n) ?_ rfl
  have same {u : State} (eval : u.eval = s.finish.eval) : u.needOf n = s.finish.needOf n := by
    unfold State.needOf
    rw [eval]
  refine finish_channel (Q := fun c => c.Begun (s.finish.needOf n)) due begun ?_ ?_
  · intro u new kept judged deciding eval begun turn
    rw [← same eval] at begun ⊢
    exact turn.begun judged none begun
  · intro u x kept judged deciding eval begun created
    rw [← same eval]
    exact created.begun judged

theorem finish_still (due : s.deciding = true → s.Judged ∨ s.reviewDue = true) (learn : s.isLearnChannel n = false)
    (still : s.stateOf n = .still) : s.finish.TravelEnded n := finish_begun due learn (.inl still)

end

end Sys2Proof.Machine

namespace Sys2Proof.Machine
set_option Elab.async false

/-! ### Requests on several channels (R46 to R50, R162, R170, R171) -/

section

variable {s t u v : State} {n m : Ch}

/-! #### What turns to one channel's travel alone -/

/-- `t` comes from `s` by changes of one channel's travel. -/
inductive Turned (n : Ch) (s : State) : State → Prop
  | refl : Turned n s s
  | set {t : State} (new : ChState) : Turned n s t → Turned n s (t.setState n new)
  | create {t : State} (x : Travel) : Turned n s t → Turned n s (t.createTravel n x)
  | askEval {t : State} : Turned n s t → Turned n s t.askEval
  | askReview {t : State} : Turned n s t → Turned n s t.askReview

theorem Turned.kept (h : Turned n s t) : t.kept = s.kept := by
  induction h with
  | refl => rfl
  | set new _ ih => exact (setState_kept _ _ _).trans ih
  | create x _ ih => exact (createTravel_kept _ _ _).trans ih
  | askEval _ ih => exact (askEval_kept _).trans ih
  | askReview _ ih => exact (askReview_kept _).trans ih

theorem Turned.eval (h : Turned n s t) : t.eval = s.eval := by
  induction h with
  | refl => rfl
  | set new _ ih => exact (setState_eval _ _ _).trans ih
  | create x _ ih => exact (createTravel_eval _ _ _).trans ih
  | askEval _ ih => exact (State.askEval_eval _).trans ih
  | askReview _ ih => exact (State.askReview_eval _).trans ih

theorem Turned.learnChannel (h : Turned n s t) : t.learnChannel? = s.learnChannel? := by
  unfold State.learnChannel?
  induction h with
  | refl => rfl
  | set new _ ih => exact (setState_port _ _ _).channel.trans ih
  | create x _ ih => exact (createTravel_port _ _ _).channel.trans ih
  | askEval _ ih => exact (congrArg (fun p : Port => p.session.map (·.channel)) (State.askEval_port _)).trans ih
  | askReview _ ih => exact (congrArg (fun p : Port => p.session.map (·.channel)) (State.askReview_port _)).trans ih

theorem createTravel_recs (s : State) (n : Ch) (x : Travel) : (s.createTravel n x).recs = s.recs.set n { s.recs[n]'n.isLt with state := .waiting x } := by
  unfold State.createTravel
  rw [State.askEval_recs, setState_recs]
  rfl

theorem Turned.other (h : Turned n s t) (ne : m ≠ n) : t.recs[m]'m.isLt = s.recs[m]'m.isLt := by
  induction h with
  | refl => rfl
  | set new _ ih => exact ((setState_rec _ n m new).trans (if_neg ne)).trans ih
  | @create t x _ ih =>
    refine Eq.trans ?_ ih
    rw [createTravel_recs]
    exact (setRec_rec t n m _).trans (if_neg ne)
  | askEval _ ih => exact (congrArg (fun l : Vector ChanRec 4 => l[m]'m.isLt) (State.askEval_recs _)).trans ih
  | askReview _ ih => exact (congrArg (fun l : Vector ChanRec 4 => l[m]'m.isLt) (State.askReview_recs _)).trans ih

theorem Turned.stateTimers (h : Turned n s t) (set : s.handler.stateTimers[m]'m.isLt = some 3000) :
    t.handler.stateTimers[m]'m.isLt = some 3000 := by
  induction h with
  | refl => exact set
  | set new _ ih => exact setState_stateTimers _ _ _ _ ih
  | @create t x _ ih =>
    unfold State.createTravel
    rw [State.askEval_handler]
    exact setState_stateTimers (t.setUnit n { t.units[n]'n.isLt with illegal := 0, indexRecord := none }) n m _ ih
  | askEval _ ih =>
    rw [State.askEval_handler]
    exact ih
  | askReview _ ih =>
    rw [State.askReview_handler]
    exact ih

theorem Turned.toStill (h : Turned n s t) : Turned n s (t.toStill n) := h.set _

theorem Turned.setTravel (h : Turned n s t) (x : Travel) : Turned n s (t.setTravel n x) := h.set _

theorem Turned.complete (h : Turned n s t) : Turned n s (t.complete n) := h.toStill.askReview.askEval

theorem Turned.createTargeted (h : Turned n s t) (k : TravelKind) (x : Nat) (o : Origin) (b : Band) :
    Turned n s (t.createTargeted n k x o b) := by
  unfold State.createTargeted
  split
  · split
    · exact h.complete
    · exact h.toStill
  · exact h.create _

theorem Turned.retarget (h : Turned n s t) (x : Travel) (y : Nat) : Turned n s (t.retarget n x y) := by
  unfold State.retarget
  split
  · exact h.complete
  · exact h.setTravel _

theorem Turned.setBand (h : Turned n s t) (x : Travel) (b : Band) (o : Origin) : Turned n s (t.setBand n x b o) := by
  unfold State.setBand
  dsimp only
  split
  · exact h.setTravel _
  · exact (h.setTravel _).askEval

theorem Turned.createClose (h : Turned n s t) (b : Band) (o : Origin) : Turned n s (t.createClose n b o) := h.create _

theorem Turned.createReference (h : Turned n s t) : Turned n s (t.createReference n) := h.create _

theorem Turned.loseNeed (h : Turned n s t) (x : Travel) : Turned n s (t.loseNeed n x) := by
  unfold State.loseNeed
  split
  · split
    · exact h.toStill
    · exact h.toStill
    · exact h
  · exact h

theorem Turned.needUnreferenced (h : Turned n s t) : Turned n s (t.needUnreferenced n) := by
  unfold State.needUnreferenced
  split
  · exact h
  · exact h.loseNeed _
  · exact h.createReference
  · split
    · exact h.setBand _ _ _
    · exact h

theorem Turned.needClose (h : Turned n s t) (b : Band) (o : Origin) : Turned n s (t.needClose n b o) := by
  unfold State.needClose
  split
  · exact h.createClose _ _
  · split
    · exact h.createClose _ _
    · exact h.createClose _ _
    · exact h.setBand _ _ _
    · exact h.loseNeed _
    · exact h

theorem Turned.needReduce (h : Turned n s t) (x : Nat) : Turned n s (t.needReduce n x) := by
  unfold State.needReduce
  split
  · exact h.createTargeted _ _ _ _
  · split
    · split
      · exact h
      · exact h.retarget _ _
    · exact h.loseNeed _
    · exact h.loseNeed _
    · exact h

theorem Turned.applyNeed (h : Turned n s t) : Turned n s (t.applyNeed n) := by
  unfold State.applyNeed
  split
  · split
    · split
      · exact h.needClose _ _
      · exact h.needReduce _
      · split
        · exact h
        · exact h.loseNeed _
    · exact h.needUnreferenced
  · exact h

theorem openRequest_turned (s : State) (n : Ch) (p : Nat) (o : Origin) : Turned n s (s.openRequest n p o) := by
  unfold State.openRequest
  split
  · exact .refl
  · dsimp only
    split
    · split
      · exact Turned.refl.setTravel _
      · exact Turned.refl.createTargeted _ _ _ _
    · exact Turned.refl.createTargeted _ _ _ _

theorem closeRequest_turned (s : State) (n : Ch) (o : Origin) : Turned n s (s.closeRequest n o) := by
  unfold State.closeRequest
  split
  · split
    · split
      · exact .refl
      · exact Turned.refl.createClose _ _
    · split
      · exact Turned.refl.createClose _ _
      · exact Turned.refl.createClose _ _
      · split
        · exact .refl
        · split
          · exact .refl
          · dsimp only
            split
            · exact Turned.refl.setTravel _
            · exact (Turned.refl.setTravel _).askEval
      · exact .refl
  · split
    · exact Turned.refl.createReference
    · exact .refl

theorem stopRequest_turned (s : State) (n : Ch) : Turned n s (s.stopRequest n) := by
  unfold State.stopRequest
  split
  · exact .refl
  · split
    · exact Turned.refl.toStill.applyNeed
    · exact .refl

/-! #### The rest of the station through requests -/

/-- `u` is `s` but for states and marks of channels; no channel has become referenced or lost its reference. -/
structure State.Beside (s u : State) : Prop where
  kept : ({ u with recs := s.recs } : State).kept = s.kept
  eval : u.eval = s.eval
  learnChannel : u.learnChannel? = s.learnChannel?
  referenced : ∀ n : Ch, (u.recs[n]'n.isLt).referenced = (s.recs[n]'n.isLt).referenced

theorem State.Beside.refl (s : State) : s.Beside s := ⟨rfl, rfl, rfl, fun _ => rfl⟩

theorem State.Beside.trans (h : s.Beside u) (h' : u.Beside v) : s.Beside v := by
  refine ⟨?_, h'.eval.trans h.eval, h'.learnChannel.trans h.learnChannel, fun n => (h'.referenced n).trans (h.referenced n)⟩
  exact (congrArg (fun x : State => ({ x with recs := s.kept.recs } : State)) h'.kept).trans h.kept

theorem Turned.beside (h : Turned n s t) : s.Beside t :=
  ⟨congrArg (fun x : State => ({ x with recs := s.kept.recs } : State)) h.kept, h.eval, h.learnChannel, fun m => kept_referenced h.kept m⟩

theorem submitState_beside (s : State) (n : Ch) : s.Beside (s.submitState n) := by
  have kept := submitState_kept s n
  refine ⟨congrArg (fun x : State => ({ x with recs := s.kept.recs } : State)) kept, submitState_eval s n, ?_, fun m => kept_referenced kept m⟩
  unfold State.learnChannel?
  rw [submitState_port]

theorem checkView_beside (s : State) (n : Ch) : s.Beside (s.checkView n) := by
  unfold State.checkView
  split
  · exact submitState_beside s n
  · exact .refl s

theorem setRec_beside (s : State) (n : Ch) (r : ChanRec) (ref : r.referenced = (s.recs[n]'n.isLt).referenced) : s.Beside (s.setRec n r) := by
  refine ⟨rfl, rfl, rfl, fun m => ?_⟩
  rw [setRec_rec]
  by_cases same : m = n
  · subst same
    rw [if_pos rfl, ref]
  · rw [if_neg same]

section beside

variable (h : s.Beside u)
include h

theorem State.Beside.chan (n : Ch) : u.chan? n = s.chan? n := kept_chan (s := s) (t := { u with recs := s.recs }) h.kept n

theorem State.Beside.fitted (n : Ch) : u.fitted n = s.fitted n := by
  unfold State.fitted
  rw [h.chan]

theorem State.Beside.count (n : Ch) : (u.units[n]'n.isLt).count = (s.units[n]'n.isLt).count :=
  kept_count (s := s) (t := { u with recs := s.recs }) h.kept n

theorem State.Beside.deciding : u.deciding = s.deciding := kept_deciding (s := s) (t := { u with recs := s.recs }) h.kept

theorem State.Beside.need (n : Ch) : u.needOf n = s.needOf n := by
  unfold State.needOf
  rw [h.eval]

theorem State.Beside.config : u.port.config = s.port.config := kept_config (s := s) (t := { u with recs := s.recs }) h.kept

theorem State.Beside.isLearnChannel (n : Ch) : u.isLearnChannel n = s.isLearnChannel n := by
  unfold State.isLearnChannel
  rw [h.learnChannel]

theorem State.Beside.maintHolds (n : Ch) : u.maintHolds n = s.maintHolds n := by
  have same := congrArg (fun x : State => x.maintHolds n) h.kept
  exact same

theorem State.Beside.closeLevelActive : u.closeLevelActive = s.closeLevelActive := by
  have same := congrArg State.closeLevelActive h.kept
  exact same

theorem State.Beside.isolationClose : u.isolationClose = s.isolationClose := by
  have same := congrArg State.isolationClose h.kept
  exact same

theorem State.Beside.openBarred : u.openBarred = s.openBarred := by
  unfold State.openBarred
  rw [h.closeLevelActive, h.isolationClose, h.eval]

theorem State.Beside.closed (n : Ch) : u.closed n = s.closed n := by
  unfold State.closed
  rw [h.chan, h.referenced, h.count]

theorem State.Beside.judged (judged : s.Judged) : u.Judged := by
  have same : ({ u with recs := s.recs } : State).Judged := judged_of_kept h.kept h.eval judged
  intro c config reread
  obtain ⟨v, d, arrival, threat, chans⟩ := same c config reread
  refine ⟨v, d, arrival, threat, fun n => (chans n).trans ?_⟩
  have closed : ({ u with recs := s.recs } : State).closed n = u.closed n := by
    unfold State.closed
    rw [h.referenced]
    rfl
  show ({ u with recs := s.recs } : State).evalChannel n u.eval.v u.eval.arrival = _
  unfold State.evalChannel State.needFor
  rw [closed, h.referenced]
  rfl

/-- A channel's request is judged on its own record and on the station. -/
theorem State.Beside.judge (rec : u.recs[n]'n.isLt = s.recs[n]'n.isLt) (r : Request) : u.judge n r = s.judge n r := by
  unfold State.judge State.stateOf
  rw [h.fitted, h.maintHolds, h.isLearnChannel, rec, h.closeLevelActive, h.isolationClose, h.eval]

end beside

end

end Sys2Proof.Machine

namespace Sys2Proof.Machine
set_option Elab.async false

/-! #### A request on its channel (R46) -/

section

variable {s t u v w : State} {n m : Ch}

/-- The state in which an accepted request is carried out: the reason has been noted. -/
def State.noted (s : State) (n : Ch) (r : Request) : State := s.setRec n { s.recs[n]'n.isLt with refusal := s.judge n r }

theorem noted_beside (s : State) (n : Ch) (r : Request) : s.Beside (s.noted n r) := setRec_beside s n _ rfl

theorem noted_rec (s : State) (n m : Ch) (r : Request) : (s.noted n r).recs[m] =
    if m = n then { s.recs[n]'n.isLt with refusal := s.judge n r } else s.recs[m]'m.isLt := setRec_rec s n m _

theorem noted_stateOf (s : State) (n : Ch) (r : Request) : (s.noted n r).stateOf n = s.stateOf n := by
  unfold State.stateOf
  rw [noted_rec, if_pos rfl]

theorem request_eq (s : State) (n : Ch) (r : Request) (o : Origin) : s.request n r o =
    (if s.judge n r = .accepted then (s.noted n r).carryOut n r o else s.noted n r).submitState n := rfl

theorem setHold_beside (s : State) (n : Ch) (b : Bool) : s.Beside (s.setHold n b) :=
  (setRec_beside s n { s.recs[n]'n.isLt with consoleHold := b } rfl).trans (checkView_beside _ n)

theorem setHold_rec (s : State) (n m : Ch) (b : Bool) : (s.setHold n b).recs[m] =
    if m = n then { s.recs[n]'n.isLt with consoleHold := b } else s.recs[m]'m.isLt := by
  unfold State.setHold
  rw [checkView_recs]
  exact setRec_rec s n m _

theorem holdRequest_turned (s : State) (n : Ch) : Turned n (s.setHold n true) (s.holdRequest n) := by
  unfold State.holdRequest
  dsimp only
  split
  · exact .refl
  · split
    · exact Turned.refl.toStill.applyNeed
    · exact .refl

theorem Turned.marks (h : Turned n s t) (m : Ch) : (t.recs[m]'m.isLt).marks = (s.recs[m]'m.isLt).marks :=
  marks_of_recs (congrArg (·.recs) h.kept) m

/-- What carrying a request out does to the marks of a record (R50). -/
def Request.held (r : Request) (x : ChanRec) : ChanRec :=
  { x with consoleHold := if r = .hold then true else if r = .release then false else x.consoleHold }

/-- An accepted request changes its own channel's travel, its console-hold flag, and nothing of another channel. -/
theorem carryOut_spec (s : State) (n : Ch) (r : Request) (o : Origin) : s.Beside (s.carryOut n r o) ∧
    (∀ m, m ≠ n → (s.carryOut n r o).recs[m] = s.recs[m]'m.isLt) ∧
      ((s.carryOut n r o).recs[n]'n.isLt).marks = (r.held (s.recs[n]'n.isLt)).marks ∧
      ∀ m : Ch, s.handler.stateTimers[m]'m.isLt = some 3000 → (s.carryOut n r o).handler.stateTimers[m] = some 3000 := by
  have turned {t : State} (h : Turned n s t) : s.Beside t ∧ (∀ m, m ≠ n → t.recs[m]'m.isLt = s.recs[m]'m.isLt) ∧
      (t.recs[n]'n.isLt).marks = (s.recs[n]'n.isLt).marks ∧
      ∀ m : Ch, s.handler.stateTimers[m]'m.isLt = some 3000 → t.handler.stateTimers[m]'m.isLt = some 3000 :=
    ⟨h.beside, fun _ ne => h.other ne, h.marks n, fun _ set => h.stateTimers set⟩
  have hold (b : Bool) {t : State} (h : Turned n (s.setHold n b) t) : s.Beside t ∧ (∀ m, m ≠ n → t.recs[m]'m.isLt = s.recs[m]'m.isLt) ∧
      (t.recs[n]'n.isLt).marks = ({ s.recs[n]'n.isLt with consoleHold := b } : ChanRec).marks ∧
      ∀ m : Ch, s.handler.stateTimers[m]'m.isLt = some 3000 → t.handler.stateTimers[m]'m.isLt = some 3000 := by
    refine ⟨(setHold_beside s n b).trans h.beside, fun m ne => ?_, ?_, fun m set => h.stateTimers ?_⟩
    · rw [h.other ne, setHold_rec, if_neg ne]
    · rw [h.marks, setHold_rec, if_pos rfl]
    · exact checkView_stateTimers (s.setRec n { s.recs[n]'n.isLt with consoleHold := b }) n m set
  cases r with
  | opn p => exact turned (openRequest_turned s n p o)
  | close => exact turned (closeRequest_turned s n o)
  | stop => exact turned (stopRequest_turned s n)
  | hold => exact hold true (holdRequest_turned s n)
  | release => exact hold false .refl

/-- A request: what it leaves of the station, of another channel and of its own. -/
theorem request_spec (s : State) (n : Ch) (r : Request) (o : Origin) : s.Beside (s.request n r o) ∧
    (∀ m, m ≠ n → (s.request n r o).recs[m] = s.recs[m]'m.isLt) ∧
      ((s.request n r o).recs[n]'n.isLt).marks =
        (if s.judge n r = .accepted then r.held { s.recs[n]'n.isLt with refusal := .accepted }
          else { s.recs[n]'n.isLt with refusal := s.judge n r }).marks ∧
      (s.request n r o).handler.stateTimers[n] = some 3000 ∧
      ∀ m : Ch, s.handler.stateTimers[m]'m.isLt = some 3000 → (s.request n r o).handler.stateTimers[m] = some 3000 := by
  have timers (u : State) (m : Ch) (set : u.handler.stateTimers[m]'m.isLt = some 3000) :
      (u.submitState n).handler.stateTimers[m] = some 3000 := by
    rw [submitState_stateTimers, set]
    exact ite_self _
  have own (u : State) : (u.submitState n).handler.stateTimers[n] = some 3000 := (submitState_stateTimers u n n).trans (if_pos rfl)
  rw [request_eq]
  by_cases accepted : s.judge n r = .accepted
  · rw [if_pos accepted, if_pos accepted]
    obtain ⟨beside, other, marks, set⟩ := carryOut_spec (s.noted n r) n r o
    refine ⟨((noted_beside s n r).trans beside).trans (submitState_beside _ n), fun m ne => ?_, ?_, own _,
      fun m was => timers _ m (set m was)⟩
    · rw [submitState_recs, other m ne, noted_rec, if_neg ne]
    · rw [submitState_recs, marks, noted_rec, if_pos rfl, accepted]
  · rw [if_neg accepted, if_neg accepted]
    refine ⟨(noted_beside s n r).trans (submitState_beside _ n), fun m ne => ?_, ?_, own _, fun m was => timers _ m was⟩
    · rw [submitState_recs, noted_rec, if_neg ne]
    · rw [submitState_recs, noted_rec, if_pos rfl]

theorem request_stateOf (s : State) (n : Ch) (r : Request) (o : Origin) : (s.request n r o).stateOf n =
    if s.judge n r = .accepted then ((s.noted n r).carryOut n r o).stateOf n else s.stateOf n := by
  rw [request_eq]
  unfold State.stateOf
  rw [submitState_recs]
  by_cases accepted : s.judge n r = .accepted
  · rw [if_pos accepted, if_pos accepted]
  · rw [if_neg accepted, if_neg accepted]
    exact noted_stateOf s n r

/-- A RELEASE starts no review and no evaluation. -/
theorem request_release_due (s : State) (n : Ch) (o : Origin) : (s.request n .release o).reviewDue = s.reviewDue ∧
    (s.request n .release o).evalDue = s.evalDue ∧ (s.request n .release o).stateOf n = s.stateOf n := by
  have told (u : State) : (u.submitState n).reviewDue = u.reviewDue ∧ (u.submitState n).evalDue = u.evalDue :=
    ⟨State.submit_reviewDue _ _ _, State.submit_evalDue _ _ _⟩
  have viewed (u : State) : (u.checkView n).reviewDue = u.reviewDue ∧ (u.checkView n).evalDue = u.evalDue := by
    unfold State.checkView
    split
    · exact told u
    · exact ⟨rfl, rfl⟩
  have state : (s.request n .release o).stateOf n = s.stateOf n := by
    rw [request_stateOf]
    split
    · refine Eq.trans ?_ (noted_stateOf s n .release)
      unfold State.stateOf
      rw [show (s.noted n .release).carryOut n .release o = (s.noted n .release).setHold n false from rfl, setHold_rec, if_pos rfl]
    · rfl
  refine ⟨?_, ?_, state⟩
  · rw [request_eq, (told _).1]
    split
    · exact (viewed ((s.noted n .release).setRec n { (s.noted n .release).recs[n] with consoleHold := false })).1
    · rfl
  · rw [request_eq, (told _).2]
    split
    · exact (viewed ((s.noted n .release).setRec n { (s.noted n .release).recs[n] with consoleHold := false })).2
    · rfl

/-! #### Requests one after another -/

/-- Requests on channels one after another. -/
def State.requests (s : State) (ns : List Ch) (r : Request) (o : Origin) : State := ns.foldl (fun s n => s.request n r o) s

/-- Each request of a list finds its channel as it was, and what it does to it stands at the end. -/
theorem requests_spec (r : Request) (o : Origin) (ns : List Ch) (nodup : ns.Nodup) (s : State) : s.Beside (s.requests ns r o) ∧
    (∀ n ∉ ns, (s.requests ns r o).recs[n] = s.recs[n]'n.isLt) ∧
      (∀ n ∈ ns, ∃ w, s.Beside w ∧ w.recs[n]'n.isLt = s.recs[n]'n.isLt ∧ (s.requests ns r o).recs[n] = (w.request n r o).recs[n]) ∧
      ∀ n : Ch, n ∈ ns ∨ s.handler.stateTimers[n]'n.isLt = some 3000 → (s.requests ns r o).handler.stateTimers[n] = some 3000 := by
  induction ns generalizing s with
  | nil => exact ⟨.refl s, fun _ _ => rfl, fun _ h => absurd h List.not_mem_nil, fun _ h => h.resolve_left List.not_mem_nil⟩
  | cons m ns ih =>
    obtain ⟨once, nodup⟩ := List.nodup_cons.mp nodup
    obtain ⟨beside, other, own, timers⟩ := ih nodup (s.request m r o)
    obtain ⟨first, apart, -, set, rest⟩ := request_spec s m r o
    have eq : s.requests (m :: ns) r o = (s.request m r o).requests ns r o := rfl
    rw [eq]
    refine ⟨first.trans beside, fun n absent => ?_, fun n mem => ?_, fun n h => timers n ?_⟩
    · simp only [List.mem_cons, not_or] at absent
      rw [other n absent.2, apart n absent.1]
    · obtain rfl | later := List.mem_cons.mp mem
      · exact ⟨s, .refl s, rfl, other n once⟩
      · have ne : n ≠ m := fun e => once (e ▸ later)
        obtain ⟨w, besideW, rec, last⟩ := own n later
        exact ⟨w, first.trans besideW, rec.trans (apart n ne), last⟩
    · obtain mem | was := h
      · obtain rfl | later := List.mem_cons.mp mem
        · exact .inr set
        · exact .inl later
      · exact .inr (rest n was)

theorem requests_release (o : Origin) (ns : List Ch) (s : State) : (s.requests ns .release o).reviewDue = s.reviewDue ∧
    (s.requests ns .release o).evalDue = s.evalDue ∧ ∀ n, (s.requests ns .release o).stateOf n = s.stateOf n := by
  induction ns generalizing s with
  | nil => exact ⟨rfl, rfl, fun _ => rfl⟩
  | cons m ns ih =>
    obtain ⟨review, eval, state⟩ := ih (s.request m .release o)
    obtain ⟨review', eval', own⟩ := request_release_due s m o
    refine ⟨review.trans review', eval.trans eval', fun n => (state n).trans ?_⟩
    by_cases same : n = m
    · subst same
      exact own
    · unfold State.stateOf
      rw [(request_spec s m .release o).2.1 n same]

end

end Sys2Proof.Machine

namespace Sys2Proof.Machine
set_option Elab.async false

/-! #### What a request leaves of the travel (R47 to R50) -/

section

variable {s t u : State} {n : Ch}

theorem Turn.idle {l : Option Ch} {new : ChState} (turn : Turn l u n new) (idle : u.travel? n = none) (learn : l ≠ some n) :
    new = .still ∧ u.needReaches n = true := by
  have absent {x : Travel} {p : Prop} (travel : u.travel? n = some x) : p := by
    rw [idle] at travel
    cases travel
  cases turn with
  | openBarred x ht => exact absent ht
  | openAbove x k y ht => exact absent ht
  | reclamp x k y d ht => exact absent ht
  | bandClose x b o _ ht => exact absent ht
  | bandReference x _ ht => exact absent ht
  | retarget x y d _ ht => exact absent ht
  | reduced y reaches => exact ⟨rfl, reaches⟩
  | lost x reaches => exact ⟨rfl, reaches⟩
  | dropLearn x own => exact absurd own learn
  | maintHold own => exact absurd own learn
  | yield x running => exact absent (congrArg ChState.travel? running)
  | upgrade x _ running => exact absent (congrArg ChState.travel? running)
  | admitted x _ ht => exact absent ht
  | admitDone x ht => exact absent ht

/-- An OPEN travel that goes on (R44 apart): all but its profile, which may rise, and its admission. -/
structure Travel.OpensOn (x y : Travel) : Prop where
  kind : y.kind = x.kind
  target : y.target = x.target
  direction : y.direction = x.direction
  origin : y.origin = x.origin
  band : y.band = x.band
  retries : y.retries = x.retries
  profile : 2 < x.band.val → y.profile = x.profile

theorem Travel.OpensOn.refl (x : Travel) : x.OpensOn x := ⟨rfl, rfl, rfl, rfl, rfl, rfl, fun _ => rfl⟩

theorem Travel.OpensOn.trans {x y z : Travel} (h : x.OpensOn y) (h' : y.OpensOn z) : x.OpensOn z :=
  ⟨h'.kind.trans h.kind, h'.target.trans h.target, h'.direction.trans h.direction, h'.origin.trans h.origin, h'.band.trans h.band,
    h'.retries.trans h.retries, fun high => (h'.profile (by rw [h.band]; exact high)).trans (h.profile high)⟩

theorem Turn.opening {l : Option Ch} {new : ChState} {x : Travel} (turn : Turn l u n new) (travel : u.travel? n = some x)
    (kind : x.kind = .opn) (learn : l ≠ some n) (free : u.openBarred = false) (request : x.origin.isNeed = false) {y : Nat}
    (target : x.target = some y) (below : ∀ k, u.chan? n = some k → y ≤ k.c + u.eval.chans[n].ceiling)
    (away : x.reached (u.units[n]'n.isLt).count = false) : ∃ z, new.travel? = some z ∧ x.OpensOn z := by
  have kept {z : Travel} (h : u.travel? n = some z) : z = x := Option.some.inj (h.symm.trans travel)
  have other {z : Travel} {k : TravelKind} {p : Prop} (h : u.travel? n = some z) (hk : z.kind = k) (ne : k ≠ .opn) : p := by
    rw [kept h, kind] at hk
    exact absurd hk.symm ne
  have above {k : ChanCfg} {z : Travel} {y' : Nat} {p : Prop} (h : u.travel? n = some z) (chan : u.chan? n = some k)
      (ht : z.target = some y') (lower : k.c + u.eval.chans[n].ceiling < y') : p := by
    rw [kept h, target] at ht
    cases ht
    exact absurd (below k chan) (Nat.not_le.mpr lower)
  cases turn with
  | openBarred z _ _ barred =>
    rw [free] at barred
    cases barred
  | openAbove z k y' ht _ chan has lower => exact above ht chan has lower
  | reclamp z k y' d ht _ chan has lower => exact above ht chan has lower
  | bandClose z b o _ ht _ hk => exact other ht hk nofun
  | bandReference z _ ht _ hk => exact other ht hk nofun
  | retarget z y' d _ ht _ hk => exact other ht hk nofun
  | reduced y' _ _ _ others => exact other travel (others x travel) nofun
  | lost z _ state need =>
    have ht : u.travel? n = some z := by
      unfold State.travel?
      obtain state | state := state <;> rw [state] <;> rfl
    rw [kept ht, request] at need
    cases need
  | dropLearn z own => exact absurd own learn
  | maintHold own => exact absurd own learn
  | yield z running =>
    obtain rfl := kept (congrArg ChState.travel? running)
    exact ⟨z, rfl, .refl z⟩
  | upgrade z _ running rises =>
    obtain rfl := kept (congrArg ChState.travel? running)
    refine ⟨{ z with profile := .storm }, rfl, ⟨rfl, rfl, rfl, rfl, rfl, rfl, fun high => ?_⟩⟩
    rw [running] at rises
    simp only [ChState.upgradable, Bool.and_eq_true, decide_eq_true_eq] at rises
    omega
  | admitted z _ ht =>
    obtain rfl := kept ht
    exact ⟨{ z with admission := some u.now }, rfl, ⟨rfl, rfl, rfl, rfl, rfl, rfl, fun _ => rfl⟩⟩
  | admitDone z ht _ reached =>
    rw [kept ht, away] at reached
    cases reached

/-! #### An accepted request, once all has come to rest -/

/-- The state after an accepted request on the channel, in a station that decides and whose evaluator agrees with its inputs. -/
structure State.Heeds (s u : State) (n : Ch) (o : Origin) : Prop where
  beside : s.Beside u
  judged : s.Judged
  deciding : s.deciding = true
  fitted : s.fitted n = true
  maint : s.maintHolds n = false
  learn : s.isLearnChannel n = false
  origin : o.isNeed = false

section heeds

variable {o : Origin} (h : s.Heeds u n o)
include h

theorem State.Heeds.due : u.deciding = true → u.Judged ∨ u.reviewDue = true := fun _ => .inl (h.beside.judged h.judged)

theorem State.Heeds.aside : u.isLearnChannel n = false := (h.beside.isLearnChannel n).trans h.learn

theorem State.Heeds.eval : u.finish.eval = s.eval :=
  ((finish_settles u).eval_of_judged (h.beside.judged h.judged)).trans h.beside.eval

theorem State.Heeds.need : u.finish.needOf n = s.needOf n := by
  unfold State.needOf
  rw [h.eval]

theorem State.Heeds.notOwn : u.learnChannel? ≠ some n := fun own => by
  have := h.aside
  simp [State.isLearnChannel, own] at this

theorem State.Heeds.begun (begun : (u.stateOf n).Begun (s.needOf n)) : u.finish.TravelEnded n :=
  finish_begun h.due h.aside (by rw [h.need]; exact begun)

/-- A closing travel goes on (R39, R42). -/
theorem State.Heeds.closing {x : Travel} (travel : u.travel? n = some x) (kind : x.kind = .close ∨ x.kind = .reference)
    (target : x.target = none) (asked : x.origin.isNeed = true → (s.needOf n).asks x.kind (s.recs[n]'n.isLt).referenced = true) :
    ∃ y, u.finish.travel? n = some y ∧ x.GoesOn y (s.needOf n) (s.recs[n]'n.isLt).referenced := by
  have on := finish_closing h.due h.aside travel kind target (fun isNeed _ => by
    rw [h.need, h.beside.referenced]
    exact asked isNeed)
  rwa [h.need, h.beside.referenced] at on

theorem State.Heeds.unreferenced (unref : (s.recs[n]'n.isLt).referenced = false) : s.needOf n ≠ .none :=
  h.judged.need_unreferenced h.deciding h.fitted unref

/-- A channel at rest stays so while no need makes a travel. -/
theorem State.Heeds.rests (idle : u.travel? n = none)
    (need : s.needOf n = .none ∨ ∃ y, s.needOf n = .reduce y ∧ y = (s.units[n]'n.isLt).count) (ref : (s.recs[n]'n.isLt).referenced = true) :
    u.finish.stateOf n = u.stateOf n := by
  refine finish_channel (Q := fun c => c = u.stateOf n) h.due rfl ?_ ?_
  · intro v new kept judged deciding eval state turn
    obtain ⟨rfl, reaches⟩ := turn.idle (by unfold State.travel?; rw [state]; exact idle) h.notOwn
    rw [← state]
    unfold State.needReaches at reaches
    have none : (v.stateOf n).travel? = Option.none := by rw [state]; exact idle
    cases c : v.stateOf n with
    | still => rfl
    | held => simp [c] at reaches
    | faulted o e => simp [c] at reaches
    | waiting x | running x | yielded x => rw [c] at none; cases none
    | backing x e => rw [c] at none; cases none
    | paused x l => rw [c] at none; cases none
  · intro v x kept judged deciding eval state created
    have same : v.needOf n = s.needOf n := by
      unfold State.needOf
      rw [eval, h.eval]
    have refs : (v.recs[n]'n.isLt).referenced = true := (kept_referenced kept n).trans ((h.beside.referenced n).trans ref)
    have count : (v.units[n]'n.isLt).count = (s.units[n]'n.isLt).count := (kept_count kept n).trans (h.beside.count n)
    exfalso
    cases created with
    | close b p _ _ close =>
      rw [same] at close
      obtain none | ⟨y, reduce, -⟩ := need
      · rw [none] at close; cases close
      · rw [reduce] at close; cases close
    | reference _ unref =>
      rw [refs] at unref
      cases unref
    | reduce y d _ _ asks _ there =>
      rw [same] at asks
      obtain none | ⟨y', reduce, at'⟩ := need
      · rw [none] at asks; cases asks
      · rw [reduce] at asks
        cases asks
        rw [count, ← at', towards_eq_none rfl] at there
        cases there

end heeds

theorem needOf_closed (judged : s.Judged) (deciding : s.deciding = true) (fitted : s.fitted n = true) (closed : s.closed n = true) :
    s.needOf n = .none := by
  obtain ⟨k, chan⟩ := chan?_of_fitted fitted
  exact (judged.need deciding chan).1.trans (needFor_closed k _ _ closed)

theorem travel?_congr (state : u.stateOf n = s.stateOf n) : u.travel? n = s.travel? n := congrArg ChState.travel? state

theorem kept_closeLevelActive (kept : t.kept = s.kept) : t.closeLevelActive = s.closeLevelActive := by
  have same := congrArg State.closeLevelActive kept
  exact same

theorem kept_isolationClose (kept : t.kept = s.kept) : t.isolationClose = s.isolationClose := by
  have same := congrArg State.isolationClose kept
  exact same

theorem isNeed_of_isRequest {o : Origin} (request : o.isRequest = true) : o.isNeed = false := by
  cases o <;> first | rfl | cases request

/-- An OPEN travel goes on while nothing bars it (R44, R45). -/
theorem State.Heeds.opening {o : Origin} (h : s.Heeds u n o) {x : Travel} (travel : u.travel? n = some x) (kind : x.kind = .opn)
    (free : s.openBarred = false) (request : x.origin.isNeed = false) (need : ∀ b p, s.needOf n ≠ .close b p) {y : Nat}
    (target : x.target = some y) (below : ∀ k, s.chan? n = some k → y ≤ k.c + s.eval.chans[n].ceiling)
    (away : x.reached (s.units[n]'n.isLt).count = false) : ∃ z, u.finish.travel? n = some z ∧ x.OpensOn z := by
  refine finish_channel (Q := fun c => ∃ z, c.travel? = some z ∧ x.OpensOn z) h.due ⟨x, travel, .refl x⟩ ?_ ?_
  · rintro v new kept judged deciding eval ⟨z, state, on⟩ turn
    have barred : v.openBarred = false := by
      rw [← free, ← h.beside.openBarred]
      unfold State.openBarred
      rw [kept_closeLevelActive kept, kept_isolationClose kept, eval, h.eval, h.beside.eval]
    have count : (v.units[n]'n.isLt).count = (s.units[n]'n.isLt).count := (kept_count kept n).trans (h.beside.count n)
    obtain ⟨z', state', on'⟩ := turn.opening (x := z) (y := y) state (on.kind.trans kind) h.notOwn barred (by rw [on.origin, request])
      (on.target.trans target) (fun k chan => by
        rw [eval, h.eval]
        exact below k ((h.beside.chan n).symm.trans ((kept_chan kept n).symm.trans chan)))
      (by
        unfold Travel.reached at away ⊢
        rw [count, on.target, on.direction]
        exact away)
    exact ⟨z', state', on.trans on'⟩
  · rintro v x' kept judged deciding eval ⟨z, state, on⟩ created
    have same : v.needOf n = s.needOf n := by
      unfold State.needOf
      rw [eval, h.eval]
    exfalso
    cases created with
    | close b p _ _ close =>
      rw [same] at close
      exact need b p close
    | reference _ _ _ none => cases none.symm.trans state
    | reduce _ _ _ _ _ none => cases none.symm.trans state

theorem carriedOut_opn {o : Origin} (h : s.Heeds u n o) {p : Nat} (accepted : s.judge n (.opn p) = .accepted) {w : State}
    (beside : s.Beside w) (was : w.stateOf n = s.stateOf n) (state : u.stateOf n = (w.openRequest n p o).stateOf n) :
    s.CarriedOut u.finish n o (.opn p) := by
  intro k x d chan bands hx hd
  obtain ⟨-, -, -, -, ref, -, free, ceiling⟩ := (judge_opn p).mp accepted
  have need := h.judged.need_open h.deciding chan ref bands free ceiling
  have count := beside.count n
  have aim : w.openTarget n k p = x := by
    unfold State.openTarget
    rw [beside.eval, hx]
  have top : x ≤ k.c + s.eval.chans[n].ceiling := hx ▸ Nat.min_le_right _ _
  have chanW : w.chan? n = some k := (beside.chan n).trans chan
  have other (b : Band) (q : Origin) : s.needOf n ≠ .close b q := by
    obtain none | ⟨reduce, -⟩ := need
    · rw [none]; nofun
    · rw [reduce]; nofun
  have below (k' : ChanCfg) (chan' : s.chan? n = some k') : x ≤ k'.c + s.eval.chans[n].ceiling := by
    cases chan.symm.trans chan'
    exact top
  refine ⟨fun there => ?_, fun away => ?_⟩
  · have still : u.stateOf n = .still := by
      rw [state, openRequest_makes o chanW (fun z _ _ => by rw [aim, count, towards_eq_none there]; exact fun same => nomatch same), aim]
      exact createTargeted_there (count.trans there)
    refine (h.rests (congrArg ChState.travel? still) (.inl ?_) ref).trans still
    obtain none | ⟨-, above⟩ := need
    · exact none
    · omega
  · have away' : (w.units[n]'n.isLt).count ≠ x := by rwa [count]
    have toward : towards (w.openTarget n k p) (w.units[n]'n.isLt).count = some d := by
      rw [aim, towards_eq_some away', hd, count]
    have unreached {z : Travel} (hz : z.target = some x) (hd' : z.direction = d) : z.reached (s.units[n]'n.isLt).count = false := by
      unfold Travel.reached
      rw [hz, hd', hd]
      by_cases low : (s.units[n]'n.isLt).count < x
      · rw [if_pos low]
        exact decide_eq_false (by omega)
      · rw [if_neg low]
        exact decide_eq_false (by omega)
    by_cases runs : ∃ z, s.stateOf n = .running z ∧ z.kind = .opn ∧ z.direction = d
    · obtain ⟨z, running, kind, hd'⟩ := runs
      have runsOn := openRequest_runs o chanW (was.trans running) kind (by rw [toward, hd'])
      have travel : u.travel? n = some { z with target := some x, origin := o } := by
        unfold State.travel?
        rw [state, runsOn, aim]
        rfl
      obtain ⟨y, travel', on⟩ := h.opening travel kind free h.origin other rfl below (unreached rfl hd')
      exact ⟨y, travel', on.kind.trans kind, on.target, on.direction.trans hd', on.origin,
        .inl ⟨z, running, kind, hd', on.band, on.retries⟩⟩
    · have idle (z : Travel) (running : s.stateOf n = .running z) (kind : z.kind = .opn) : z.direction ≠ d :=
        fun same => runs ⟨z, running, kind, same⟩
      have makes := openRequest_makes o chanW (fun z running kind => by
        rw [toward]
        exact fun same => idle z (was.symm.trans running) kind (Option.some.inj same).symm)
      have travel : u.travel? n = some (newTravel .opn (some x) d o 5 .normal) := by
        unfold State.travel?
        rw [state, makes, aim, createTargeted_away .opn away', hd, count]
        rfl
      obtain ⟨y, travel', on⟩ := h.opening travel rfl free h.origin other rfl below (unreached rfl rfl)
      exact ⟨y, travel', on.kind, on.target, on.direction, on.origin, .inr ⟨idle, on.band, on.profile (by show 2 < (5 : Band).val; decide), on.retries⟩⟩

theorem Travel.GoesOn.closes {x y : Travel} {need : Need} {ref : Bool} (on : x.GoesOn y need ref) (kind : x.kind = .close) :
    need.closes y x.band x.origin := by
  obtain own | ⟨-, -, close⟩ | ⟨reference, -⟩ := on.asked
  · exact .inl own
  · exact .inr close
  · rw [kind] at reference
    cases reference

theorem asks_reference {need : Need} (some : need ≠ .none) : need.asks .reference false = true := by
  cases need with
  | none => exact absurd rfl some
  | _ => rfl

theorem carriedOut_close {o : Origin} (h : s.Heeds u n o) {w : State} (beside : s.Beside w) (was : w.stateOf n = s.stateOf n)
    (state : u.stateOf n = (w.closeRequest n o).stateOf n) : s.CarriedOut u.finish n o .close := by
  have travelW := travel?_congr was
  have makes (made : w.closeRequest n o = w.createClose n 4 o) : ∃ y, u.finish.travel? n = some y ∧ y.kind = .close ∧
      y.target = none ∧ y.direction = .closing ∧ y.retries = 0 ∧ (s.needOf n).closes y 4 o := by
    have travel : u.travel? n = some (newTravel .close none .closing o 4 (bandProfile 4)) := by
      unfold State.travel?
      rw [state, made]
      exact congrArg ChState.travel? (stateOf_createTravel _ _ _)
    obtain ⟨y, travel', on⟩ := h.closing travel (.inl rfl) rfl (fun isNeed => (Bool.false_ne_true (h.origin.symm.trans isNeed)).elim)
    exact ⟨y, travel', on.kind, on.target, on.direction, on.retries, on.closes rfl⟩
  refine ⟨fun ref => ⟨fun idle closed => ?_, ?_, fun z travel kind target => ?_⟩, fun unref => ⟨fun idle => ?_, fun z travel kind target => ?_⟩⟩
  · have refW : (w.recs[n]'n.isLt).referenced = true := (beside.referenced n).trans ref
    have same : u.stateOf n = s.stateOf n := by
      rw [state, closeRequest_idle (travelW.trans idle) refW, if_pos ((beside.closed n).trans closed), was]
    refine (h.rests ((travel?_congr same).trans idle) (.inl ?_) ref).trans same
    exact needOf_closed h.judged h.deciding h.fitted closed
  · have refW : (w.recs[n]'n.isLt).referenced = true := (beside.referenced n).trans ref
    rintro (⟨idle, away⟩ | ⟨z, travel, kind⟩)
    · exact makes ((closeRequest_idle (travelW.trans idle) refW).trans (if_neg (by rw [beside.closed, away]; decide)))
    · exact makes (closeRequest_replaces (travelW.trans travel) refW kind)
  · have refW : (w.recs[n]'n.isLt).referenced = true := (beside.referenced n).trans ref
    obtain ⟨stays, changes⟩ := closeRequest_close (o := o) (travelW.trans travel) refW kind
    rw [beside.need] at stays changes
    have keep (kept : z.origin.isRequest = true ∨ ∃ b o', s.needOf n = .close b o') : ∃ y, u.finish.travel? n = some y ∧
        z.GoesOn y (s.needOf n) (s.recs[n]'n.isLt).referenced := by
      have same : u.stateOf n = s.stateOf n := by rw [state, stays kept, was]
      refine h.closing ((travel?_congr same).trans travel) (.inl kind) target (fun isNeed => ?_)
      obtain request | asked := kept
      · exact (Bool.false_ne_true ((isNeed_of_isRequest request).symm.trans isNeed)).elim
      · rw [kind, ref]
        exact need_asks_close.mpr asked
    by_cases kept : z.origin.isRequest = true ∨ ∃ b o', s.needOf n = .close b o'
    · obtain ⟨y, travel', on⟩ := keep kept
      refine ⟨y, travel', on.kind.trans kind, on.retries, fun _ => on.closes kind, fun request none => ?_⟩
      obtain request' | ⟨b, o', need⟩ := kept
      · rw [request] at request'
        cases request'
      · exact absurd need (none b o')
    · simp only [not_or, not_exists, Bool.not_eq_true] at kept
      obtain ⟨request, none⟩ := kept
      have travel' : u.travel? n = some { z with band := 4, origin := o } := by
        unfold State.travel?
        rw [state, changes request none]
        exact travel?_withTravel (travelW.trans travel)
      obtain ⟨y, last, on⟩ := h.closing travel' (.inl kind) target (fun isNeed => (Bool.false_ne_true (h.origin.symm.trans isNeed)).elim)
      refine ⟨y, last, on.kind.trans kind, on.retries, fun some => ?_, fun _ _ => ?_⟩
      · obtain request' | ⟨b, o', need⟩ := some
        · rw [request] at request'
          cases request'
        · exact absurd need (none b o')
      · obtain own | close := on.closes kind
        · exact own
        · exact absurd close (none _ _)
  · have unrefW : (w.recs[n]'n.isLt).referenced = false := (beside.referenced n).trans unref
    have made : w.closeRequest n o = w.createReference n := (closeRequest_unreferenced unrefW).trans (if_pos (travelW.trans idle))
    have travel : u.travel? n = some (newTravel .reference none .closing (referenceBand (w.needOf n)).2 (referenceBand (w.needOf n)).1
        (bandProfile (referenceBand (w.needOf n)).1)) := by
      unfold State.travel?
      rw [state, made]
      exact congrArg ChState.travel? (stateOf_createTravel _ _ _)
    obtain ⟨y, travel', on⟩ := h.closing travel (.inr rfl) rfl (fun _ => by
      rw [unref]
      exact asks_reference (h.unreferenced unref))
    exact ⟨y, travel', on.kind, on.direction, on.retries⟩
  · have unrefW : (w.recs[n]'n.isLt).referenced = false := (beside.referenced n).trans unref
    have same : u.stateOf n = s.stateOf n := by
      rw [state, closeRequest_unreferenced unrefW, if_neg (by rw [travelW, travel]; exact Option.some_ne_none z), was]
    obtain ⟨y, travel', on⟩ := h.closing ((travel?_congr same).trans travel) (.inr kind) target (fun _ => by
      rw [unref, kind]
      exact asks_reference (h.unreferenced unref))
    exact ⟨y, travel', on.kind.trans kind, on.retries⟩

/-! #### STOP and HOLD -/

/-- The need in force acts on a channel without a travel, or with one that a need has begun. -/
theorem applyNeed_begun (judged : s.Judged) (begun : (s.stateOf n).Begun (s.needOf n)) : ((s.applyNeed n).stateOf n).Begun (s.needOf n) := by
  have chain : Settles False none s (s.applyNeed n) := Settles.refl.applyNeed n
  have same {v : State} (eval : v.eval = s.eval) : v.needOf n = s.needOf n := by
    unfold State.needOf
    rw [eval]
  refine chain.channel judged (Q := fun c => c.Begun (s.needOf n)) begun ?_ ?_
  · intro v new kept eval begun turn
    rw [← same eval] at begun ⊢
    exact turn.begun (judged_of_kept kept eval judged) nofun begun
  · intro v x kept eval begun created
    rw [← same eval]
    exact created.begun (judged_of_kept kept eval judged)

theorem still_applyNeed_begun (judged : s.Judged) : (((s.toStill n).applyNeed n).stateOf n).Begun (s.needOf n) := by
  have eval := toStill_eval s n
  have begun := applyNeed_begun (n := n) (judged_of_kept (toStill_kept s n) eval judged) (.inl (stateOf_toStill s n))
  have same : (s.toStill n).needOf n = s.needOf n := by
    unfold State.needOf
    rw [eval]
  rwa [same] at begun

theorem stopRequest_of {x : Travel} (travel : s.travel? n = some x) : s.stopRequest n =
    if x.stoppable then (s.toStill n).applyNeed n else s := by
  unfold State.stopRequest
  rw [travel]

theorem carriedOut_stop {o : Origin} (h : s.Heeds u n o) {w : State} (beside : s.Beside w) (was : w.stateOf n = s.stateOf n)
    (state : u.stateOf n = (w.stopRequest n).stateOf n) : s.CarriedOut u.finish n o .stop := by
  have travelW := travel?_congr was
  refine ⟨fun z travel kind => ?_, fun z b o' travel kind target isNeed need ref => ?_⟩
  · have stoppable : z.stoppable = true := by
      unfold Travel.stoppable
      obtain kind | ⟨kind, request⟩ := kind
      · rw [kind]; rfl
      · rw [kind, request]; rfl
    refine h.begun ?_
    rw [state, stopRequest_of (travelW.trans travel), if_pos stoppable, ← beside.need]
    exact still_applyNeed_begun (beside.judged h.judged)
  · have stays : z.stoppable = false := by
      unfold Travel.stoppable
      rw [kind]
      cases request : z.origin.isRequest with
      | false => rfl
      | true => exact (Bool.false_ne_true ((isNeed_of_isRequest request).symm.trans isNeed)).elim
    have same : u.stateOf n = s.stateOf n := by
      rw [state, stopRequest_of (travelW.trans travel), if_neg (by rw [stays]; decide), was]
    obtain ⟨y, travel', on⟩ := h.closing ((travel?_congr same).trans travel) (.inl kind) target (fun _ => by
      rw [kind, ref]
      exact need_asks_close.mpr ⟨b, o', need⟩)
    exact ⟨y, travel', on.kind.trans kind, on.retries, on.closes kind⟩

theorem carriedOut_hold {o : Origin} (h : s.Heeds u n o) {w : State} (beside : s.Beside w)
    (state : u.stateOf n = (w.holdRequest n).stateOf n) : s.CarriedOut u.finish n o .hold := by
  intro y travel
  refine (finish_settles u).noOpn (fun x hx => ?_) y travel
  have hx : (w.holdRequest n).travel? n = some x := (congrArg ChState.travel? state).symm.trans hx
  unfold State.holdRequest at hx
  dsimp only at hx
  split at hx
  · rename_i idle
    rw [idle] at hx
    cases hx
  · rename_i z had
    split at hx
    · have judged := (setHold_beside w n true).judged (beside.judged h.judged)
      obtain still | ⟨-, x', begun, opn, -⟩ := still_applyNeed_begun (n := n) judged
      · rw [State.travel?, still] at hx
        cases hx
      · cases (show _ = some x' from begun).symm.trans hx
        exact opn
    · rename_i other
      rw [had] at hx
      cases hx
      exact other

/-- What an accepted request leaves of its channel's travel once all has come to rest, RELEASE apart. -/
theorem carriedOut_of {o : Origin} (h : s.Heeds u n o) {r : Request} (accepted : s.judge n r = .accepted) (plain : r ≠ .release)
    {w : State} (beside : s.Beside w) (was : w.stateOf n = s.stateOf n) (state : u.stateOf n = (w.carryOut n r o).stateOf n) :
    s.CarriedOut u.finish n o r := by
  cases r with
  | opn p => exact carriedOut_opn h accepted beside was state
  | close => exact carriedOut_close h beside was state
  | stop => exact carriedOut_stop h beside was state
  | hold => exact carriedOut_hold h beside state
  | release => exact absurd rfl plain

theorem checkDraw_recs (s : State) : s.checkDraw.recs = s.recs := by
  unfold State.checkDraw
  split
  · rfl
  · split
    · exact State.submit_recs s _ _
    · rfl

/-- What requests on a list of channels leave of each of them. -/
theorem requests_carriedOut {r : Request} {o : Origin} {ns : List Ch} (nodup : ns.Nodup) (mem : n ∈ ns) (judged : s.Judged)
    (deciding : s.deciding = true) (accepted : s.judge n r = .accepted) (origin : o.isNeed = false) :
    s.CarriedOut (s.requests ns r o).finish n o r := by
  obtain ⟨fitted, maint, learn⟩ := judge_accepted accepted
  obtain ⟨beside, -, own, -⟩ := requests_spec r o ns nodup s
  by_cases release : r = .release
  · subst release
    intro review eval
    obtain ⟨review', eval', state⟩ := requests_release o ns s
    rw [finish_of_not_due (review'.trans review) (eval'.trans eval)]
    refine Eq.trans ?_ (state n)
    exact stateOf_of_recs (checkDraw_recs _) n
  · obtain ⟨w, besideW, rec, last⟩ := own n mem
    have state : (s.requests ns r o).stateOf n = ((w.noted n r).carryOut n r o).stateOf n := by
      have : (s.requests ns r o).stateOf n = (w.request n r o).stateOf n := congrArg ChanRec.state last
      rw [this, request_stateOf, if_pos ((besideW.judge rec r).trans accepted)]
    refine carriedOut_of ⟨beside, judged, deciding, fitted, maint, learn, origin⟩ accepted release
      (besideW.trans (noted_beside w n r)) ?_ state
    rw [noted_stateOf]
    exact congrArg ChanRec.state rec

end

end Sys2Proof.Machine

namespace Sys2Proof.Machine
set_option Elab.async false

/-! ### Channel actions of a console (R162) -/

section

variable {s t : State} {n : Ch}

theorem execChannelOrder_of {c : Instr} {o : Order} {r : Request} (by' : s.requestBy c o r) :
    exec c s = .next ((s.requests (maskChannels o.mask) r .console).finish).takeNext := by
  obtain ⟨rfl, order, rfl⟩ | ⟨rfl, order, rfl⟩ | ⟨rfl, order, rfl⟩ | ⟨rfl, order, rfl⟩ | ⟨rfl, order, rfl⟩ := by'
  · have ends : exec .commandOpen s = execCommandOpen s := rfl
    unfold execCommandOpen at ends
    rwa [order] at ends
  · have ends : exec .commandClose s = execCommandClose s := rfl
    unfold execCommandClose at ends
    rwa [order] at ends
  · have ends : exec .commandStop s = execCommandStop s := rfl
    unfold execCommandStop at ends
    rwa [order] at ends
  · have ends : exec .commandHold s = execCommandHold s := rfl
    unfold execCommandHold at ends
    rwa [order] at ends
  · have ends : exec .commandRelease s = execCommandRelease s := rfl
    unfold execCommandRelease at ends
    rwa [order] at ends

theorem maskChannels_nodup (mask : Nat) : (maskChannels mask).Nodup := channels_nodup.filter _

/-- The marks that a request leaves (R46, R50). -/
theorem requests_marks {r : Request} {o : Origin} {ns : List Ch} (nodup : ns.Nodup) (mem : n ∈ ns) :
    ((s.requests ns r o).recs[n]'n.isLt).refusal = s.judge n r ∧
      ((s.requests ns r o).recs[n]'n.isLt).consoleHold =
        if r = .hold ∧ s.judge n r = .accepted then true
        else if r = .release ∧ s.judge n r = .accepted then false else (s.recs[n]'n.isLt).consoleHold := by
  obtain ⟨-, -, own, -⟩ := requests_spec r o ns nodup s
  obtain ⟨w, beside, rec, last⟩ := own n mem
  obtain ⟨-, -, marks, -, -⟩ := request_spec w n r o
  rw [beside.judge rec, rec] at marks
  have refusal := congrArg ChanRec.refusal marks
  have hold := congrArg ChanRec.consoleHold marks
  simp only [ChanRec.marks] at refusal hold
  rw [last, refusal, hold]
  by_cases accepted : s.judge n r = .accepted
  · rw [if_pos accepted]
    simp only [Request.held, accepted, and_true]
  · rw [if_neg accepted]
    simp only [accepted, and_false, if_false, true_and]

/-- Settles O46: the channels of the mask are judged and served one after another; what is done on one leaves the others as they
were, and the reviews and evaluations at the end carry on what was done. -/
theorem channelActionsAreJudged : Obligations.ChannelActionsAreJudged := by
  unfold Obligations.ChannelActionsAreJudged
  intro c s o r by'
  obtain ⟨beside, other, -, timers⟩ := requests_spec r .console _ (maskChannels_nodup o.mask) s
  have chain := finish_settles (s.requests (maskChannels o.mask) r .console)
  have marks (n : Ch) (mem : n ∈ maskChannels o.mask) := requests_marks (s := s) (r := r) (o := .console) (maskChannels_nodup o.mask) mem
  have carried (n : Ch) (mem : n ∈ maskChannels o.mask) (accepted : s.judge n r = .accepted) (deciding : s.deciding = true)
      (judged : s.Judged) := requests_carriedOut (maskChannels_nodup o.mask) mem judged deciding accepted (o := .console) rfl
  refine ⟨_, execChannelOrder_of by', ?_⟩
  generalize s.requests (maskChannels o.mask) r .console = u at *
  have kept := chain.kept
  have set (n : Ch) (mem : n ∈ maskChannels o.mask) := chain.stateTimers (timers n (.inl mem))
  generalize u.finish = t at *
  have queue : t.line.queue = s.line.queue := (congrArg (·.line.queue) kept).trans (congrArg (·.line.queue) beside.kept)
  have flags : t.flags = s.flags := (congrArg (·.flags) kept).trans (congrArg (·.flags) beside.kept)
  refine ⟨congrArg (·.head?) queue, congrArg (·.tail) queue, flags, fun n => ⟨(kept_count kept n).trans (beside.count n),
    (kept_referenced kept n).trans (beside.referenced n), fun asked => ?_, fun absent => ?_⟩⟩
  · have mem := maskChannels_mem.mpr asked
    obtain ⟨refusal, hold⟩ := marks n mem
    exact ⟨(kept_refusal kept n).trans refusal, set n mem, (kept_consoleHold kept n).trans hold, carried n mem⟩
  · have same := other n (fun mem => by rw [maskChannels_mem.mp mem] at absent; cases absent)
    exact (marks_of_recs (congrArg (·.recs) kept) n).trans (congrArg ChanRec.marks same)

end

end Sys2Proof.Machine

namespace Sys2Proof.Machine
set_option Elab.async false

/-! ### Drives through a change of state, and what times them (O25) -/

section

variable {s t u v : State} {n : Ch} {d d' : Direction}

theorem State.DriveStarted.congr (h : u.DriveStarted v n d) (units : u.units = s.units) (now : u.now = s.now)
    (config : u.port.config = s.port.config) (session : u.port.session = s.port.session)
    (referenced : (u.recs[n]'n.isLt).referenced = (s.recs[n]'n.isLt).referenced) (unit : t.units[n]'n.isLt = v.units[n]'n.isLt)
    (state : t.stateOf n = v.stateOf n) (session' : t.port.session = v.port.session) : s.DriveStarted t n d := by
  have chan : u.chan? n = s.chan? n := by
    unfold State.chan?
    rw [config]
  have travel : t.travel? n = v.travel? n := congrArg ChState.travel? state
  unfold State.DriveStarted at h ⊢
  rw [unit, state, session', travel, ← units, ← now, ← chan, ← session, ← referenced]
  exact h

/-- A start of a channel that comes to drive, from OFF. -/
theorem setState_starts {new : ChState} (ne : d ≠ d') (driven : new.driveDir? = some d) (idle : (s.stateOf n).driveDir? = none)
    (off : (s.units[n]'n.isLt).drive = .off) :
    ((s.units[n]'n.isLt).lastDir = some d' ∧ (s.units[n]'n.isLt).deadTime ≠ none →
      (s.setState n new).units[n]'n.isLt = { s.units[n]'n.isLt with drive := .dead d }) ∧
    ((s.units[n]'n.isLt).lastDir ≠ some d' ∨ (s.units[n]'n.isLt).deadTime = none → s.DriveStarted (s.setState n new) n d) := by
  have unit := setState_unit s n new
  have port := (setState_drive s n new).1
  have referenced : ((s.setRec n { s.recs[n]'n.isLt with state := new }).recs[n]'n.isLt).referenced = (s.recs[n]'n.isLt).referenced := by
    rw [setRec_rec, if_pos rfl]
  have state : (s.setRec n { s.recs[n]'n.isLt with state := new }).stateOf n = new := congrArg (·.state) ((setRec_rec s n n _).trans (if_pos rfl))
  have units : (s.setRec n { s.recs[n]'n.isLt with state := new }).units = s.units := rfl
  have now : (s.setRec n { s.recs[n]'n.isLt with state := new }).now = s.now := rfl
  have same : (s.setRec n { s.recs[n]'n.isLt with state := new }).port = s.port := rfl
  generalize s.setRec n { s.recs[n]'n.isLt with state := new } = r at *
  have energised : r.applyDrive n (s.stateOf n) new = r.energise n d := by
    unfold State.applyDrive
    rw [idle, driven]
  rw [energised] at unit port
  rw [← units] at off ⊢
  obtain ⟨owed, free⟩ := energise_start (s := r) (n := n) (d := d) off
  rw [flip_of_ne ne] at owed free
  refine ⟨fun h => ?_, fun h => ?_⟩
  · rw [unit, owed h, setUnit_unit, if_pos rfl]
  · have start := free h
    rw [setUnit_self] at start
    rw [start] at unit port
    refine (driveStart_started r n d).congr units now (congrArg (·.config) same) (congrArg (·.session) same) referenced unit ?_
      (congrArg (·.session) port)
    rw [stateOf_setState]
    exact (state.symm.trans (congrArg (·[n].state) (driveStart_recs r n d).symm))

/-- A driven motor that is turned stops and waits. -/
theorem setState_turns {new : ChState} (ne : d ≠ d') (driven : new.driveDir? = some d) (old : (s.stateOf n).driveDir? = some d')
    (drive : (s.units[n]'n.isLt).drive.driven? = some d') (last : (s.units[n]'n.isLt).lastDir = some d') :
    (s.setState n new).units[n]'n.isLt = { (s.units[n]'n.isLt).stopDrive with drive := .dead d } := by
  have turned : ¬ (d' = d ∧ (s.stateOf n).isRunning = new.isRunning) := fun h => ne h.1.symm
  have stopped : (s.units[n]'n.isLt).driveOff = (s.units[n]'n.isLt).stopDrive := by
    unfold ChanUnit.driveOff
    generalize (s.units[n]'n.isLt) = x at drive
    split
    · rename_i off; rw [off] at drive; cases drive
    · rename_i dead; rw [dead] at drive; cases drive
    · rfl
    · rfl
  have readied : (s.units[n]'n.isLt).readied d = (s.units[n]'n.isLt).stopDrive := by
    unfold ChanUnit.readied
    rw [drive]
    exact (if_neg (Ne.symm ne)).trans stopped
  have owed : ((s.units[n]'n.isLt).stopDrive).owesDeadTime d = true := by
    unfold ChanUnit.owesDeadTime ChanUnit.stopDrive
    rw [last, flip_of_ne ne]
    simp
  rw [setState_unit]
  unfold State.applyDrive
  rw [old, driven]
  dsimp only
  rw [if_neg (by simpa using turned)]
  unfold State.energise
  dsimp only
  have unit : (s.setRec n { s.recs[n]'n.isLt with state := new }).units[n]'n.isLt = s.units[n]'n.isLt := rfl
  rw [unit, readied, if_neg (by intro h; cases h), if_pos owed, setUnit_unit, if_pos rfl]

theorem driveOff_off (x : ChanUnit) : x.driveOff.drive = .off ∧ (x.drive.driven? ≠ none → x.driveOff.coast = some 0 ∧ x.driveOff.deadTime = some 0) := by
  unfold ChanUnit.driveOff
  split
  · rename_i off
    exact ⟨off, fun h => absurd (by rw [off]; rfl) h⟩
  · rename_i dead
    exact ⟨rfl, fun h => absurd (by rw [dead]; rfl) h⟩
  · exact ⟨rfl, fun _ => ⟨rfl, rfl⟩⟩
  · exact ⟨rfl, fun _ => ⟨rfl, rfl⟩⟩

theorem activeProfile_of {k : ChanCfg} {p : ProfileCfg} (chan : s.chan? n = some k)
    (normal : ∀ t, s.stateOf n = .running t → t.profile = .normal → p = k.normal)
    (storm : ∀ t, s.stateOf n = .running t → t.profile = .storm → p = k.storm)
    (backing : ∀ t e, s.stateOf n = .backing t e → p = k.normal) (moving : (s.stateOf n).moving = true) :
    s.activeProfile? n = some p := by
  unfold State.activeProfile?
  rw [chan]
  cases state : s.stateOf n with
  | running x =>
    refine congrArg some ?_
    cases profile : x.profile with
    | normal => exact (normal x state profile).symm
    | storm => exact (storm x state profile).symm
  | backing x e => exact congrArg some (backing x e state).symm
  | _ => rw [state] at moving; cases moving

theorem driveStart_unit_other {m : Ch} (ne : m ≠ n) : (s.driveStart n d).units[m]'m.isLt = s.units[m]'m.isLt := by
  unfold State.driveStart State.recordIndex
  rw [recordMeasure_units]
  split
  · split
    · rw [setUnit_unit, if_neg ne, setUnit_unit, if_neg ne]
    · rw [setUnit_unit, if_neg ne]
  · rw [setUnit_unit, if_neg ne]

/-- The outputs of the bridge, by the drive (R15, R16). -/
theorem bridge_of {p : ProfileCfg} (profile : s.activeProfile? n = some p) (ms : Nat) :
    s.bridge n ms = (s.units[n]'n.isLt).drive.outputs p.duty ms := by
  unfold State.bridge State.activeDuty
  rw [profile]
  rfl

end

/-- Settles O25: a change of state starts, turns or removes the drive (`setState_starts`, `setState_turns`), a dead time that has
run out starts it, and the outputs are those of the active profile. -/
theorem driveTiming : Obligations.DriveTiming := by
  unfold Obligations.DriveTiming
  refine ⟨fun n d s ended dead => ?_, fun n d d' s t new eq ne => ?_, fun n s ended other => ?_, fun n d r s ramp late => ?_,
    fun n s ended => ?_, fun n r limit s driven active => ?_, fun n s k p chan normal storm backing moving => ?_⟩
  · have ends : exec (.deadTimeEnd n) s = execDeadTimeEnd n s := rfl
    unfold execDeadTimeEnd at ends
    rw [if_pos ended, dead] at ends
    exact ⟨_, ends, driveStart_started s n d, driveStart_kept s n d, driveStart_recs s n d, fun m other => driveStart_unit_other other⟩
  · subst eq
    refine ⟨fun driven idle off => setState_starts ne driven idle off, fun driven old drive last => ?_, fun undriven => ?_⟩
    · rw [setState_turns ne driven old drive last]
      exact ⟨rfl, rfl, rfl, rfl, rfl⟩
    · rw [setState_unit_undriven s n undriven]
      exact driveOff_off _
  · have ends : exec (.deadTimeEnd n) s = execDeadTimeEnd n s := rfl
    unfold execDeadTimeEnd at ends
    rw [if_pos ended] at ends
    refine ends.trans ?_
    split
    · rename_i d dead
      exact absurd dead (other d)
    · rfl
  · show execRampEnd n s = _
    unfold execRampEnd
    rw [ramp]
    exact if_pos late
  · exact if_pos ended
  · show execCurrentConversion n r s = _
    unfold execCurrentConversion
    rw [active]
    cases drive : (s.units[n]'n.isLt).drive.driven? with
    | none => exact absurd drive driven
    | some d =>
      by_cases high : limit < r.val
      · exact congrArg (fun o => (.next (s.setUnit n { s.units[n]'n.isLt with overLimit := o }) : Result))
          ((if_pos high).trans (if_neg (Nat.not_le.mpr high)).symm)
      · exact congrArg (fun o => (.next (s.setUnit n { s.units[n]'n.isLt with overLimit := o }) : Result))
          ((if_neg high).trans (if_pos (Nat.not_lt.mp high)).symm)
  · have profile := activeProfile_of chan normal storm backing moving
    refine ⟨congrArg (Option.map ProfileCfg.limit) profile, fun ms => ?_⟩
    rw [bridge_of profile]
    generalize (s.units[n]'n.isLt).drive = drive
    refine ⟨fun idle => ?_, fun r ramp => ?_, fun r ramp => ?_, fun full => ?_, fun full => ?_⟩
    · cases drive with
      | off | dead d => rfl
      | ramp d r | full d => cases idle
    · rw [ramp]
      rfl
    · rw [ramp]
      rfl
    · rw [full]
      exact congrArg (·, 0) (Nat.mul_comm ..)
    · rw [full]
      exact congrArg (0, ·) (Nat.mul_comm ..)

end Sys2Proof.Machine

namespace Sys2Proof.Machine
set_option Elab.async false

/-! ### Stop moments (R18 to R20, R31) -/

section

variable {s t u : State} {n : Ch}

/-! #### What a stop amounts to -/

/-- The precedence of signals that arrive together (R31; log entry 14). -/
def StopClass.rank : StopClass → Nat
  | .obstruction => 0
  | .learnObstruction => 1
  | .referencingStall => 2
  | .openEndStall => 3
  | .closedEnd => 4
  | .endWithoutFault => 5

/-- Signals that arrive together take the outcome of the first precedence among them. -/
theorem combine_eq {cs : List StopClass} {c : StopClass} (mem : c ∈ cs) (least : ∀ d ∈ cs, c.rank ≤ d.rank) : combine cs = c := by
  have present : cs.contains c = true := List.contains_iff_mem.mpr mem
  have absent (d : StopClass) (lower : d.rank < c.rank) : ¬ cs.contains d = true := fun h =>
    absurd (least d (List.contains_iff_mem.mp h)) (by omega)
  unfold combine
  cases c with
  | obstruction => rw [if_pos present]
  | learnObstruction => rw [if_neg (absent .obstruction (by decide)), if_pos present]
  | referencingStall =>
    rw [if_neg (absent .obstruction (by decide)), if_neg (absent .learnObstruction (by decide)), if_pos present]
  | openEndStall =>
    rw [if_neg (absent .obstruction (by decide)), if_neg (absent .learnObstruction (by decide)),
      if_neg (absent .referencingStall (by decide)), if_pos present]
  | closedEnd =>
    rw [if_neg (absent .obstruction (by decide)), if_neg (absent .learnObstruction (by decide)),
      if_neg (absent .referencingStall (by decide)), if_neg (absent .openEndStall (by decide)), if_pos present]
  | endWithoutFault =>
    rw [if_neg (absent .obstruction (by decide)), if_neg (absent .learnObstruction (by decide)),
      if_neg (absent .referencingStall (by decide)), if_neg (absent .openEndStall (by decide)),
      if_neg (absent .closedEnd (by decide))]

/-- What these signals amount to for a travel of the channel (R31). -/
def State.stopClass (s : State) (n : Ch) (x : Travel) (sigs : List StopSignal) : StopClass :=
  combine (sigs.map (classify x.kind x.direction (s.closed n)))

theorem stopClass_eq {x : Travel} {sigs : List StopSignal} {sig : StopSignal} {c : StopClass} (mem : sig ∈ sigs)
    (own : classify x.kind x.direction (s.closed n) sig = c)
    (least : ∀ other ∈ sigs, c.rank ≤ (classify x.kind x.direction (s.closed n) other).rank) : s.stopClass n x sigs = c := by
  refine combine_eq (List.mem_map.mpr ⟨sig, mem, own⟩) (fun d hd => ?_)
  obtain ⟨other, hother, rfl⟩ := List.mem_map.mp hd
  exact least other hother

theorem stopClass_obstruction {x : Travel} {sigs : List StopSignal} {sig : StopSignal} (mem : sig ∈ sigs)
    (own : classify x.kind x.direction (s.closed n) sig = .obstruction) : s.stopClass n x sigs = .obstruction :=
  stopClass_eq mem own (fun _ _ => Nat.zero_le _)

/-- Where all signals amount to the same. -/
theorem stopClass_all {x : Travel} {sigs : List StopSignal} {c : StopClass} (some : sigs ≠ [])
    (all : ∀ sig ∈ sigs, classify x.kind x.direction (s.closed n) sig = c) : s.stopClass n x sigs = c := by
  obtain ⟨sig, mem⟩ := List.exists_mem_of_ne_nil sigs some
  exact stopClass_eq mem (all sig mem) (fun other hother => by rw [all other hother])

/-! #### The drive is cut -/

theorem cutDrive_kept (s : State) (n : Ch) : (s.cutDrive n).kept = s.kept := removeDrive_kept s n

theorem cutDrive_closed (s : State) (n m : Ch) : (s.cutDrive n).closed m = s.closed m := kept_closed (cutDrive_kept s n) m

theorem driveOff_rest (x : ChanUnit) : x.driveOff.indexSeen = x.indexSeen ∧ x.driveOff.indexRecord = x.indexRecord ∧
    x.driveOff.lastStepTime = x.lastStepTime ∧ x.driveOff.lastStepCount = x.lastStepCount := by
  unfold ChanUnit.driveOff
  split <;> exact ⟨rfl, rfl, rfl, rfl⟩

theorem cutDrive_unit (s : State) (n : Ch) : (s.cutDrive n).units[n] = (s.units[n]'n.isLt).driveOff := by
  unfold State.cutDrive
  rw [setUnit_unit, if_pos rfl]

theorem cutDrive_indexMissing (s : State) (n : Ch) (k : ChanCfg) (x : Travel) : (s.cutDrive n).indexMissing n k x = s.indexMissing n k x := by
  obtain ⟨seen, index, -⟩ := driveOff_rest (s.units[n]'n.isLt)
  unfold State.indexMissing
  simp only [cutDrive_unit, seen, index]

theorem cutDrive_count (s : State) (n m : Ch) : ((s.cutDrive n).units[m]).count = (s.units[m]'m.isLt).count :=
  kept_count (cutDrive_kept s n) m

/-! #### The command of a stop moment -/

theorem stopMoment_of {p o x : Bool} (arises : (s.units[n]'n.isLt).signals p o x ≠ []) :
    s.stopMoment n p o x = (s.cutDrive n).deliverStops n ((s.units[n]'n.isLt).signals p o x) := by
  unfold State.stopMoment
  split
  · rename_i empty
    exact absurd empty arises
  · rfl

theorem signals_some {x : ChanUnit} {p o y : Bool}
    (arises : (p && x.pinchArises || o && x.overcurrentArises || y && x.stallArises) = true) : x.signals p o y ≠ [] := by
  unfold ChanUnit.signals
  cases hp : p && x.pinchArises with
  | true => simp
  | false =>
    cases ho : o && x.overcurrentArises with
    | true => simp
    | false =>
      rw [hp, ho] at arises
      simp at arises
      simp [arises]

/-- A stop moment cuts the drive and delivers its signals, at least one. -/
theorem stopBy_exec {c : Instr} {sigs : List StopSignal} (stop : s.stopBy c n sigs) :
    sigs ≠ [] ∧ exec c s = .next ((s.cutDrive n).deliverStops n sigs).finish := by
  have shape {p o x : Bool} (arises : (s.units[n]'n.isLt).signals p o x ≠ []) {made : Result}
      (ends : made = .next (s.stopMoment n p o x).finish) :
      (s.units[n]'n.isLt).signals p o x ≠ [] ∧
        made = .next ((s.cutDrive n).deliverStops n ((s.units[n]'n.isLt).signals p o x)).finish := by
    rw [stopMoment_of arises] at ends
    exact ⟨arises, ends⟩
  obtain ⟨o, x, rfl, arises, rfl⟩ | ⟨p, x, rfl, arises, rfl⟩ | ⟨p, o, rfl, arises, rfl⟩ := stop
  · exact shape (signals_some (by rw [arises]; simp)) (if_pos arises)
  · exact shape (signals_some (by rw [arises]; simp)) (if_pos arises)
  · exact shape (signals_some (by rw [arises]; simp)) (if_pos arises)

theorem stopBy_running {c : Instr} {sigs : List StopSignal} {k : ChanCfg} {x : Travel} (stop : s.stopBy c n sigs)
    (chan : s.chan? n = some k) (running : s.stateOf n = .running x) :
    exec c s = .next ((s.cutDrive n).takeStop n k x (s.stopClass n x sigs)).finish := by
  have delivered : (s.cutDrive n).deliverStops n sigs = (s.cutDrive n).takeStop n k x (s.stopClass n x sigs) := by
    unfold State.deliverStops State.stopClass
    rw [show (s.cutDrive n).chan? n = some k from chan, show (s.cutDrive n).stateOf n = .running x from running]
    dsimp only
    rw [cutDrive_closed]
  rw [(stopBy_exec stop).2, delivered]

theorem stopBy_backing {c : Instr} {sigs : List StopSignal} {k : ChanCfg} {x : Travel} {e : Nat} (stop : s.stopBy c n sigs)
    (chan : s.chan? n = some k) (backing : s.stateOf n = .backing x e) (ends : .stall ∈ sigs ∨ .overcurrent ∈ sigs) :
    exec c s = .next ((s.cutDrive n).setState n (.paused x 50)).finish := by
  have delivered : (s.cutDrive n).deliverStops n sigs = (s.cutDrive n).setState n (.paused x 50) := by
    unfold State.deliverStops
    rw [show (s.cutDrive n).chan? n = some k from chan, show (s.cutDrive n).stateOf n = .backing x e from backing]
    dsimp only
    rw [if_pos (by simpa using ends)]
    unfold State.enterPause
    rw [show (s.cutDrive n).stateOf n = .backing x e from backing]
  rw [(stopBy_exec stop).2, delivered]

/-! #### What asks for a review -/

theorem checkView_due (s : State) (n : Ch) : (s.checkView n).reviewDue = s.reviewDue ∧ (s.checkView n).evalDue = s.evalDue := by
  unfold State.checkView
  split
  · exact ⟨State.submit_reviewDue _ _ _, State.submit_evalDue _ _ _⟩
  · exact ⟨rfl, rfl⟩

theorem submitDraw_due (s : State) (c : DrawContent) (h : Nat) :
    (s.submitDraw c h).reviewDue = s.reviewDue ∧ (s.submitDraw c h).evalDue = s.evalDue :=
  ⟨State.submit_reviewDue _ _ _, State.submit_evalDue _ _ _⟩

theorem checkLastTravel_due (s : State) (old : ChState) :
    (s.checkLastTravel old).reviewDue = s.reviewDue ∧ (s.checkLastTravel old).evalDue = s.evalDue := by
  obtain ⟨same, -⟩ | ⟨c, -, -, -, made⟩ := checkLastTravel_cases s old
  · rw [same]
    exact ⟨rfl, rfl⟩
  · rw [made]
    exact submitDraw_due _ _ _

theorem askReview_due (deciding : s.deciding = true) : s.askReview.reviewDue = true := by
  unfold State.askReview
  rw [if_pos deciding]

theorem askReview_stays (due : s.reviewDue = true) : s.askReview.reviewDue = true := by
  unfold State.askReview
  split
  · rfl
  · exact due

theorem applyDrive_due (s : State) (n : Ch) (o w : ChState) :
    (s.applyDrive n o w).reviewDue = s.reviewDue ∧ (s.applyDrive n o w).deciding = s.deciding := by
  obtain ⟨us, p, frame⟩ := applyDrive_frame s n o w
  exact ⟨congrArg (·.reviewDue) frame, kept_deciding (applyDrive_kept s n o w)⟩

/-- A review stays due through a change of a channel's state, and a change of the kind of state asks for one (R96). -/
theorem setState_due {new : ChState} (due : s.reviewDue = true ∨ (s.stateOf n).code ≠ new.code ∧ s.deciding = true) :
    (s.setState n new).reviewDue = true := by
  obtain ⟨first, deciding⟩ := applyDrive_due (s.setRec n { s.recs[n]'n.isLt with state := new }) n (s.stateOf n) new
  unfold State.setState
  dsimp only
  rw [(checkLastTravel_due _ _).1, State.judgeLamp_reviewDue, (checkView_due _ _).1]
  generalize (s.setRec n { s.recs[n]'n.isLt with state := new }).applyDrive n (s.stateOf n) new = v at first deciding ⊢
  have left (b : Prop) [Decidable b] : (if b then ({ v with arb := v.arb.leaveRunning n } : State) else v).reviewDue = s.reviewDue ∧
      (if b then ({ v with arb := v.arb.leaveRunning n } : State) else v).deciding = s.deciding := by
    split <;> exact ⟨first, deciding⟩
  obtain ⟨first, deciding⟩ := left (((s.stateOf n).isRunning && !new.isRunning) = true)
  generalize (if ((s.stateOf n).isRunning && !new.isRunning) = true then _ else v) = w at first deciding ⊢
  have asked (b : Prop) [Decidable b] : (if b then w.askEval else w).reviewDue = s.reviewDue ∧
      (if b then w.askEval else w).deciding = s.deciding := by
    split
    · exact ⟨(State.askEval_reviewDue w).trans first, (kept_deciding (askEval_kept w)).trans deciding⟩
    · exact ⟨first, deciding⟩
  obtain ⟨first, deciding⟩ := asked (evalAtChange (s.stateOf n) new = true)
  generalize (if evalAtChange (s.stateOf n) new = true then _ else w) = x at first deciding ⊢
  obtain due | ⟨change, decides⟩ := due
  · split
    · exact askReview_stays (first.trans due)
    · exact first.trans due
  · rw [if_pos change]
    exact askReview_due (deciding.trans decides)

end

end Sys2Proof.Machine

namespace Sys2Proof.Machine
set_option Elab.async false

/-! ### Faults, and states that are left alone -/

section

variable {s t u : State} {n : Ch}

/-! #### A review that will be made -/

/-- A review is due wherever reviews are made (R95, R96). -/
def State.WillReview (s : State) : Prop := s.deciding = true → s.reviewDue = true

theorem State.WillReview.due (h : s.WillReview) : s.deciding = true → s.Judged ∨ s.reviewDue = true := fun deciding => .inr (h deciding)

theorem State.WillReview.of (h : s.WillReview) (deciding : t.deciding = s.deciding) (due : t.reviewDue = s.reviewDue) : t.WillReview :=
  fun decides => due.trans (h (deciding.symm.trans decides))

theorem askReview_willReview (s : State) : s.askReview.WillReview := fun deciding =>
  askReview_due ((kept_deciding (askReview_kept s)).symm.trans deciding)

theorem State.WillReview.askEval (h : s.WillReview) : s.askEval.WillReview :=
  h.of (kept_deciding (askEval_kept s)) (State.askEval_reviewDue s)

theorem State.WillReview.judgeLamp (h : s.WillReview) : s.judgeLamp.WillReview :=
  h.of (kept_deciding (judgeLamp_kept s)) (State.judgeLamp_reviewDue s)

theorem State.WillReview.setState (h : s.WillReview) (n : Ch) (new : ChState) : (s.setState n new).WillReview := fun deciding =>
  setState_due (.inl (h ((kept_deciding (setState_kept s n new)).symm.trans deciding)))

theorem setState_willReview {new : ChState} (change : (s.stateOf n).code ≠ new.code) : (s.setState n new).WillReview := fun deciding =>
  setState_due (.inr ⟨change, (kept_deciding (setState_kept s n new)).symm.trans deciding⟩)

theorem State.WillReview.createTravel (h : s.WillReview) (n : Ch) (x : Travel) : (s.createTravel n x).WillReview := by
  have unit : (s.setUnit n { s.units[n]'n.isLt with illegal := 0, indexRecord := none }).WillReview := h.of rfl rfl
  exact (unit.setState n _).askEval

theorem complete_willReview (s : State) (n : Ch) : (s.complete n).WillReview := (askReview_willReview _).askEval

theorem raiseAt_deciding (s : State) (i : Fin 21) : (s.raiseAt i).deciding = s.deciding := by
  have same := congrArg State.deciding (raiseAt_kept s i)
  exact same

theorem State.WillReview.raiseAt (h : s.WillReview) (i : Fin 21) : (s.raiseAt i).WillReview := by
  refine h.of (raiseAt_deciding s i) ?_
  unfold State.raiseAt State.submitAlarm
  split
  · rfl
  · exact (State.judgeLamp_reviewDue _).trans (State.submit_reviewDue _ _ _)

theorem State.WillReview.beginCondition (h : s.WillReview) (f : FlagId) : (s.beginCondition f).WillReview := by
  have marked : (s.setCondition f true).WillReview := h.of rfl rfl
  unfold State.beginCondition
  split
  · exact h
  · exact marked.raiseAt _

/-! #### Flags over what reviews leave alone -/

theorem raiseAt_same {i : Fin 21} (kept : t.kept = s.kept) : (t.raiseAt i).kept = (s.raiseAt i).kept := by
  have flags : (t.raiseAt i).flags = (s.raiseAt i).flags :=
    Vector.ext fun j hj => (raiseAt_flags t i ⟨j, hj⟩).trans (by rw [kept_flags kept]; exact (raiseAt_flags s i ⟨j, hj⟩).symm)
  rw [raiseAt_kept t, raiseAt_kept s, flags, kept]

theorem beginCondition_same {f : FlagId} (kept : t.kept = s.kept) : (t.beginCondition f).kept = (s.beginCondition f).kept := by
  have marked : (t.setCondition f true).kept = (s.setCondition f true).kept := by
    have same := congrArg (fun u : State => u.setCondition f true) kept
    exact same
  have clear : (t.flag f).condition = (s.flag f).condition := congrArg Flag.condition (flag_of_flags (kept_flags kept) f)
  unfold State.beginCondition
  rw [clear]
  split
  · exact kept
  · exact raiseAt_same marked

/-! #### A FAULTED channel, and a travel set aside in BACKING or PAUSED -/

/-- No review and no evaluation changes the state of a FAULTED channel. -/
theorem Turn.not_faulted {l : Option Ch} {new : ChState} (turn : Turn l s n new) : (s.stateOf n).isFaulted = false := by
  cases turn with
  | openBarred x travel | openAbove x _ _ travel | reclamp x _ _ _ travel | dropLearn x _ _ travel | admitDone x travel
  | admitted x _ travel => exact isFaulted_of_travel travel
  | bandClose x _ _ reaches | bandReference x reaches | retarget x _ _ reaches | reduced _ reaches | lost x reaches =>
    exact isFaulted_of_needReaches reaches
  | maintHold _ _ _ sound => exact sound
  | yield x running | upgrade x _ running =>
    rw [running]
    rfl

theorem Settles.faulted {r : Prop} {l : Option Ch} (h : Settles r l s t) (faulted : (s.stateOf n).isFaulted = true) :
    t.stateOf n = s.stateOf n := by
  refine h.keeps (Q := fun c => c = s.stateOf n) rfl (fun u new _ same turn => ?_) (fun u x _ same created => ?_)
  · have sound := turn.not_faulted
    rw [same, faulted] at sound
    cases sound
  · have sound := created.isFaulted
    rw [same, faulted] at sound
    cases sound

theorem endSession_settles {p : Session} (session : s.port.session = some p) :
    Settles False (some p.channel) ({ s with port := { s.port with session := none, store := none } } : State).judgeLamp s.endSession := by
  unfold State.endSession
  rw [session]
  refine Settles.refl.stopLearn rfl ?_
  unfold State.isLearnChannel State.learnChannel?
  rw [State.judgeLamp_port]
  rfl

theorem abortLearn_faulted (faulted : (s.stateOf n).isFaulted = true) : s.abortLearn.stateOf n = s.stateOf n := by
  unfold State.abortLearn
  split
  · rfl
  · rename_i p session
    split
    · rfl
    · have lamp := stateOf_of_recs (State.judgeLamp_recs
        { s with port := { s.port with session := none, store := none } }) n
      have chain := (endSession_settles session).faulted (n := n)
      rw [lamp] at chain
      exact chain faulted

theorem withTravel_kind {c : ChState} (y : Travel) : (c.withTravel y).isCandidate = c.isCandidate ∧
    (c.withTravel y).isRunning = c.isRunning := by
  cases c <;> exact ⟨rfl, rfl⟩

theorem withTravel_withTravel (c : ChState) (x y : Travel) : (c.withTravel x).withTravel y = c.withTravel y := by
  cases c <;> rfl

/-- A closing travel in BACKING or PAUSED, with what its need may make of it. -/
def ChState.GoneOn (c : ChState) (x : Travel) (new : ChState) : Prop :=
  ∃ y, new = c.withTravel y ∧ y.kind = x.kind ∧ y.retries = x.retries

theorem Turn.goneOn {l : Option Ch} {c new : ChState} {x : Travel} (turn : Turn l u n new) (learn : l ≠ some n)
    (travel : c.travel? = some x) (kind : x.kind = .close ∨ x.kind = .reference) (rests : c.isCandidate = false)
    (stands : c.isRunning = false) (on : c.GoneOn x (u.stateOf n)) : c.GoneOn x new := by
  obtain ⟨y, state, same, retries⟩ := on
  have held : u.travel? n = some y := by
    unfold State.travel?
    rw [state]
    exact travel?_withTravel travel
  have waits : (u.stateOf n).isCandidate = false := by rw [state, (withTravel_kind y).1, rests]
  have runs : (u.stateOf n).isRunning = false := by rw [state, (withTravel_kind y).2, stands]
  have own {z : Travel} (h : u.travel? n = some z) : z.kind = x.kind := by
    rw [← same]
    exact congrArg Travel.kind (Option.some.inj (h.symm.trans held))
  have apart {z : Travel} {k : TravelKind} {p : Prop} (h : u.travel? n = some z) (hk : z.kind = k) (close : k ≠ .close)
      (reference : k ≠ .reference) : p := by
    obtain kind | kind := kind
    · exact absurd (hk.symm.trans ((own h).trans kind)) close
    · exact absurd (hk.symm.trans ((own h).trans kind)) reference
  have replaced {z : Travel} (kind : z.kind = y.kind) (again : z.retries = y.retries) : c.GoneOn x ((u.stateOf n).withTravel z) := by
    refine ⟨z, ?_, kind.trans same, again.trans retries⟩
    rw [state, withTravel_withTravel]
  have moving {p : Prop} {z : Travel} (h : u.stateOf n = .running z) : p := by
    rw [h] at runs
    cases runs
  have bands (b : Band) (o : Origin) {z : Travel} (h : u.travel? n = some z) :
      c.GoneOn x ((u.stateOf n).withTravel { (u.stateOf n).reband z b with origin := o }) := by
    obtain rfl := Option.some.inj (h.symm.trans held)
    exact replaced (reband_kind _ _ _) (reband_same (u.stateOf n) z b).2.1
  cases turn with
  | openBarred z h hk | openAbove z _ _ h hk | reclamp z _ _ _ h hk => exact apart h hk nofun nofun
  | bandClose z b o _ h => exact bands b o h
  | bandReference z _ h => exact bands _ _ h
  | retarget z _ _ _ h _ hk => exact apart h hk nofun nofun
  | reduced _ _ _ _ others => exact apart held (others y held) nofun nofun
  | lost z _ state => obtain state | state := state <;> rw [state] at waits <;> cases waits
  | dropLearn z own => exact absurd own learn
  | maintHold own => exact absurd own learn
  | yield z running => exact moving running
  | upgrade z _ running => exact moving running
  | admitted z _ _ candidate | admitDone z _ candidate =>
    rw [waits] at candidate
    cases candidate

/-- Running to rest leaves a closing travel in BACKING or PAUSED as it is, but for the band and origin that its need gives it. -/
theorem finish_goneOn {x : Travel} (learn : s.isLearnChannel n = false) (travel : s.travel? n = some x)
    (kind : x.kind = .close ∨ x.kind = .reference) (rests : (s.stateOf n).isCandidate = false) (stands : (s.stateOf n).isRunning = false) :
    (s.stateOf n).GoneOn x (s.finish.stateOf n) := by
  have other : s.learnChannel? ≠ some n := fun own => by simp [State.isLearnChannel, own] at learn
  have same : (s.stateOf n).withTravel x = s.stateOf n := by
    unfold State.travel? at travel
    cases state : s.stateOf n <;> rw [state] at travel <;> cases travel <;> rfl
  refine (finish_settles s).keeps ⟨x, same.symm, rfl, rfl⟩ (fun u new _ on turn => turn.goneOn other travel kind rests stands on)
    (fun u y _ on created => ?_)
  obtain ⟨z, state, zkind, -⟩ := on
  have held : u.travel? n = some z := by
    unfold State.travel?
    rw [state]
    exact travel?_withTravel travel
  exact (created.none_of_closing held (zkind ▸ kind)).elim

/-! #### The drive of the states (R15, R25) -/

/-- The drive is energised, or waits in DEAD, in just the direction that the channel's state asks for. -/
def State.Driven (s : State) (n : Ch) : Prop := (s.units[n]'n.isLt).drive.dir? = (s.stateOf n).driveDir?

theorem State.Driven.frame (h : s.Driven n) (unit : t.units[n]'n.isLt = s.units[n]'n.isLt) (state : t.stateOf n = s.stateOf n) : t.Driven n := by
  unfold State.Driven
  rw [unit, state]
  exact h

theorem setState_driven {new : ChState} (driven : s.Driven n ∨ new.driveDir? = none ∨ (s.stateOf n).isRunning ≠ new.isRunning) :
    (s.setState n new).Driven n := by
  unfold State.Driven
  rw [stateOf_setState]
  cases dir : new.driveDir? with
  | none =>
    rw [setState_unit_undriven s n dir, driveOff_drive]
    rfl
  | some d =>
    rw [setState_unit]
    unfold State.applyDrive
    rw [dir]
    cases old : (s.stateOf n).driveDir? with
    | none => exact energise_dir _ _ _
    | some d' =>
      dsimp only
      split
      · rename_i same
        simp only [Bool.and_eq_true, decide_eq_true_eq] at same
        obtain driven | none | change := driven
        · unfold State.Driven at driven
          rw [old, same.1] at driven
          exact driven
        · rw [dir] at none
          cases none
        · exact absurd same.2 change
      · exact energise_dir _ _ _

theorem Settles.driven {r : Prop} {l : Option Ch} (h : Settles r l s t) (driven : s.Driven n) : t.Driven n := by
  induction h with
  | refl => exact driven
  | @turn u m new _ _ ih =>
    by_cases same : n = m
    · subst same
      exact setState_driven (.inl ih)
    · exact ih.frame (setState_unit_ne u m n new same) (stateOf_setState_ne u m n new same)
  | @create u m x _ _ ih =>
    have started : (u.setUnit m { u.units[m]'m.isLt with illegal := 0, indexRecord := none }).Driven n := by
      unfold State.Driven
      rw [setUnit_unit]
      by_cases same : n = m
      · subst same
        rw [if_pos rfl]
        exact ih
      · rw [if_neg same]
        exact ih
    unfold State.createTravel
    refine State.Driven.frame (s := (u.setUnit m { u.units[m]'m.isLt with illegal := 0, indexRecord := none }).setState m (.waiting x)) ?_
      (by rw [State.askEval_units]) (stateOf_askEval _ n)
    by_cases same : n = m
    · subst same
      exact setState_driven (.inl started)
    · exact started.frame (setState_unit_ne _ m n _ same) (stateOf_setState_ne _ m n _ same)
  | ended _ _ _ _ _ ih => exact ih.frame (by rw [State.judgeLamp_units]) (stateOf_of_recs (State.judgeLamp_recs _) n)
  | marks _ _ _ ih | review _ _ _ _ _ ih | aside _ _ _ ih => exact ih
  | draw _ _ _ ih => exact ih.frame (by simp [State.submitDraw]) (by simp [State.stateOf, State.submitDraw])

theorem finish_driven (driven : s.Driven n) : s.finish.Driven n := (finish_settles s).driven driven

theorem State.Driven.off (h : s.Driven n) (undriven : (s.stateOf n).driveDir? = none) : (s.units[n]'n.isLt).drive = .off := by
  unfold State.Driven at h
  rw [undriven] at h
  cases drive : (s.units[n]'n.isLt).drive with
  | off => rfl
  | _ =>
    rw [drive] at h
    cases h

/-! #### An encoder fault (R14, R37) -/

theorem State.EncoderFaulted.rest (h : s.EncoderFaulted t n) (kept : u.kept = t.kept) (state : u.stateOf n = t.stateOf n) :
    s.EncoderFaulted u n := by
  obtain ⟨ref, travel, sound, faulted, flag⟩ := h
  have flags := kept_flags kept
  refine ⟨(kept_referenced kept n).trans ref, (congrArg ChState.travel? state).trans travel, fun h => state.trans (sound h),
    fun o e h => ?_, fun h => ?_⟩
  · obtain ⟨stays, same⟩ := faulted o e h
    exact ⟨state.trans stays, fun he => flags.trans (same he)⟩
  · rw [flag_of_flags flags]
    exact flag h

theorem State.EncoderFaulted.from_same (h : u.EncoderFaulted t n) (state : u.stateOf n = s.stateOf n) (flags : u.flags = s.flags) :
    s.EncoderFaulted t n := by
  unfold State.EncoderFaulted at h ⊢
  rwa [state, flags, flag_of_flags flags] at h

/-- The state to which an encoder fault takes a channel, and the flag it raises. -/
def State.encoderFaulted (s : State) (n : Ch) : State :=
  match s.stateOf n with
  | .faulted o true => s.setState n (.faulted o true)
  | .faulted o false => (s.setState n (.faulted o true)).beginCondition (.encoder n)
  | _ => (s.setState n (.faulted false true)).beginCondition (.encoder n)

theorem encoderFault_eq (s : State) (n : Ch) : s.encoderFault n =
    (if ((s.setReferenced n false).encoderFaulted n).isLearnChannel n then ((s.setReferenced n false).encoderFaulted n).abortLearn
      else (s.setReferenced n false).encoderFaulted n) := rfl

theorem faulted_begun (o : Bool) (unref : (s.recs[n]'n.isLt).referenced = false) :
    (((s.setState n (.faulted o true)).beginCondition (.encoder n)).recs[n]).referenced = false ∧
      ((s.setState n (.faulted o true)).beginCondition (.encoder n)).stateOf n = .faulted o true ∧
      (((s.setState n (.faulted o true)).beginCondition (.encoder n)).flag (.encoder n)).condition = true ∧
      ((s.flag (.encoder n)).condition = false →
        (((s.setState n (.faulted o true)).beginCondition (.encoder n)).flag (.encoder n)).raised = true) := by
  have kept := setState_kept s n (.faulted o true)
  have state := stateOf_setState s n (.faulted o true)
  generalize s.setState n (.faulted o true) = v at kept state ⊢
  rw [← flag_of_flags (kept_flags kept)]
  exact ⟨by rw [beginCondition_recs, kept_referenced kept n, unref], (stateOf_of_recs (beginCondition_recs v _) n).trans state,
    beginCondition_flag_self v _⟩

theorem encoderFaulted_faulted (unref : (s.recs[n]'n.isLt).referenced = false) : s.EncoderFaulted (s.encoderFaulted n) n := by
  have travel (v : State) {o : Bool} (state : v.stateOf n = .faulted o true) : v.travel? n = none := congrArg ChState.travel? state
  unfold State.encoderFaulted
  split
  · rename_i o was
    have kept := setState_kept s n (.faulted o true)
    have state := stateOf_setState s n (.faulted o true)
    refine ⟨(kept_referenced kept n).trans unref, travel _ state, fun sound => absurd was (sound _ _), fun o' e h => ?_,
      fun sound => absurd was (sound _)⟩
    cases was.symm.trans h
    exact ⟨state, fun _ => kept_flags kept⟩
  · rename_i o was
    obtain ⟨ref, state, flag⟩ := faulted_begun o unref
    refine ⟨ref, travel _ state, fun sound => absurd was (sound _ _), fun o' e h => ?_, fun _ => flag⟩
    cases was.symm.trans h
    exact ⟨state, fun h => nomatch h⟩
  · rename_i not_encoder not_faulted
    obtain ⟨ref, state, flag⟩ := faulted_begun false unref
    refine ⟨ref, travel _ state, fun _ => state, fun o e h => ?_, fun _ => flag⟩
    cases e with
    | true => exact absurd h (not_encoder o)
    | false => exact absurd h (not_faulted o)

theorem finish_session_none (session : s.port.session = none) : s.finish.port.session = none := by
  cases after : s.finish.port.session with
  | none => rfl
  | some p =>
    obtain ⟨q, hq, -⟩ := (finish_settles s).session_stem after
    rw [session] at hq
    cases hq

theorem abortLearn_session_none {p : Session} (session : s.port.session = some p) (phase : p.phase ≠ .storing) :
    s.abortLearn.port.session = none := by
  unfold State.abortLearn
  rw [session]
  dsimp only
  rw [if_neg phase]
  exact (endSession_port session).1

/-- What an encoder fault and running to rest after it leave (R14, R37). -/
theorem encoderFault_faulted (s : State) (n : Ch) : s.EncoderFaulted (s.encoderFault n).finish n := by
  have unref : ((s.setReferenced n false).recs[n]).referenced = false := by
    rw [State.setReferenced]
    split
    · assumption
    · simp [State.setRec]
  have first := (encoderFaulted_faulted unref).from_same (setReferenced_stateOf s n n false) (setReferenced_flags s n false)
  rw [encoderFault_eq]
  generalize (s.setReferenced n false).encoderFaulted n = v at first ⊢
  have faulted : (v.stateOf n).isFaulted = true := by
    by_cases sound : ∀ o e, s.stateOf n ≠ .faulted o e
    · rw [first.2.2.1 sound]
      rfl
    · simp only [ne_eq, not_forall, not_not] at sound
      obtain ⟨o, e, state⟩ := sound
      rw [(first.2.2.2.1 o e state).1]
      rfl
  have rests {w : State} (kept : w.kept = v.kept) (state : w.stateOf n = v.stateOf n) : s.EncoderFaulted w.finish n :=
    first.rest ((finish_kept w).trans kept) (((finish_settles w).faulted (by rw [state, faulted])).trans state)
  split
  · exact rests (abortLearn_kept v) (abortLearn_faulted faulted)
  · exact rests rfl rfl

/-- An encoder fault leaves every count. -/
theorem encoderFault_count (s : State) (n m : Ch) : ((s.encoderFault n).finish.units[m]).count = (s.units[m]'m.isLt).count :=
  ((Moves.start .plain s).encoderFault n).rest.shifts.count_eq m id id

theorem Port.SameStem.stands {p q : Port} (h : p.SameStem q) {y : Session} (session : q.session = some y) :
    ∃ x, p.session = some x ∧ x.stem = y.stem := by
  obtain ⟨z, rfl, hz⟩ := h
  rw [session] at hz
  cases z with
  | none => cases hz
  | some x => exact ⟨x, rfl, Option.some.inj hz⟩

theorem encoderFaulted_port (s : State) (n : Ch) : (s.encoderFaulted n).port.SameStem s.port := by
  unfold State.encoderFaulted
  split
  · exact setState_port _ _ _
  · rw [beginCondition_port]
    exact setState_port _ _ _
  · rw [beginCondition_port]
    exact setState_port _ _ _

/-- An encoder fault of the learn channel ends a session that is not storing (R202). -/
theorem encoderFault_session {p : Session} (session : s.port.session = some p) (own : p.channel = n) (phase : p.phase ≠ .storing) :
    (s.encoderFault n).finish.port.session = none := by
  have stem := encoderFaulted_port (s.setReferenced n false) n
  rw [setReferenced_port] at stem
  obtain ⟨q, stands, same⟩ := stem.stands session
  have learn : ((s.setReferenced n false).encoderFaulted n).isLearnChannel n = true := by
    unfold State.isLearnChannel State.learnChannel?
    rw [stands]
    simp [Session.stem_channel same, own]
  refine finish_session_none ?_
  rw [encoderFault_eq, if_pos learn]
  exact abortLearn_session_none stands (by rw [Session.stem_phase same]; exact phase)

end

end Sys2Proof.Machine

namespace Sys2Proof.Machine
set_option Elab.async false

/-! ### What stops leave of a travel -/

section

variable {s t u : State} {n : Ch}

/-! #### Counts and marks over what reviews leave alone -/

theorem setUnit_over {x y : ChanUnit} (kept : t.kept = s.kept) (same : x.sensed = y.sensed) : (t.setUnit n x).kept = (s.setUnit n y).kept := by
  have eq (v : State) (z : ChanUnit) : (v.setUnit n z).kept = { v.kept with units := v.kept.units.set n z.sensed } := by
    unfold State.kept State.setUnit
    simp [Vector.map_set]
  rw [eq, eq, kept, same]

theorem setRec_over {x y : ChanRec} (kept : t.kept = s.kept) (same : x.marks = y.marks) : (t.setRec n x).kept = (s.setRec n y).kept := by
  have eq (v : State) (z : ChanRec) : (v.setRec n z).kept = { v.kept with recs := v.kept.recs.set n z.marks } := by
    unfold State.kept State.setRec
    simp [Vector.map_set]
  rw [eq, eq, kept, same]

/-- A setting of the count after the drive is cut. -/
theorem cutDrive_setCount (s : State) (n : Ch) (c : Nat) :
    ((s.cutDrive n).setCount n c).kept = (s.setUnit n { s.units[n]'n.isLt with count := c }).kept := by
  unfold State.setCount
  rw [judgeLamp_kept]
  refine setUnit_over (cutDrive_kept s n) ?_
  rw [cutDrive_unit]
  exact congrArg (fun x : ChanUnit => ({ x with count := c } : ChanUnit)) (driveOff_sensed (s.units[n]'n.isLt))

/-- The reference taken over a unit that has been set (R12). -/
theorem referenced_over {x : ChanUnit} (kept : t.kept = (s.setUnit n x).kept) :
    (t.setReferenced n true).kept = ((s.setUnit n x).setRec n { s.recs[n]'n.isLt with referenced := true }).kept := by
  rw [setReferenced_kept]
  refine setRec_over kept ?_
  have marks := kept_marks kept n
  have taken := congrArg (fun x : ChanRec => ({ x with referenced := true } : ChanRec)) marks
  exact taken

/-! #### A travel that has completed -/

/-- A closed channel at rest stays so: no need makes a travel of it (R91). -/
theorem finish_closed (due : s.deciding = true → s.Judged ∨ s.reviewDue = true) (learn : s.isLearnChannel n = false)
    (closed : s.closed n = true) (still : s.stateOf n = .still) : s.finish.stateOf n = .still := by
  have other : s.learnChannel? ≠ some n := fun own => by simp [State.isLearnChannel, own] at learn
  have fitted : s.fitted n = true := by
    unfold State.closed at closed
    unfold State.fitted
    cases chan : s.chan? n with
    | none => rw [chan] at closed; cases closed
    | some k => rfl
  refine finish_channel (Q := fun c => c = .still) due still (fun u new _ _ _ _ state turn => ?_) (fun u x kept judged deciding _ _ created => ?_)
  · exact (turn.idle (congrArg ChState.travel? state) other).1
  · have none := needOf_closed (n := n) judged deciding ((fitted_of_kept kept n).trans fitted) ((kept_closed kept n).trans closed)
    cases created with
    | close b o _ _ need =>
      rw [none] at need
      cases need
    | reference _ _ need => exact absurd none need
    | reduce y d _ _ need =>
      rw [none] at need
      cases need

theorem completed_closed (learn : s.isLearnChannel n = false) (closed : s.closed n = true) : (s.complete n).finish.stateOf n = .still := by
  refine finish_closed (complete_willReview s n).due ?_ ((kept_closed (complete_kept s n) n).trans closed) (stateOf_complete s n)
  have same : (s.complete n).isLearnChannel n = s.isLearnChannel n := by
    unfold State.complete State.isLearnChannel State.learnChannel?
    rw [State.askEval_port, State.askReview_port]
    exact setState_isLearnChannel s n n .still
  exact same.trans learn

theorem completeTravel_plain {x : Travel} (plain : x.kind.isLearn = false) : s.completeTravel n x = s.complete n := by
  unfold State.completeTravel
  rw [plain]
  rfl

theorem isLearnChannel_of_port (port : t.port = s.port) (m : Ch) : t.isLearnChannel m = s.isLearnChannel m := by
  unfold State.isLearnChannel State.learnChannel?
  rw [port]

theorem isLearnChannel_of_none (session : s.port.session = none) (m : Ch) : s.isLearnChannel m = false := by
  unfold State.isLearnChannel State.learnChannel?
  rw [session]
  rfl

/-- The count of a channel that is set to C is in the closed-end zone where the channel is referenced. -/
theorem closed_of_kept {c : Nat} {k : ChanCfg} (kept : t.kept = (s.setUnit n { s.units[n]'n.isLt with count := c }).kept)
    (chan : s.chan? n = some k) (ref : (s.recs[n]'n.isLt).referenced = true) (low : c ≤ k.c + k.closeTol) : t.closed n = true := by
  rw [kept_closed kept n]
  unfold State.closed
  rw [show (s.setUnit n { s.units[n]'n.isLt with count := c }).chan? n = some k from chan]
  dsimp only
  rw [setUnit_unit, if_pos rfl, State.setUnit_recs, ref]
  simpa using low

theorem closed_iff {k : ChanCfg} (chan : s.chan? n = some k) : s.closed n = true ↔
    (s.recs[n]'n.isLt).referenced = true ∧ (s.units[n]'n.isLt).count ≤ k.c + k.closeTol := by
  unfold State.closed
  rw [chan]
  simp

/-! #### The stops at the closed end -/

theorem indexMissing_iff (k : ChanCfg) (x : Travel) : s.indexMissing n k x = true ↔
    k.indexMode = .reload ∧ (x.kind = .close ∨ x.kind = .learnClose ∨ x.kind = .learnTimed) ∧ (s.units[n]'n.isLt).indexSeen = false ∧
      (s.units[n]'n.isLt).indexRecord = some { wasReferenced := true, wasAbove := true } := by
  have kinds : x.kind.indexChecked = true ↔ x.kind = .close ∨ x.kind = .learnClose ∨ x.kind = .learnTimed := by
    cases x.kind <;> simp [TravelKind.indexChecked]
  unfold State.indexMissing
  rw [Bool.and_eq_true, Bool.and_eq_true, Bool.and_eq_true, decide_eq_true_iff, kinds, and_assoc, and_assoc]
  refine and_congr Iff.rfl (and_congr Iff.rfl (and_congr (by simp) ?_))
  cases record : (s.units[n]'n.isLt).indexRecord with
  | none => simp
  | some r =>
    obtain ⟨a, b⟩ := r
    cases a <;> cases b <;> simp

/-- A referencing stall of a REFERENCE travel (R12, R29). -/
theorem referencingStall_rests {k : ChanCfg} {x : Travel} (chan : s.chan? n = some k) (session : s.port.session = none)
    (kind : x.kind = .reference) : ((s.cutDrive n).referencingStall n k x).finish.stateOf n = .still ∧
      ((s.cutDrive n).referencingStall n k x).finish.kept =
        ((s.setUnit n { s.units[n]'n.isLt with count := k.c }).setRec n { s.recs[n]'n.isLt with referenced := true }).kept := by
  have kept := referenced_over (cutDrive_setCount s n k.c)
  have port : (((s.cutDrive n).setCount n k.c).setReferenced n true).port = s.port :=
    (setReferenced_port _ n true).trans (setCount_port _ n k.c)
  unfold State.referencingStall
  rw [completeTravel_plain (by rw [kind]; rfl)]
  generalize ((s.cutDrive n).setCount n k.c).setReferenced n true = w at kept port ⊢
  have closed : w.closed n = true := by
    rw [kept_closed kept n]
    refine (closed_iff (k := k) (by exact chan)).mpr ⟨?_, ?_⟩
    · rw [setRec_rec, if_pos rfl]
    · rw [State.setRec_units, setUnit_unit, if_pos rfl]
      exact Nat.le_add_right _ _
  exact ⟨completed_closed ((isLearnChannel_of_port port n).trans (isLearnChannel_of_none session n)) closed,
    (finish_kept _).trans ((complete_kept w n).trans kept)⟩

/-- A closed-end stop of a CLOSE travel (R12, R29). -/
theorem closedEndStop_rests {k : ChanCfg} {x : Travel} (chan : s.chan? n = some k) (session : s.port.session = none)
    (kind : x.kind = .close) (closed : s.closed n = true) (met : s.indexMissing n k x = false) :
    ((s.cutDrive n).closedEndStop n k x).finish.stateOf n = .still ∧ ((s.cutDrive n).closedEndStop n k x).finish.kept =
      (s.setUnit n { s.units[n]'n.isLt with count := if k.indexMode = .off then k.c else (s.units[n]'n.isLt).count }).kept := by
  have rests (w : State) (port : w.port = s.port) {c : Nat} (low : c ≤ k.c + k.closeTol)
      (kept : w.kept = (s.setUnit n { s.units[n]'n.isLt with count := c }).kept) :
      (w.complete n).finish.stateOf n = .still ∧ (w.complete n).finish.kept = (s.setUnit n { s.units[n]'n.isLt with count := c }).kept :=
    ⟨completed_closed ((isLearnChannel_of_port port n).trans (isLearnChannel_of_none session n))
      (closed_of_kept kept chan ((closed_iff chan).mp closed).1 low), (finish_kept _).trans ((complete_kept w n).trans kept)⟩
  have plain (w : State) : w.completeTravel n x = w.complete n := completeTravel_plain (by rw [kind]; rfl)
  have checked : x.kind.indexChecked = true := by rw [kind]; rfl
  have made : (s.cutDrive n).closedEndStop n k x =
      if k.indexMode = .off then ((s.cutDrive n).setCount n k.c).complete n else (s.cutDrive n).complete n := by
    unfold State.closedEndStop
    rw [cutDrive_indexMissing, met, plain, plain, checked, Bool.and_true, if_neg Bool.false_ne_true]
    simp only [decide_eq_true_eq]
  rw [made]
  by_cases off : k.indexMode = .off
  · rw [if_pos off, if_pos off]
    exact rests ((s.cutDrive n).setCount n k.c) (setCount_port _ n k.c) (c := k.c) (Nat.le_add_right _ _) (cutDrive_setCount s n k.c)
  · rw [if_neg off, if_neg off]
    refine rests (s.cutDrive n) rfl (c := (s.units[n]'n.isLt).count) ((closed_iff chan).mp closed).2 ((cutDrive_kept s n).trans ?_)
    rw [setUnit_self]

/-- Settles O28: the three stops at the closed end. -/
theorem stopsAtTheClosedEnd : Obligations.StopsAtTheClosedEnd := by
  unfold Obligations.StopsAtTheClosedEnd
  refine ⟨fun s n k t => indexMissing_iff k t, fun c n sigs s k t stop chan running unpinched => ⟨fun session kind calm => ?_,
    fun session kind closed met => ?_, fun closed first missing => ?_⟩⟩
  · have class_ : s.stopClass n t sigs = .referencingStall := by
      refine stopClass_all (stopBy_exec stop).1 (fun sig mem => ?_)
      rw [kind]
      cases sig with
      | stall => rfl
      | overcurrent => exact absurd mem calm
      | pinch => exact absurd mem unpinched
    obtain ⟨still, kept⟩ := referencingStall_rests chan session kind
    exact ⟨_, (stopBy_running stop chan running).trans (by rw [class_]; rfl), still, kept⟩
  · have class_ : s.stopClass n t sigs = .closedEnd := by
      refine stopClass_all (stopBy_exec stop).1 (fun sig mem => ?_)
      rw [kind, closed]
      cases sig with
      | stall | overcurrent => rfl
      | pinch => exact absurd mem unpinched
    obtain ⟨still, kept⟩ := closedEndStop_rests chan session kind closed met
    exact ⟨_, (stopBy_running stop chan running).trans (by rw [class_]; rfl), still, kept⟩
  · have class_ : s.stopClass n t sigs = .closedEnd := by
      obtain ⟨-, kind, -⟩ := (indexMissing_iff k t).mp missing
      refine stopClass_all (stopBy_exec stop).1 (fun sig mem => ?_)
      rw [closed]
      obtain kind | kind | kind := kind
      all_goals rw [kind]
      all_goals cases sig with
      | overcurrent => rfl
      | pinch => exact absurd mem unpinched
      | stall => first | rfl | exact absurd mem (first kind)
    have made : (s.cutDrive n).takeStop n k t .closedEnd = (s.cutDrive n).encoderFault n :=
      if_pos ((cutDrive_indexMissing s n k t).trans missing)
    have faulted : s.EncoderFaulted ((s.cutDrive n).encoderFault n).finish n := (encoderFault_faulted _ n).from_same rfl rfl
    refine ⟨_, (stopBy_running stop chan running).trans (by rw [class_, made]), faulted,
      (encoderFault_count _ n n).trans (cutDrive_count s n n), fun p session own phase => ?_⟩
    exact encoderFault_session (s := s.cutDrive n) session own phase

end

end Sys2Proof.Machine

namespace Sys2Proof.Machine
set_option Elab.async false

/-! ### Stops of OPEN and REDUCE travels (R31, R36) -/

section

variable {s t u : State} {n : Ch}

theorem combine_mem {cs : List StopClass} (some : cs ≠ []) : combine cs ∈ cs := by
  unfold combine
  split
  · exact List.contains_iff_mem.mp ‹_›
  · split
    · exact List.contains_iff_mem.mp ‹_›
    · split
      · exact List.contains_iff_mem.mp ‹_›
      · split
        · exact List.contains_iff_mem.mp ‹_›
        · split
          · exact List.contains_iff_mem.mp ‹_›
          · obtain ⟨d, mem⟩ := List.exists_mem_of_ne_nil cs some
            have held := List.contains_iff_mem.mpr mem
            cases d with
            | endWithoutFault => exact mem
            | _ => contradiction

/-- A stop amounts to what one of its signals does. -/
theorem stopClass_mem {x : Travel} {sigs : List StopSignal} (some : sigs ≠ []) :
    ∃ sig ∈ sigs, classify x.kind x.direction (s.closed n) sig = s.stopClass n x sigs :=
  List.mem_map.mp (combine_mem (by simpa using some))

/-- A travel that the need in force has begun anew, if there is one. -/
def ChState.Fresh (c : ChState) : Prop := ∀ y, c.travel? = some y → y.kind ≠ .opn ∧ y.origin.isNeed = true ∧ y.retries = 0

theorem Turn.fresh {l : Option Ch} {new : ChState} (turn : Turn l u n new) (judged : u.Judged) (fresh : (u.stateOf n).Fresh) : new.Fresh := by
  have bare {c : ChState} (none : c.travel? = none) : c.Fresh := fun y h => by rw [none] at h; cases h
  have keeps {x y : Travel} (travel : u.travel? n = some x) (kind : y.kind = x.kind)
      (origin : x.origin.isNeed = true → y.origin.isNeed = true) (retries : y.retries = x.retries) {c : ChState}
      (new : c.travel? = some y) : c.Fresh := by
    intro z hz
    obtain rfl := Option.some.inj (new.symm.trans hz)
    obtain ⟨opn, isNeed, none⟩ := fresh x travel
    exact ⟨kind ▸ opn, origin isNeed, retries.trans none⟩
  cases turn with
  | openBarred | openAbove | reduced | lost | admitDone | dropLearn | maintHold => exact bare rfl
  | reclamp x k y d ht => exact keeps (y := { x with target := _, direction := d }) ht rfl id rfl (travel?_withTravel ht)
  | bandClose x b o reaches ht _ _ need =>
    exact keeps (y := { (u.stateOf n).reband x b with origin := o }) ht (reband_kind _ x b) (fun _ => judged.need_origin reaches need)
      (reband_same _ x b).2.1 (travel?_withTravel ht)
  | bandReference x reaches ht =>
    exact keeps (y := { (u.stateOf n).reband x (referenceBand (u.needOf n)).1 with origin := (referenceBand (u.needOf n)).2 }) ht
      (reband_kind _ x _) (fun _ => referenceBand_origin judged reaches) (reband_same _ x _).2.1 (travel?_withTravel ht)
  | retarget x y d _ ht => exact keeps (y := { x with target := _, direction := d }) ht rfl id rfl (travel?_withTravel ht)
  | yield x running =>
    have ht : u.travel? n = some x := congrArg ChState.travel? running
    exact keeps ht rfl id rfl rfl
  | upgrade x _ running =>
    have ht : u.travel? n = some x := congrArg ChState.travel? running
    exact keeps (y := { x with profile := .storm }) ht rfl id rfl rfl
  | admitted x _ ht => exact keeps ht (y := { x with admission := some u.now }) rfl id rfl rfl

theorem Created.fresh {y : Travel} (created : Created u n y) (judged : u.Judged) : (ChState.waiting y).Fresh := by
  obtain none | ⟨-, z, hz, new⟩ := created.begun judged
  · cases none
  · intro w hw
    obtain rfl := Option.some.inj (hz.symm.trans hw)
    exact new

/-- After a travel has been discarded, the channel has at most a travel that its need has begun. -/
theorem finish_fresh (due : s.deciding = true → s.Judged ∨ s.reviewDue = true) (fresh : (s.stateOf n).Fresh) : (s.finish.stateOf n).Fresh :=
  finish_channel (Q := ChState.Fresh) due fresh (fun _ _ _ judged _ _ fresh turn => turn.fresh judged fresh)
    (fun _ _ _ judged _ _ _ created => created.fresh judged)

theorem raise_recs (s : State) (f : FlagId) : (s.raise f).recs = s.recs := raiseAt_recs s _

theorem raise_port (s : State) (f : FlagId) : (s.raise f).port = s.port := raiseAt_port s _

theorem toStill_learn (s : State) (n m : Ch) : (s.toStill n).isLearnChannel m = s.isLearnChannel m := setState_isLearnChannel s n m .still

theorem complete_learn (s : State) (n m : Ch) : (s.complete n).isLearnChannel m = s.isLearnChannel m := by
  refine (isLearnChannel_of_port ?_ m).trans (toStill_learn s n m)
  unfold State.complete
  rw [State.askEval_port, State.askReview_port]

/-- An obstruction of an OPEN or REDUCE travel (R36). -/
theorem obstructedOpening_rests {x : Travel} (running : s.stateOf n = .running x) {t : State}
    (ends : t = (((s.cutDrive n).toStill n).raise (.obstruction n)).finish) :
    t.kept = (s.raise (.obstruction n)).kept ∧ (s.isLearnChannel n = false → t.TravelEnded n) ∧ (t.stateOf n).Fresh := by
  have kept : ((s.cutDrive n).toStill n).kept = s.kept := (toStill_kept _ n).trans (cutDrive_kept s n)
  have learn : ((s.cutDrive n).toStill n).isLearnChannel n = s.isLearnChannel n := toStill_learn _ n n
  have still := stateOf_toStill (s.cutDrive n) n
  have review : ((s.cutDrive n).toStill n).WillReview := setState_willReview (by
    rw [show (s.cutDrive n).stateOf n = .running x from running]
    nofun)
  generalize (s.cutDrive n).toStill n = v at *
  have stands : (v.raise (.obstruction n)).stateOf n = .still := (stateOf_of_recs (raise_recs v _) n).trans still
  have due := (review.raiseAt (FlagId.obstruction n).index).due
  rw [ends]
  refine ⟨(finish_kept _).trans (raiseAt_same kept), fun other => ?_, ?_⟩
  · exact finish_still due ((isLearnChannel_of_port (raise_port v _) n).trans (learn.trans other)) stands
  · exact finish_fresh due (by rw [stands]; exact fun y h => nomatch h)

/-- Settles O27: an obstruction discards the travel and raises the flag, any other stop ends it. -/
theorem obstructionOfOpening : Obligations.ObstructionOfOpening := by
  unfold Obligations.ObstructionOfOpening
  intro c n sigs s k t stop chan running kind
  have plain : t.kind.isLearn = false ∧ t.kind.indexChecked = false := by
    obtain kind | kind := kind <;> rw [kind] <;> exact ⟨rfl, rfl⟩
  have stops {sig : StopSignal} (obstructs : sig = .pinch ∨ sig = .overcurrent ∧ (t.direction = .opening ∨ s.closed n = false)) :
      classify t.kind t.direction (s.closed n) sig = .obstruction := by
    obtain rfl | ⟨rfl, way | away⟩ := obstructs
    · obtain kind | kind := kind <;> rw [kind] <;> cases t.direction <;> rfl
    · rw [way]
      obtain kind | kind := kind <;> rw [kind] <;> rfl
    · rw [away]
      obtain kind | kind := kind <;> rw [kind] <;> cases t.direction <;> rfl
  refine ⟨fun obstructs => ?_, fun free => ?_⟩
  · have class_ : s.stopClass n t sigs = .obstruction := by
      obtain mem | ⟨mem, zone⟩ := obstructs
      · exact stopClass_obstruction mem (stops (.inl rfl))
      · exact stopClass_obstruction mem (stops (.inr ⟨rfl, zone⟩))
    have made : (s.cutDrive n).takeStop n k t .obstruction = ((s.cutDrive n).toStill n).raise (.obstruction n) := by
      show (s.cutDrive n).obstructed n k t = _
      unfold State.obstructed
      obtain kind | kind := kind <;> rw [kind]
    obtain ⟨kept, ended, fresh⟩ := obstructedOpening_rests running (t := ((s.cutDrive n).takeStop n k t .obstruction).finish)
      (congrArg State.finish made)
    have flag := raise_flag s (.obstruction n) (.obstruction n)
    rw [if_pos rfl, ← flag_of_flags (kept_flags kept)] at flag
    exact ⟨_, (stopBy_running stop chan running).trans (by rw [class_]), kept, by rw [flag], by rw [flag], ended, fresh⟩
  · have rests (w : State) (port : w.isLearnChannel n = s.isLearnChannel n) (review : w.WillReview) (still : w.stateOf n = .still)
        (kept : w.kept = s.kept) : w.finish.kept = s.kept ∧ (s.isLearnChannel n = false → w.finish.TravelEnded n) :=
      ⟨(finish_kept w).trans kept, fun other => finish_still review.due (port.trans other) still⟩
    have class_ : s.stopClass n t sigs = .closedEnd ∨ s.stopClass n t sigs = .endWithoutFault := by
      obtain ⟨sig, mem, own⟩ := stopClass_mem (s := s) (n := n) (x := t) (stopBy_exec stop).1
      rw [← own]
      cases sig with
      | pinch => exact absurd (.inl mem) free
      | overcurrent =>
        have zone : ¬ (t.direction = .opening ∨ s.closed n = false) := fun h => free (.inr ⟨mem, h⟩)
        have closing : t.direction = .closing := by
          cases way : t.direction with
          | opening => exact absurd (.inl way) zone
          | closing => rfl
        have closed : s.closed n = true := by
          cases away : s.closed n with
          | false => exact absurd (.inr away) zone
          | true => rfl
        rw [closing, closed]
        obtain kind | kind := kind <;> rw [kind] <;> exact .inl rfl
      | stall =>
        have either : classify .opn t.direction (s.closed n) .stall = .closedEnd ∨
            classify .opn t.direction (s.closed n) .stall = .endWithoutFault := by
          cases t.direction with
          | opening => exact .inr rfl
          | closing => cases s.closed n with
            | true => exact .inl rfl
            | false => exact .inr rfl
        obtain kind | kind := kind <;> rw [kind] <;> exact either
    have still : ((s.cutDrive n).toStill n).WillReview := setState_willReview (by
      rw [show (s.cutDrive n).stateOf n = .running t from running]
      nofun)
    obtain class_ | class_ := class_
    · have made : (s.cutDrive n).takeStop n k t .closedEnd = (s.cutDrive n).complete n := by
        show (s.cutDrive n).closedEndStop n k t = _
        unfold State.closedEndStop State.indexMissing
        rw [completeTravel_plain plain.1, completeTravel_plain plain.1, plain.2]
        simp
      refine ⟨_, (stopBy_running stop chan running).trans (by rw [class_, made]), ?_⟩
      exact rests _ (complete_learn _ n n) (complete_willReview _ n) (stateOf_complete _ n) ((complete_kept _ n).trans (cutDrive_kept s n))
    · refine ⟨_, (stopBy_running stop chan running).trans (by rw [class_]), ?_⟩
      exact rests _ (toStill_learn _ n n) still (stateOf_toStill _ n) ((toStill_kept _ n).trans (cutDrive_kept s n))

end

end Sys2Proof.Machine

namespace Sys2Proof.Machine
set_option Elab.async false

/-! ### Obstructions of closing travels (R31 to R36) -/

section

variable {s t u : State} {n : Ch}

/-- A backing at rest (R32). -/
theorem backing_rests {x : Travel} {e : Nat} (running : s.stateOf n = .running x) (session : s.port.session = none)
    (kind : x.kind = .close ∨ x.kind = .reference) {t : State} (ends : t = ((s.cutDrive n).setState n (.backing x e)).finish) :
    t.kept = s.kept ∧ (∃ y, t.stateOf n = .backing y e ∧ y.kind = x.kind ∧ y.retries = x.retries) ∧
      (t.units[n]'n.isLt).drive.dir? = some .opening := by
  have kept : ((s.cutDrive n).setState n (.backing x e)).kept = s.kept := (setState_kept _ n _).trans (cutDrive_kept s n)
  have state := stateOf_setState (s.cutDrive n) n (.backing x e)
  have learn := (setState_isLearnChannel (s.cutDrive n) n n (.backing x e)).trans (isLearnChannel_of_none session n)
  have driven : ((s.cutDrive n).setState n (.backing x e)).Driven n := setState_driven (.inr (.inr (by
    rw [show (s.cutDrive n).stateOf n = .running x from running]
    nofun)))
  generalize (s.cutDrive n).setState n (.backing x e) = v at *
  rw [ends]
  obtain ⟨y, on, same⟩ := finish_goneOn (x := x) learn (congrArg ChState.travel? state) kind (by rw [state]; rfl) (by rw [state]; rfl)
  rw [state] at on
  refine ⟨(finish_kept v).trans kept, ⟨y, on, same⟩, ?_⟩
  have dir : v.finish.Driven n := finish_driven driven
  unfold State.Driven at dir
  rw [on] at dir
  exact dir

/-- A pause at rest (R33). -/
theorem paused_rests {x : Travel} (state : s.stateOf n = .paused x 50) (learn : s.isLearnChannel n = false)
    (kind : x.kind = .close ∨ x.kind = .reference) (driven : s.Driven n) :
    (∃ y, s.finish.stateOf n = .paused y 50 ∧ y.kind = x.kind ∧ y.retries = x.retries) ∧ (s.finish.units[n]'n.isLt).drive = .off := by
  obtain ⟨y, on, same⟩ := finish_goneOn (x := x) learn (congrArg ChState.travel? state) kind (by rw [state]; rfl) (by rw [state]; rfl)
  rw [state] at on
  exact ⟨⟨y, on, same⟩, (finish_driven driven).off (by rw [on]; rfl)⟩

theorem enterPause_eq {x : Travel} {e : Nat} (backing : s.stateOf n = .backing x e) : s.enterPause n = s.setState n (.paused x 50) := by
  unfold State.enterPause
  rw [backing]

/-- A backing that has nothing to back off is a pause at once (R32, R33). -/
theorem enterBacking_paused {k : ChanCfg} {x : Travel} (session : s.port.session = none)
    (none : k.reversal = 0 ∨ 65535 ≤ (s.units[n]'n.isLt).count) : ∃ v, (s.cutDrive n).enterBacking n k x = v ∧ v.kept = s.kept ∧
      v.Driven n ∧ v.isLearnChannel n = false ∧ v.stateOf n = .paused x 50 := by
  have count := cutDrive_count s n n
  unfold State.enterBacking
  dsimp only
  rw [count, if_pos (by show min 65535 _ ≤ _; omega), enterPause_eq (stateOf_setState _ _ _)]
  refine ⟨_, rfl, ?_, setState_driven (.inr (.inl rfl)), ?_, stateOf_setState _ _ _⟩
  · rw [setState_kept, setState_kept, cutDrive_kept]
  · rw [setState_isLearnChannel, setState_isLearnChannel]
    exact isLearnChannel_of_none session n

/-- An obstruction that finds no retry left faults the channel (R35). -/
theorem obstructed_faulted (s : State) (n : Ch) :
    ((((s.cutDrive n).setState n (.faulted true false)).beginCondition (.obstruction n)).finish.stateOf n = .faulted true false) ∧
      (((s.cutDrive n).setState n (.faulted true false)).beginCondition (.obstruction n)).finish.kept =
        (s.beginCondition (.obstruction n)).kept ∧
      ((((s.cutDrive n).setState n (.faulted true false)).beginCondition (.obstruction n)).finish.flag (.obstruction n)).condition = true := by
  have kept := (setState_kept (s.cutDrive n) n (.faulted true false)).trans (cutDrive_kept s n)
  have state := stateOf_setState (s.cutDrive n) n (.faulted true false)
  generalize (s.cutDrive n).setState n (.faulted true false) = v at kept state ⊢
  have stands : (v.beginCondition (.obstruction n)).stateOf n = .faulted true false :=
    (stateOf_of_recs (beginCondition_recs v _) n).trans state
  have rest := (finish_kept _).trans (beginCondition_same (f := .obstruction n) kept)
  refine ⟨((finish_settles _).faulted (by rw [stands]; rfl)).trans stands, rest, ?_⟩
  rw [flag_of_flags (kept_flags rest)]
  exact (beginCondition_flag_self s _).1

/-! #### The end of a pause (R34) -/

theorem Turn.unpaused {l : Option Ch} {new : ChState} (turn : Turn l u n new) (active : ∀ x r, u.stateOf n ≠ .paused x r) (x : Travel)
    (r : Nat) : new ≠ .paused x r := by
  have replaced (y : Travel) : (u.stateOf n).withTravel y ≠ .paused x r := by
    cases state : u.stateOf n with
    | paused z m => exact absurd state (active z m)
    | _ => nofun
  cases turn with
  | reclamp | bandClose | bandReference | retarget => exact replaced _
  | _ => nofun

theorem finish_unpaused (active : ∀ x r, s.stateOf n ≠ .paused x r) (x : Travel) (r : Nat) : s.finish.stateOf n ≠ .paused x r :=
  (finish_settles s).keeps (Q := fun c => ∀ x r, c ≠ .paused x r) active (fun _ _ _ active turn => turn.unpaused active)
    (fun _ _ _ _ _ _ _ h => (nomatch h)) x r

/-- What stands after a pause that ends in a travel resumed or discarded (R34). -/
theorem pauseExpiry_rests {x : Travel} (paused : s.stateOf n = .paused x 0) :
    ∃ s', exec (.pauseExpiry n) s = .next s' ∧ s'.kept = s.kept ∧
      (x.origin.isRequest = true → (x.kind = .close ∨ x.kind = .reference) → x.target = none → s.port.session = none →
        ∃ t', s'.travel? n = some t' ∧ t'.kind = x.kind ∧ t'.retries = x.retries + 1) ∧
      (x.origin.isRequest = false → (x.kind = .close ∨ x.kind = .reference) → x.target = none → s.port.session = none →
        s.Judged →
        ((s.needOf n).asks x.kind (s.recs[n]'n.isLt).referenced = true →
          ∃ t', s'.travel? n = some t' ∧ t'.kind = x.kind ∧ t'.retries = x.retries + 1) ∧
        ((s.needOf n).asks x.kind (s.recs[n]'n.isLt).referenced = false → ∀ t', s'.travel? n = some t' → t'.retries = 0)) ∧
      ∀ t' l, s'.stateOf n ≠ .paused t' l := by
  have ends : exec (.pauseExpiry n) s =
      if x.origin.isRequest || (s.needOf n).asks x.kind (s.recs[n]'n.isLt).referenced then
        .next ((s.setState n (.waiting { x with retries := x.retries + 1 })).askEval).finish
      else .next (s.toStill n).finish := by
    show execPauseExpiry n s = _
    unfold execPauseExpiry
    rw [paused]
    rfl
  by_cases asked : (x.origin.isRequest || (s.needOf n).asks x.kind (s.recs[n]'n.isLt).referenced) = true
  · have review : ((s.setState n (.waiting { x with retries := x.retries + 1 })).askEval).WillReview :=
      (setState_willReview (by rw [paused]; nofun)).askEval
    have kept : ((s.setState n (.waiting { x with retries := x.retries + 1 })).askEval).kept = s.kept :=
      (askEval_kept _).trans (setState_kept s n _)
    have eval : ((s.setState n (.waiting { x with retries := x.retries + 1 })).askEval).eval = s.eval :=
      (State.askEval_eval _).trans (setState_eval s n _)
    have state : ((s.setState n (.waiting { x with retries := x.retries + 1 })).askEval).stateOf n =
        .waiting { x with retries := x.retries + 1 } := (stateOf_askEval _ n).trans (stateOf_setState s n _)
    have learn : ((s.setState n (.waiting { x with retries := x.retries + 1 })).askEval).isLearnChannel n = s.isLearnChannel n :=
      (isLearnChannel_of_port (State.askEval_port _) n).trans (setState_isLearnChannel s n n _)
    rw [if_pos asked] at ends
    generalize (s.setState n (.waiting { x with retries := x.retries + 1 })).askEval = v at *
    have resumes (kind : x.kind = .close ∨ x.kind = .reference) (target : x.target = none) (session : s.port.session = none)
        (needed : x.origin.isNeed = true → (v.finish.needOf n).asks x.kind (s.recs[n]'n.isLt).referenced = true) :
        ∃ t', v.finish.travel? n = some t' ∧ t'.kind = x.kind ∧ t'.retries = x.retries + 1 := by
      obtain ⟨y, travel, on⟩ := finish_closing review.due (learn.trans (isLearnChannel_of_none session n))
        (x := { x with retries := x.retries + 1 }) (congrArg ChState.travel? state) kind target
        (fun isNeed _ => by rw [kept_referenced kept n]; exact needed isNeed)
      exact ⟨y, travel, on.kind, on.retries⟩
    refine ⟨_, ends, (finish_kept v).trans kept, fun request kind target session => ?_, fun own kind target session judged =>
      ⟨fun needs => ?_, fun lost => ?_⟩, finish_unpaused (by rw [state]; exact fun _ _ h => (nomatch h))⟩
    · exact resumes kind target session (fun isNeed => by rw [isNeed_of_isRequest request] at isNeed; cases isNeed)
    · refine resumes kind target session (fun _ => ?_)
      have same : v.finish.eval = s.eval := ((finish_settles v).eval_of_judged (judged_of_kept kept eval judged)).trans eval
      unfold State.needOf at needs ⊢
      rw [same]
      exact needs
    · rw [own, lost] at asked
      cases asked
  · have review : (s.toStill n).WillReview := setState_willReview (by rw [paused]; nofun)
    have still := stateOf_toStill s n
    have kept := toStill_kept s n
    rw [if_neg asked] at ends
    generalize s.toStill n = v at *
    simp only [Bool.or_eq_true, not_or, Bool.not_eq_true] at asked
    refine ⟨_, ends, (finish_kept v).trans kept, fun request => ?_, fun _ _ _ _ _ => ⟨fun needs => ?_, fun _ t' travel => ?_⟩,
      finish_unpaused (by rw [still]; exact fun _ _ h => (nomatch h))⟩
    · rw [asked.1] at request
      cases request
    · rw [asked.2] at needs
      cases needs
    · exact (finish_fresh review.due (by rw [still]; exact fun y h => nomatch h) t' travel).2.2

/-- Settles O26: backing, pause and fault of an obstructed closing travel, the end of a backing, and the end of a pause. -/
theorem obstructionOfClosing : Obligations.ObstructionOfClosing := by
  unfold Obligations.ObstructionOfClosing
  refine ⟨fun c n sigs s k t stop chan running session stops => ?_, fun c n sigs s k t e stop chan backing learn kind ends => ?_,
    fun n s t paused => ?_⟩
  · have kind : t.kind = .close ∨ t.kind = .reference := stops.imp And.left And.left
    have class_ : s.stopClass n t sigs = .obstruction := by
      obtain ⟨kind, mem | away⟩ | ⟨kind, mem | mem⟩ := stops
      · exact stopClass_obstruction mem (by rw [kind]; rfl)
      · refine stopClass_all (stopBy_exec stop).1 (fun sig _ => ?_)
        rw [kind, away]
        cases sig <;> rfl
      · exact stopClass_obstruction mem (by rw [kind]; rfl)
      · exact stopClass_obstruction mem (by rw [kind]; rfl)
    have made : (s.cutDrive n).takeStop n k t .obstruction = if t.retries < k.retries then (s.cutDrive n).enterBacking n k t
        else ((s.cutDrive n).setState n (.faulted true false)).beginCondition (.obstruction n) := by
      show (s.cutDrive n).obstructed n k t = _
      unfold State.obstructed
      obtain kind | kind := kind <;> rw [kind]
    have next := stopBy_running stop chan running
    rw [class_, made] at next
    refine ⟨fun retries way below => ?_, fun retries none => ?_, fun spent => ?_⟩
    · have backs : (s.cutDrive n).enterBacking n k t =
          (s.cutDrive n).setState n (.backing t (min 65535 ((s.units[n]'n.isLt).count + k.reversal))) := by
        have count := cutDrive_count s n n
        unfold State.enterBacking
        dsimp only
        rw [count, if_neg (by show ¬ min 65535 _ ≤ _; omega)]
        rfl
      obtain ⟨kept, ⟨y, state, same⟩, drive⟩ := backing_rests running session kind rfl
      exact ⟨_, y, next.trans (by rw [if_pos retries, backs]), kept, state, same.1, same.2, drive⟩
    · obtain ⟨v, made, kept, driven, learn, state⟩ := enterBacking_paused (k := k) (x := t) session none
      obtain ⟨⟨y, rests, same⟩, off⟩ := paused_rests state learn kind driven
      exact ⟨_, y, next.trans (by rw [if_pos retries, made]), (finish_kept v).trans kept, rests, same.1, same.2, off⟩
    · obtain ⟨state, kept, flag⟩ := obstructed_faulted s n
      exact ⟨_, next.trans (by rw [if_neg (by omega)]), state, kept, flag⟩
  · have next := stopBy_backing stop chan backing ends
    have kept := (setState_kept (s.cutDrive n) n (.paused t 50)).trans (cutDrive_kept s n)
    obtain ⟨⟨y, rests, same⟩, off⟩ := paused_rests (stateOf_setState (s.cutDrive n) n (.paused t 50))
      ((setState_isLearnChannel _ n n _).trans learn) kind (setState_driven (.inr (.inl rfl)))
    exact ⟨_, y, next, (finish_kept _).trans kept, rests, same.1, same.2, off⟩
  · exact pauseExpiry_rests paused

end

end Sys2Proof.Machine

namespace Sys2Proof.Machine
set_option Elab.async false

/-! ### A learn session that stands (R197 to R202) -/

section

variable {s t u : State} {n : Ch}

/-- Neither the threat mark nor V at the channel's Wc ends a session at a review of the inputs as they stand (R85, R202). -/
def State.Calm (s : State) (n : Ch) : Prop :=
  ∀ c, s.port.config = some c → (s.threatArrival c s.workingWind.1 s.workingWind.2).isSome = false ∧
    ∀ k, s.chan? n = some k → s.workingWind.1 < k.wc

theorem calm_of_learnBar (judged : s.Judged) (deciding : s.deciding = true) (free : s.learnBar n = false) : s.Calm n := by
  intro c config
  obtain ⟨c', config', reread⟩ := deciding_iff.mp deciding
  obtain rfl := Option.some.inj (config.symm.trans config')
  obtain ⟨v, d, arrival, threat, -⟩ := judged c config reread
  unfold State.learnBar at free
  simp only [Bool.or_eq_false_iff] at free
  obtain ⟨⟨⟨⟨dry, -⟩, -⟩, -⟩, low⟩ := free
  rw [v, d] at arrival
  refine ⟨?_, fun k chan => ?_⟩
  · rw [← arrival, ← threat, dry]
  · rw [chan] at low
    simpa [v] using low

theorem State.Calm.of_kept (h : s.Calm n) (kept : t.kept = s.kept) : t.Calm n := by
  intro c config
  rw [kept_workingWind kept, kept_threatArrival kept, kept_chan kept]
  exact h c ((kept_config kept).symm.trans config)

/-- A session that nothing ends stands through reviews and evaluations, but for what R197 records in it. -/
theorem Settles.session_stands {r : Prop} {l : Option Ch} (h : Settles r l s t) (judged : s.Judged) {p : Session}
    (session : s.port.session = some p) (calm : ∀ q : Session, q.channel = p.channel → ¬ s.LearnAborts q) :
    ∃ q, t.port.session = some q ∧ q.stem = p.stem := by
  have through {v w : State} (stem : w.port.SameStem v.port) (ih : ∃ q, v.port.session = some q ∧ q.stem = p.stem) :
      ∃ q, w.port.session = some q ∧ q.stem = p.stem := by
    obtain ⟨q, hq, same⟩ := ih
    obtain ⟨x, hx, same'⟩ := stem.stands hq
    exact ⟨x, hx, same'.trans same⟩
  induction h with
  | refl => exact ⟨p, session, rfl⟩
  | turn _ _ ih => exact through (setState_port _ _ _) ih
  | create _ _ ih => exact through (createTravel_port _ _ _) ih
  | @ended v q chain stands _ aborts _ ih =>
    exfalso
    obtain ⟨q', hq', same⟩ := ih
    obtain rfl := Option.some.inj (stands.symm.trans hq')
    refine calm q (Session.stem_channel same) ?_
    unfold State.LearnAborts at aborts ⊢
    rwa [chain.eval_of_judged judged, kept_chan chain.kept] at aborts
  | marks _ _ _ ih | review _ _ _ _ _ ih | aside _ _ _ ih => exact ih
  | draw _ _ _ ih => exact through (by rw [submitDraw_port]; exact .refl _) ih

/-- What holds of a channel's state is kept by reviews and evaluations, if it is by each change of the channel in the chain. -/
theorem Settles.through {r : Prop} {l : Option Ch} (h : Settles r l s t) {n : Ch} {Q : ChState → Prop} (start : Q (s.stateOf n))
    (turn : ∀ u new, Settles r l s u → Q (u.stateOf n) → Turn l u n new → Q new)
    (create : ∀ u x, Settles r l s u → Q (u.stateOf n) → Created u n x → Q (.waiting x)) : Q (t.stateOf n) := by
  induction h with
  | refl => exact start
  | @turn u m new hu hn ih =>
    by_cases same : n = m
    · subst same
      rw [stateOf_setState]
      exact turn u new hu ih hn
    · rw [stateOf_setState_ne _ _ _ _ same]
      exact ih
  | @create u m x hu hn ih =>
    rw [State.createTravel, stateOf_askEval]
    by_cases same : n = m
    · subst same
      rw [stateOf_setState]
      exact create u x hu ih hn
    · rw [stateOf_setState_ne _ _ _ _ same]
      exact ih
  | ended _ _ _ _ _ ih => exact (stateOf_of_recs (State.judgeLamp_recs _) n).symm ▸ ih
  | marks _ _ _ ih | review _ _ _ _ _ ih | aside _ _ _ ih => exact ih
  | draw _ _ _ ih => simpa [State.stateOf, State.submitDraw] using ih

/-- A learn travel of the learn channel: nothing but its admission changes (R24, R52). -/
def ChState.Learns (c : ChState) (k : TravelKind) : Prop := ∃ a, c.travel? = some { learnTravel k with admission := a }

theorem Turn.learns {l : Option Ch} {new : ChState} {k : TravelKind} (turn : Turn l u n new) (own : u.isLearnChannel n = true)
    (learn : k.isLearn = true) (learns : (u.stateOf n).Learns k) : new.Learns k := by
  obtain ⟨a, travel⟩ := learns
  have kept {x : Travel} (h : u.travel? n = some x) : x = { learnTravel k with admission := a } := Option.some.inj (h.symm.trans travel)
  have kind {x : Travel} {k' : TravelKind} {p : Prop} (h : u.travel? n = some x) (hk : x.kind = k') (plain : k'.isLearn = false) : p := by
    rw [kept h] at hk
    rw [← hk] at plain
    exact absurd learn (by rw [show k.isLearn = false from plain]; decide)
  have reached {p : Prop} (reaches : u.needReaches n = true) : p := by
    rw [(needReaches_parts reaches).2.2] at own
    cases own
  cases turn with
  | openBarred x h hk | openAbove x _ _ h hk | reclamp x _ _ _ h hk => exact kind h hk rfl
  | bandClose x _ _ reaches | bandReference x reaches | retarget x _ _ reaches | reduced _ reaches | lost x reaches => exact reached reaches
  | dropLearn x _ away | maintHold _ away =>
    rw [own] at away
    cases away
  | yield x running =>
    have h : u.travel? n = some x := congrArg ChState.travel? running
    exact ⟨a, congrArg some (kept h)⟩
  | upgrade x _ running upgrades =>
    have h : u.travel? n = some x := congrArg ChState.travel? running
    rw [running] at upgrades
    unfold ChState.upgradable at upgrades
    simp only [Bool.and_eq_true, Bool.not_eq_true'] at upgrades
    have own : x.kind = k := congrArg Travel.kind (kept h)
    rw [own, learn] at upgrades
    cases upgrades.2
  | admitted x _ h => exact ⟨some u.now, congrArg some (by rw [kept h])⟩
  | admitDone x h _ reached =>
    rw [kept h] at reached
    cases reached

/-- What stands at rest of a session that nothing ends. -/
theorem finish_session_stands (review : s.WillReview) (deciding : s.deciding = true) {p : Session} (session : s.port.session = some p)
    (calm : s.Calm p.channel) : (∃ q, s.finish.port.session = some q ∧ q.stem = p.stem) ∧
      ∀ k, k.isLearn = true → (s.stateOf p.channel).Learns k → (s.finish.stateOf p.channel).Learns k := by
  obtain ⟨c, config, reread⟩ := deciding_iff.mp deciding
  have chain := finish_settles_of_due config reread (review deciding)
  have judged := judgedNow_judged (s := s) config reread
  obtain ⟨dry, low⟩ := calm c config
  have quiet (q : Session) (own : q.channel = p.channel) : ¬ (s.judgedNow c).LearnAborts q := by
    rintro (threat | ⟨k, chan, high⟩)
    · exact absurd (dry.symm.trans threat) (by decide)
    · rw [own] at chan
      exact absurd (low k chan) (by
        have : k.wc ≤ s.workingWind.1 := high
        omega)
  refine ⟨chain.session_stands judged session quiet, fun k learn start => chain.through (n := p.channel) (Q := fun c => c.Learns k) start (fun u new prior learns turn => ?_)
    (fun u x prior _ created => ?_)⟩
  all_goals
    have own : u.isLearnChannel p.channel = true := by
      obtain ⟨q, stands, same⟩ := prior.session_stands judged session quiet
      unfold State.isLearnChannel State.learnChannel?
      rw [stands]
      simp [Session.stem_channel same]
  · exact turn.learns own learn learns
  · exfalso
    have aside : u.isLearnChannel p.channel = false := by
      cases created with
      | close _ _ reaches | reference reaches | reduce _ _ reaches => exact (needReaches_parts reaches).2.2
    rw [own] at aside
    cases aside

/-! #### The advance of a session (R198 to R200) -/

theorem setState_port_undriven {new : ChState} (undriven : new.driveDir? = none) : (s.setState n new).port = s.port := by
  unfold State.setState State.applyDrive
  dsimp only
  rw [checkLastTravel_port, State.judgeLamp_port, checkView_port, undriven]
  have asked (v : State) (b c : Prop) [Decidable b] [Decidable c] (port : v.port = s.port) :
      (if b then (if c then v.askEval else v).askReview else if c then v.askEval else v).port = s.port := by
    split <;> split <;> simpa using port
  refine asked _ _ _ ?_
  split <;> cases (s.stateOf n).driveDir? <;> rfl

theorem complete_port (s : State) (n : Ch) : (s.complete n).port = s.port := by
  unfold State.complete
  rw [State.askEval_port, State.askReview_port]
  exact setState_port_undriven rfl

theorem createTravel_port_same (s : State) (n : Ch) (x : Travel) : (s.createTravel n x).port = s.port := by
  unfold State.createTravel
  rw [State.askEval_port]
  exact setState_port_undriven rfl

/-- The completion of a learn travel of the session's channel. -/
theorem completeTravel_learns {x : Travel} {p : Session} {k : ChanCfg} (learn : x.kind.isLearn = true) (session : s.port.session = some p)
    (own : p.channel = n) (chan : s.chan? n = some k) : s.completeTravel n x = match x.kind with
      | .learnClose => (s.complete n).learnCloseDone n p
      | .learnOpen => (s.complete n).learnOpenDone n p k (s.units[n]'n.isLt)
      | .learnTimed => (s.complete n).learnTimedDone p k (s.units[n]'n.isLt)
      | _ => s.complete n := by
  unfold State.completeTravel State.learnAdvance
  dsimp only
  rw [if_pos learn, complete_port, session, kept_chan (complete_kept s n), chan]
  dsimp only
  rewrite [if_pos own]
  cases x.kind <;> rfl

end

end Sys2Proof.Machine

namespace Sys2Proof.Machine
set_option Elab.async false

/-! ### What the stops of learn travels measure (R197 to R202) -/

section

variable {s t u w : State} {n : Ch} {p : Session} {k : ChanCfg}

/-- A state in which a learn run of the channel goes on. -/
structure State.LearnStage (s : State) (n : Ch) (p : Session) (k : ChanCfg) : Prop where
  deciding : s.deciding = true
  calm : s.Calm n
  session : s.port.session = some p
  own : p.channel = n
  chan : s.chan? n = some k

theorem State.LearnStage.of_kept (h : s.LearnStage n p k) (kept : t.kept = s.kept) (session : t.port.session = s.port.session) :
    t.LearnStage n p k :=
  ⟨(kept_deciding kept).trans h.deciding, h.calm.of_kept kept, session.trans h.session, h.own, (kept_chan kept n).trans h.chan⟩

theorem State.LearnStage.setUnit (h : s.LearnStage n p k) (m : Ch) (x : ChanUnit) : (s.setUnit m x).LearnStage n p k :=
  ⟨h.deciding, h.calm, h.session, h.own, h.chan⟩

theorem State.LearnStage.setRec (h : s.LearnStage n p k) (m : Ch) (x : ChanRec) : (s.setRec m x).LearnStage n p k :=
  ⟨h.deciding, h.calm, h.session, h.own, h.chan⟩

/-- The next learn travel of a run at rest. -/
theorem State.LearnStage.advance (h : w.LearnStage n p k) {q : Session} (own : q.channel = n) {kind : TravelKind}
    (learn : kind.isLearn = true) (ends : t = (((w.complete n).setSession (some q)).createTravel n (learnTravel kind)).finish) :
    t.kept = w.kept ∧ (∃ q', t.port.session = some q' ∧ q'.stem = q.stem) ∧
      ∃ a, t.travel? n = some { learnTravel kind with admission := a } := by
  have made : ((w.complete n).setSession (some q)).kept = w.kept := complete_kept w n
  have review : ((w.complete n).setSession (some q)).WillReview := (complete_willReview w n).of rfl rfl
  have session : ((w.complete n).setSession (some q)).port.session = some q := rfl
  generalize (w.complete n).setSession (some q) = v at made review session ends
  have kept := (createTravel_kept v n (learnTravel kind)).trans made
  have state : (v.createTravel n (learnTravel kind)).stateOf n = .waiting (learnTravel kind) :=
    (stateOf_askEval _ n).trans (stateOf_setState _ n _)
  have stands : (v.createTravel n (learnTravel kind)).port.session = some q := by rw [createTravel_port_same, session]
  have reviews := review.createTravel n (learnTravel kind)
  generalize v.createTravel n (learnTravel kind) = x at *
  subst own
  obtain ⟨session', learns⟩ := finish_session_stands reviews ((kept_deciding kept).trans h.deciding) stands (h.calm.of_kept kept)
  rw [ends]
  refine ⟨(finish_kept x).trans kept, session', learns kind learn ⟨none, ?_⟩⟩
  rw [state]
  rfl

/-- The state in which a closed-end stop completes its travel (R12). -/
theorem closedEndStop_completes {x : Travel} (met : s.indexMissing n k x = false) (checked : x.kind.indexChecked = true) :
    ∃ w : State, (s.cutDrive n).closedEndStop n k x = w.completeTravel n x ∧ w.port = s.port ∧
      w.kept = (s.setUnit n { s.units[n]'n.isLt with count := if k.indexMode = .off then k.c else (s.units[n]'n.isLt).count }).kept ∧
      (w.units[n]'n.isLt).lastStepTime = (s.units[n]'n.isLt).lastStepTime ∧
      (w.units[n]'n.isLt).lastStepCount = (s.units[n]'n.isLt).lastStepCount := by
  have made : (s.cutDrive n).closedEndStop n k x =
      if k.indexMode = .off then ((s.cutDrive n).setCount n k.c).completeTravel n x else (s.cutDrive n).completeTravel n x := by
    unfold State.closedEndStop
    rw [cutDrive_indexMissing, met, checked, Bool.and_true, if_neg Bool.false_ne_true]
    simp only [decide_eq_true_eq]
  obtain ⟨-, -, time, count⟩ := driveOff_rest (s.units[n]'n.isLt)
  have unit := cutDrive_unit s n
  rw [made]
  by_cases off : k.indexMode = .off
  · rw [if_pos off, if_pos off]
    have set : (((s.cutDrive n).setCount n k.c).units[n]) = { (s.cutDrive n).units[n]'n.isLt with count := k.c } := by
      unfold State.setCount
      rw [State.judgeLamp_units, setUnit_unit, if_pos rfl]
    refine ⟨_, rfl, setCount_port _ n k.c, cutDrive_setCount s n k.c, ?_, ?_⟩
    · rw [set, unit, ← time]
    · rw [set, unit, ← count]
  · rw [if_neg off, if_neg off]
    refine ⟨_, rfl, rfl, (cutDrive_kept s n).trans ?_, ?_, ?_⟩
    · rw [setUnit_self]
    · rw [unit, time]
    · rw [unit, count]

theorem measuredSpeed_of {d a b : Nat} (later : a < b) : measuredSpeed d (b - a) = d * 10 / (b - a) := if_neg (by omega)

/-- LEARN-CLOSE has completed (R198). -/
theorem learnClose_completes (h : w.LearnStage n p k) {x : Travel} (kind : x.kind = .learnClose) :
    ∃ p' y, (w.completeTravel n x).finish.port.session = some p' ∧ p'.channel = n ∧ p'.phase = .opening ∧
      (w.completeTravel n x).finish.travel? n = some y ∧ y.kind = .learnOpen ∧ y.direction = .opening ∧ y.band = 4 ∧
      y.profile = .normal ∧ y.origin = .learn ∧ y.retries = 0 ∧ (w.completeTravel n x).finish.kept = w.kept := by
  have made := completeTravel_learns (x := x) (by rw [kind]; rfl) h.session h.own h.chan
  rw [kind] at made
  obtain ⟨kept, ⟨q, session, stem⟩, a, travel⟩ := h.advance (q := { p with phase := .opening }) h.own (kind := .learnOpen) rfl
    (congrArg State.finish made)
  exact ⟨q, _, session, (congrArg Session.channel stem).trans h.own, (congrArg Session.phase stem), travel, rfl, rfl, rfl, rfl, rfl,
    rfl, kept⟩

/-- LEARN-OPEN has ended at the open-end stall (R199). -/
theorem learnOpen_completes (h : s.LearnStage n p k) {x : Travel} (kind : x.kind = .learnOpen) {start from_ : Nat}
    (opened : p.openingStart = some start) (measured : p.measureStart = some from_)
    (later : start < (s.units[n]'n.isLt).lastStepTime) {t : State} (ends : t = ((s.cutDrive n).completeTravel n x).finish) :
    ∃ p' y, t.port.session = some p' ∧ p'.channel = n ∧ p'.phase = .timedClosing ∧
      p'.measuredSpan = some ((s.units[n]'n.isLt).lastStepCount - k.c) ∧
      p'.openingTime = some ((s.units[n]'n.isLt).lastStepTime - start) ∧
      p'.normalSpeed = some (((s.units[n]'n.isLt).lastStepCount - from_) * 10 / ((s.units[n]'n.isLt).lastStepTime - start)) ∧
      t.travel? n = some y ∧ y.kind = .learnTimed ∧ y.profile = .storm ∧ t.kept = s.kept := by
  have stage : (s.cutDrive n).LearnStage n p k := h.of_kept (cutDrive_kept s n) rfl
  have made := completeTravel_learns (x := x) (by rw [kind]; rfl) stage.session h.own stage.chan
  obtain ⟨-, -, time, count⟩ := driveOff_rest (s.units[n]'n.isLt)
  rw [kind] at made
  dsimp only at made
  unfold State.learnOpenDone at made
  rw [cutDrive_unit, time, count, opened, measured] at made
  dsimp only [Option.getD_some] at made
  rw [measuredSpeed_of later] at made
  rw [made] at ends
  obtain ⟨kept, ⟨q, session, stem⟩, a, travel⟩ := stage.advance (q := _) (by exact h.own) (kind := .learnTimed) rfl ends
  exact ⟨q, _, session, (congrArg Session.channel stem).trans h.own, congrArg Session.phase stem, congrArg Session.measuredSpan stem,
    congrArg Session.openingTime stem, congrArg Session.normalSpeed stem, travel, rfl, rfl, kept.trans (cutDrive_kept s n)⟩

/-- LEARN-TIMED has completed at a closed-end stop (R200). -/
theorem learnTimed_completes (h : w.LearnStage n p k) {x : Travel} (kind : x.kind = .learnTimed) {start from_ span normal storm : Nat}
    (timed : p.timedStart = some start) (measured : p.measureStart = some from_) (later : start < (w.units[n]'n.isLt).lastStepTime)
    (spanned : p.measuredSpan = some span) (speed : p.normalSpeed = some normal)
    (found : storm = (from_ - (w.units[n]'n.isLt).lastStepCount) * 10 / ((w.units[n]'n.isLt).lastStepTime - start))
    {t : State} (ends : t = (w.completeTravel n x).finish) :
    (rangeCheck k.c span normal storm = true → ∃ p', t.port.session = some p' ∧ p'.phase = .awaitingConfirm ∧
      p'.stormSpeed = some storm ∧ p'.confirm = some 1200) ∧
    (rangeCheck k.c span normal storm = false → t.port.session = none ∧ t.panel.refusal = some 0) := by
  have made := completeTravel_learns (x := x) (by rw [kind]; rfl) h.session h.own h.chan
  rw [kind] at made
  dsimp only at made
  unfold State.learnTimedDone at made
  dsimp only at made
  have value : measuredSpeed (p.measureStart.getD (w.units[n]'n.isLt).lastStepCount - (w.units[n]'n.isLt).lastStepCount)
      ((w.units[n]'n.isLt).lastStepTime - p.timedStart.getD (w.units[n]'n.isLt).lastStepTime) = storm := by
    rw [timed, measured]
    exact (measuredSpeed_of later).trans found.symm
  have check : rangeCheck k.c (p.measuredSpan.getD 0) (p.normalSpeed.getD 0) storm = rangeCheck k.c span normal storm := by
    rw [spanned, speed]
    rfl
  rw [value, check] at made
  have review := complete_willReview w n
  have kept := complete_kept w n
  generalize w.complete n = v at made review kept
  rw [ends, made]
  refine ⟨fun fits => ?_, fun out => ?_⟩
  · rw [if_pos fits]
    obtain ⟨⟨q, session, stem⟩, -⟩ := finish_session_stands
      (s := v.setSession (some { p with stormSpeed := some storm, phase := .awaitingConfirm, confirm := some 1200 }))
      (review.of rfl rfl) ((kept_deciding kept).trans h.deciding) rfl (by
        show (v.setSession _).Calm p.channel
        rw [h.own]
        exact h.calm.of_kept kept)
    exact ⟨q, session, congrArg Session.phase stem, congrArg Session.stormSpeed stem, congrArg Session.confirm stem⟩
  · rw [if_neg (by rw [out]; decide)]
    obtain ⟨none, -⟩ := endSession_port (s := v.setSession (some { p with stormSpeed := some storm })) rfl
    generalize (v.setSession (some { p with stormSpeed := some storm })).endSession = x at none ⊢
    exact ⟨finish_session_none none, kept_refusal_pattern (finish_kept x.askRefusal)⟩

/-- No abort of a session faults a channel. -/
theorem abortLearn_sound (sound : (s.stateOf n).isFaulted = false) : (s.abortLearn.stateOf n).isFaulted = false := by
  unfold State.abortLearn
  split
  · exact sound
  · rename_i p session
    split
    · exact sound
    · refine (endSession_settles session).keeps (Q := fun c => c.isFaulted = false) ?_ (fun u new _ sound turn => turn.sound sound)
        (fun _ _ _ _ _ => rfl)
      rw [stateOf_of_recs (State.judgeLamp_recs _) n]
      exact sound

/-- A learn obstruction ends the session and raises nothing (R202). -/
theorem learnObstruction_rests (session : s.port.session = some p) (phase : p.phase ≠ .storing) {t : State}
    (ends : t = (((s.cutDrive n).toStill n).abortLearn).finish) :
    t.port.session = none ∧ t.kept = s.kept ∧ ∀ o e, t.stateOf n ≠ .faulted o e := by
  have stands : ((s.cutDrive n).toStill n).port.session = some p := by
    rw [State.toStill, setState_port_undriven rfl]
    exact session
  have still := stateOf_toStill (s.cutDrive n) n
  have kept := (toStill_kept (s.cutDrive n) n).trans (cutDrive_kept s n)
  generalize (s.cutDrive n).toStill n = v at *
  rw [ends]
  exact ⟨finish_session_none (abortLearn_session_none stands phase), (finish_kept _).trans ((abortLearn_kept v).trans kept),
    fun o e => finish_sound (isFaulted_eq_false_iff.mp (abortLearn_sound (by rw [still]; rfl))) o e⟩

theorem classify_learn {kind : TravelKind} (learn : kind.isLearn = true) (d : Direction) (zone : Bool) (sig : StopSignal) :
    StopClass.learnObstruction.rank ≤ (classify kind d zone sig).rank := by
  cases kind with
  | learnClose | learnOpen | learnTimed => cases sig <;> cases zone <;> exact Nat.le_of_ble_eq_true rfl
  | _ => cases learn

theorem learnClose_class {x : Travel} {sigs : List StopSignal} (some : sigs ≠ []) (kind : x.kind = .learnClose)
    (unpinched : .pinch ∉ sigs) (zone : s.closed n = true ∨ .overcurrent ∉ sigs) :
    s.stopClass n x sigs = if .stall ∈ sigs then .referencingStall else .closedEnd := by
  have overcurrent (mem : .overcurrent ∈ sigs) : classify .learnClose x.direction (s.closed n) .overcurrent = .closedEnd := by
    rw [zone.resolve_right (not_not_intro mem)]
    rfl
  split
  · rename_i stall
    refine stopClass_eq stall (by rw [kind]; rfl) (fun sig mem => ?_)
    rw [kind]
    cases sig with
    | stall => exact Nat.le_refl _
    | pinch => exact absurd mem unpinched
    | overcurrent =>
      rw [overcurrent mem]
      decide
  · rename_i stall
    refine stopClass_all some (fun sig mem => ?_)
    rw [kind]
    cases sig with
    | stall => exact absurd mem stall
    | pinch => exact absurd mem unpinched
    | overcurrent => exact overcurrent mem

theorem learnTimed_class {x : Travel} {sigs : List StopSignal} (some : sigs ≠ []) (kind : x.kind = .learnTimed)
    (unpinched : .pinch ∉ sigs) (closed : s.closed n = true) : s.stopClass n x sigs = .closedEnd := by
  refine stopClass_all some (fun sig mem => ?_)
  rw [kind, closed]
  cases sig with
  | pinch => exact absurd mem unpinched
  | stall | overcurrent => rfl

theorem learnObstruction_class {x : Travel} {sigs : List StopSignal} (some : sigs ≠ []) (learn : x.kind.isLearn = true)
    (stops : .pinch ∈ sigs ∨ .overcurrent ∈ sigs ∧ (x.kind = .learnOpen ∨ s.closed n = false) ∨
      x.kind = .learnTimed ∧ s.closed n = false) : s.stopClass n x sigs = .learnObstruction := by
  obtain mem | ⟨mem, zone⟩ | ⟨kind, away⟩ := stops
  · refine stopClass_eq mem ?_ (fun sig _ => classify_learn learn _ _ sig)
    cases kind : x.kind with
    | learnClose | learnOpen | learnTimed => rfl
    | _ => rw [kind] at learn; cases learn
  · refine stopClass_eq mem ?_ (fun sig _ => classify_learn learn _ _ sig)
    cases kind : x.kind with
    | learnOpen => rfl
    | learnClose | learnTimed =>
      rw [zone.resolve_left (by rw [kind]; decide)]
      rfl
    | _ => rw [kind] at learn; cases learn
  · refine stopClass_all some (fun sig _ => ?_)
    rw [kind, away]
    cases sig <;> rfl

/-- The state in which a stop of LEARN-CLOSE completes it: with the reference taken at a stall, in the closed-end zone otherwise. -/
theorem learnClose_stops {c : Instr} {sigs : List StopSignal} {x : Travel} (stop : s.stopBy c n sigs) (stage : s.LearnStage n p k)
    (running : s.stateOf n = .running x) (kind : x.kind = .learnClose) (unpinched : .pinch ∉ sigs)
    (zone : s.closed n = true ∨ .overcurrent ∉ sigs) (index : .stall ∈ sigs ∨ s.indexMissing n k x = false) :
    ∃ w : State, exec c s = .next (w.completeTravel n x).finish ∧ w.LearnStage n p k ∧
      (.stall ∈ sigs → w.kept =
        ((s.setUnit n { s.units[n]'n.isLt with count := k.c }).setRec n { s.recs[n]'n.isLt with referenced := true }).kept) ∧
      (.stall ∉ sigs → w.kept =
        (s.setUnit n { s.units[n]'n.isLt with count := if k.indexMode = .off then k.c else (s.units[n]'n.isLt).count }).kept) := by
  have next := stopBy_running stop stage.chan running
  rw [learnClose_class (stopBy_exec stop).1 kind unpinched zone] at next
  by_cases stall : StopSignal.stall ∈ sigs
  · have kept := referenced_over (cutDrive_setCount s n k.c)
    have session : (((s.cutDrive n).setCount n k.c).setReferenced n true).port.session = s.port.session := by
      rw [setReferenced_port, setCount_port]
      rfl
    rw [if_pos stall] at next
    exact ⟨_, next, ((stage.setUnit n _).setRec n _).of_kept kept session, fun _ => kept, fun no => absurd stall no⟩
  · obtain ⟨w, made, port, kept, -⟩ := closedEndStop_completes (index.resolve_left stall) (by rw [kind]; rfl)
    rw [if_neg stall] at next
    exact ⟨w, next.trans (congrArg (fun v : State => (.next v.finish : Result)) made),
      (stage.setUnit n _).of_kept kept (by rw [port]; rfl), fun yes => absurd yes stall, fun _ => kept⟩

/-- Settles O29: the measures of a learn run, its range check and its abort. -/
theorem learnRunMeasures : Obligations.LearnRunMeasures := by
  unfold Obligations.LearnRunMeasures
  intro c n sigs s k t p stop chan running session own deciding judged free
  have stage : s.LearnStage n p k := ⟨deciding, calm_of_learnBar judged deciding free, session, own, chan⟩
  have next := stopBy_running stop chan running
  have some := (stopBy_exec stop).1
  refine ⟨fun kind unpinched zone index => ?_, fun kind only start from_ opened measured later _ => ?_,
    fun kind unpinched closed met start from_ span normal storm timed measured later _ spanned speed found => ?_,
    fun phase learn stops => ?_⟩
  · obtain ⟨w, ends, stage', stalled, zoned⟩ := learnClose_stops stop stage running kind unpinched zone index
    obtain ⟨p', y, stands, own', phase, travel, hk, hd, hb, hp, ho, hr, rests⟩ := learnClose_completes stage' kind
    exact ⟨_, p', y, ends, stands, own', phase, travel, hk, hd, hb, hp, ho, hr, fun stall => rests.trans (stalled stall),
      fun no => rests.trans (zoned no)⟩
  · have class_ : s.stopClass n t sigs = .openEndStall := by
      rw [only]
      exact stopClass_all (by simp) (fun sig mem => by
        rw [List.mem_singleton.mp mem, kind]
        rfl)
    rw [class_] at next
    obtain ⟨p', y, rest⟩ := learnOpen_completes stage kind opened measured later rfl
    exact ⟨_, p', y, next, rest⟩
  · obtain ⟨w, made, port, kept, time, count⟩ := closedEndStop_completes met (by rw [kind]; rfl)
    have stage' := (stage.setUnit n _).of_kept kept (by rw [port]; rfl)
    obtain ⟨fits, out⟩ := learnTimed_completes stage' kind timed measured (by rw [time]; exact later) spanned speed
      (found.trans (by rw [time, count])) rfl
    rw [learnTimed_class some kind unpinched closed] at next
    have ends := next.trans (congrArg (fun v : State => (.next v.finish : Result)) made)
    refine ⟨fun range => ?_, fun range => ⟨_, ends, out (decide_eq_false range)⟩⟩
    obtain ⟨p', stands⟩ := fits (decide_eq_true range)
    exact ⟨_, p', ends, stands⟩
  · rw [learnObstruction_class some learn stops] at next
    exact ⟨_, next, learnObstruction_rests session phase rfl⟩

end

end Sys2Proof.Machine

namespace Sys2Proof.Machine
set_option Elab.async false

/-! ### Samples of the encoder lines (R2 to R9) -/

section

variable {s t u v w : State} {n : Ch} {k : ChanCfg}

theorem setUnit_setUnit (s : State) (n : Ch) (x y : ChanUnit) : (s.setUnit n x).setUnit n y = s.setUnit n y := by
  unfold State.setUnit
  simp

/-- Of the channel, the levels, the held pair and the count are those of `x`; its state and all else stand. -/
structure State.Stands (s v : State) (n : Ch) (x : ChanUnit) : Prop where
  kept : v.kept = (s.setUnit n x).kept
  recs : v.recs = s.recs
  port : v.port = s.port
  review : v.reviewDue = s.reviewDue
  eval : v.evalDue = s.evalDue
  record : (v.units[n]'n.isLt).indexRecord = (s.units[n]'n.isLt).indexRecord

theorem State.Stands.count {x : ChanUnit} (h : s.Stands v n x) : (v.units[n]'n.isLt).count = x.count := by
  rw [kept_count h.kept n, setUnit_unit, if_pos rfl]

theorem State.Stands.state {x : ChanUnit} (h : s.Stands v n x) : v.stateOf n = s.stateOf n := stateOf_of_recs h.recs n

theorem State.Stands.learn {x : ChanUnit} (h : s.Stands v n x) : v.isLearnChannel n = s.isLearnChannel n := isLearnChannel_of_port h.port n

theorem stands_setUnit {x y : ChanUnit} (same : y.sensed = x.sensed) (record : y.indexRecord = (s.units[n]'n.isLt).indexRecord) :
    s.Stands (s.setUnit n y) n x :=
  ⟨setUnit_over rfl same, rfl, rfl, rfl, rfl, by rw [setUnit_unit, if_pos rfl, record]⟩

theorem State.Stands.judgeLamp {x : ChanUnit} (h : s.Stands v n x) : s.Stands v.judgeLamp n x :=
  ⟨(judgeLamp_kept v).trans h.kept, (State.judgeLamp_recs v).trans h.recs, (State.judgeLamp_port v).trans h.port,
    (State.judgeLamp_reviewDue v).trans h.review, (State.judgeLamp_evalDue v).trans h.eval, by rw [State.judgeLamp_units]; exact h.record⟩

/-! #### What a step does to the travel (R30, R33) -/

/-- The cases of the comparison at a step. -/
theorem compareStep_cases (v : State) (n : Ch) :
    (∃ x, v.stateOf n = .running x ∧ x.reached (v.units[n]'n.isLt).count = true ∧ v.compareStep n = v.complete n) ∨
      (∃ x e, v.stateOf n = .backing x e ∧ e ≤ (v.units[n]'n.isLt).count ∧ v.compareStep n = v.setState n (.paused x 50)) ∨
      v.compareStep n = v ∧ (∀ x, v.stateOf n = .running x → x.reached (v.units[n]'n.isLt).count = false) ∧
        ∀ x e, v.stateOf n = .backing x e → (v.units[n]'n.isLt).count < e := by
  unfold State.compareStep
  cases state : v.stateOf n with
  | running x =>
    cases reached : x.reached (v.units[n]'n.isLt).count with
    | true => exact .inl ⟨x, rfl, reached, if_pos reached⟩
    | false =>
      refine .inr (.inr ⟨if_neg (by rw [reached]; decide), fun y h => ?_, fun y e h => (nomatch h)⟩)
      cases h
      exact reached
  | backing x e =>
    by_cases ended : e ≤ (v.units[n]'n.isLt).count
    · refine .inr (.inl ⟨x, e, rfl, ended, (if_pos ended).trans (enterPause_eq state)⟩)
    · refine .inr (.inr ⟨if_neg ended, fun y h => (nomatch h), fun y e' h => ?_⟩)
      cases h
      omega
  | _ => exact .inr (.inr ⟨rfl, fun y h => (nomatch h), fun y e h => (nomatch h)⟩)

theorem compareStep_kept (v : State) (n : Ch) : (v.compareStep n).kept = v.kept := by
  obtain ⟨x, -, -, made⟩ | ⟨x, e, -, -, made⟩ | ⟨made, -⟩ := compareStep_cases v n
  · rw [made, complete_kept]
  · rw [made, setState_kept]
  · rw [made]

theorem reached_of_target {x : Travel} {y c : Nat} (target : x.target = some y)
    (passed : x.direction = .opening ∧ y ≤ c ∨ x.direction = .closing ∧ c ≤ y) : x.reached c = true := by
  unfold Travel.reached
  rw [target]
  obtain ⟨direction, passed⟩ | ⟨direction, passed⟩ := passed <;> rw [direction] <;> simpa using passed

theorem passed_of_reached {x : Travel} {c : Nat} (reached : x.reached c = true) :
    ∃ y, x.target = some y ∧ (x.direction = .opening ∧ y ≤ c ∨ x.direction = .closing ∧ c ≤ y) := by
  unfold Travel.reached at reached
  cases target : x.target with
  | none =>
    rw [target] at reached
    cases reached
  | some y =>
    rw [target] at reached
    cases direction : x.direction with
    | opening =>
      rw [direction] at reached
      exact ⟨y, rfl, .inl ⟨rfl, by simpa using reached⟩⟩
    | closing =>
      rw [direction] at reached
      exact ⟨y, rfl, .inr ⟨rfl, by simpa using reached⟩⟩

theorem checkDraw_stateOf (s : State) (n : Ch) : s.checkDraw.stateOf n = s.stateOf n := stateOf_of_recs (checkDraw_recs s) n

/-- A step at rest (R30, R33). -/
theorem compareStep_stepped {x : ChanUnit} (h : s.Stands v n x) : s.Stepped (v.compareStep n).finish n x.count := by
  have count := h.count
  have state := h.state
  have learn := h.learn
  refine ⟨fun y z running target plain passed => ?_, fun y e backing kind plain ended => ?_, fun review eval short backs => ?_⟩
  · have reached := reached_of_target target passed
    obtain ⟨y', -, -, made⟩ | ⟨y', e, backing, -⟩ | ⟨-, short, -⟩ := compareStep_cases v n
    · rw [made]
      exact finish_still (complete_willReview v n).due ((complete_learn v n n).trans (learn.trans plain)) (stateOf_complete v n)
    · rw [state, running] at backing
      cases backing
    · have := short y (state.trans running)
      rw [count, reached] at this
      cases this
  · obtain ⟨y', running, -⟩ | ⟨y', e', backing', -, made⟩ | ⟨-, -, backs⟩ := compareStep_cases v n
    · rw [state, backing] at running
      cases running
    · rw [state, backing] at backing'
      cases backing'
      have paused := stateOf_setState v n (.paused y 50)
      obtain ⟨z, on, same⟩ := finish_goneOn (s := v.setState n (.paused y 50)) (x := y)
        ((setState_isLearnChannel v n n _).trans (learn.trans plain)) (congrArg ChState.travel? paused) kind (by rw [paused]; rfl)
        (by rw [paused]; rfl)
      rw [paused] at on
      rw [made]
      exact ⟨z, on, same⟩
    · have := backs y e (state.trans backing)
      omega
  · obtain ⟨y, running, reached, -⟩ | ⟨y, e, backing, ended, -⟩ | ⟨made, -⟩ := compareStep_cases v n
    · obtain ⟨z, target, passed⟩ := passed_of_reached reached
      obtain ⟨opens, closes⟩ := short y (state.symm.trans running) z target
      obtain ⟨direction, passed⟩ | ⟨direction, passed⟩ := passed
      · have := opens direction
        omega
      · have := closes direction
        omega
    · have := backs y e (state.symm.trans backing)
      omega
    · rw [made, finish_of_not_due (h.review.trans review) (h.eval.trans eval), checkDraw_stateOf, state]

/-! #### One step of the decoder (R2, R8) -/

theorem stepRefused_up {c : Nat} : stepRefused c true = true ↔ 65535 ≤ c := decide_eq_true_iff

theorem stepRefused_down {c : Nat} : stepRefused c false = true ↔ c = 0 := decide_eq_true_iff

/-- A step that is made. -/
theorem stepCount_made {x : ChanUnit} {up : Bool} {c : Nat} (h : s.Stands v n x)
    (made : up = true ∧ x.count < 65535 ∧ c = x.count + 1 ∨ up = false ∧ 0 < x.count ∧ c = x.count - 1) :
    ∃ w, s.Stands w n { x with count := c } ∧ v.stepCount n up = w.compareStep n := by
  have count := h.count
  have free : ¬ stepRefused (v.units[n]'n.isLt).count up = true := by
    rw [count]
    obtain ⟨rfl, low, -⟩ | ⟨rfl, high, -⟩ := made
    · rw [stepRefused_up]
      omega
    · rw [stepRefused_down]
      omega
  have stepped : ((v.units[n]'n.isLt).step up v.now).count = c := by
    unfold ChanUnit.step
    dsimp only
    rw [count]
    obtain ⟨rfl, -, same⟩ | ⟨rfl, -, same⟩ := made <;> exact same.symm
  refine ⟨(v.setUnit n ((v.units[n]'n.isLt).step up v.now)).judgeLamp, State.Stands.judgeLamp ?_, if_neg free⟩
  have sensed : ((v.units[n]'n.isLt).step up v.now).sensed = ({ x with count := c } : ChanUnit).sensed := by
    have same : (v.units[n]'n.isLt).sensed = x.sensed := by
      have := kept_sensed h.kept n
      rw [setUnit_unit, if_pos rfl] at this
      exact this
    have taken := congrArg (fun y : ChanUnit => ({ y with count := c } : ChanUnit)) same
    rw [← stepped] at taken ⊢
    exact taken
  refine ⟨?_, h.recs, h.port, h.review, h.eval, ?_⟩
  · have kept := setUnit_over (n := n) h.kept sensed
    rwa [setUnit_setUnit] at kept
  · rw [setUnit_unit, if_pos rfl]
    exact h.record

/-- A sample has left the levels, the held pair and the count of `x`: with a step, compared with the travel, or with none. -/
def State.Sampled (s w : State) (n : Ch) (x : ChanUnit) : Prop :=
  ∃ v, s.Stands v n x ∧ (w = v ∧ x.count = (s.units[n]'n.isLt).count ∨ w = v.compareStep n)

theorem State.Sampled.kept {x : ChanUnit} (h : s.Sampled w n x) : w.kept = (s.setUnit n x).kept := by
  obtain ⟨v, stands, ⟨rfl, -⟩ | rfl⟩ := h
  · exact stands.kept
  · exact (compareStep_kept v n).trans stands.kept

theorem State.Sampled.stepped {x : ChanUnit} (h : s.Sampled w n x) (moved : x.count ≠ (s.units[n]'n.isLt).count) :
    s.Stepped w.finish n x.count := by
  obtain ⟨v, stands, ⟨-, same⟩ | rfl⟩ := h
  · exact absurd same moved
  · exact compareStep_stepped stands

/-! #### The sample's command -/

/-- The accepted levels after a sample (R3). -/
def ChanUnit.accepting (x : ChanUnit) (a b i : Bool) : ChanUnit := { x with accA := a, accB := b, accI := i }

/-- The state in which the decoder works at a sample. -/
def State.accepting (s : State) (n : Ch) (a b i : Bool) : State := s.setUnit n ((s.units[n]'n.isLt).accepting a b i)

theorem accepting_unit (a b i : Bool) : (s.accepting n a b i).units[n] = (s.units[n]'n.isLt).accepting a b i := by
  unfold State.accepting
  rw [setUnit_unit, if_pos rfl]

theorem accepting_stands (a b i : Bool) : s.Stands (s.accepting n a b i) n ((s.units[n]'n.isLt).accepting a b i) := stands_setUnit rfl rfl

theorem encoderLevelAccepted_of {a b i : LineRun} {a' b' i' : Bool} (chan : s.chan? n = some k)
    (ha : a' = debounce k.debounceUs (s.units[n]'n.isLt).accA a)
    (hb : b' = if k.mode = .single then false else debounce k.debounceUs (s.units[n]'n.isLt).accB b)
    (hi : i' = debounce k.debounceUs (s.units[n]'n.isLt).accI i)
    (hw : w = (s.accepting n a' b' i').decode n k (s.units[n]'n.isLt) a' b') :
    exec (.encoderLevelAccepted n a b i) s =
      .next (if !k.indexMet (s.units[n]'n.isLt).accA (s.units[n]'n.isLt).accB (s.units[n]'n.isLt).accI && k.indexMet a' b' i'
        then w.indexEvent n k else w).finish := by
  show execEncoderLevelAccepted n a b i s = _
  unfold execEncoderLevelAccepted
  rw [chan, hw, ha, hb, hi]
  rfl

theorem decode_same {u : ChanUnit} {a b : Bool} (quad : k.mode ≠ .single) (sameA : u.accA = a) (sameB : u.accB = b) : s.decode n k u a b = s := by
  unfold State.decode
  cases mode : k.mode with
  | single => exact absurd mode quad
  | _ => exact if_pos ⟨sameA, sameB⟩

theorem decode_quad {u : ChanUnit} {a b : Bool} (quad : k.mode ≠ .single) (changed : a ≠ u.accA ∨ b ≠ u.accB) :
    s.decode n k u a b = s.quadTransition n k a b := by
  unfold State.decode
  cases mode : k.mode with
  | single => exact absurd mode quad
  | _ => exact if_neg (fun h => changed.elim (fun ne => ne h.1.symm) (fun ne => ne h.2.symm))

theorem decode_single {u : ChanUnit} {a b : Bool} (single : k.mode = .single) :
    s.decode n k u a b = if !u.accA && a then s.singleEdge n else s := by
  unfold State.decode
  rw [single]

/-- The unit of a channel after a transition of the accepted pair, without its step (R6). -/
def ChanUnit.holding (x : ChanUnit) (a b i : Bool) : ChanUnit := { x.accepting a b i with heldA := a, heldB := b }

theorem quadTransition_cases {a b i : Bool} (s : State) (n : Ch) (k : ChanCfg) :
    ∃ v, s.Stands v n ((s.units[n]'n.isLt).holding a b i) ∧ v.units[n]'n.isLt = (s.units[n]'n.isLt).holding a b i ∧
      v.flags = s.flags ∧ v.now = s.now ∧ (∀ m : Ch, m ≠ n → v.units[m]'m.isLt = s.units[m]'m.isLt) ∧
      (s.accepting n a b i).quadTransition n k a b =
        match (quadStep k.mode (s.units[n]'n.isLt).heldA (s.units[n]'n.isLt).heldB a b).swapped k.swap with
        | .none => v
        | .up => v.stepCount n true
        | .down => v.stepCount n false
        | .illegal => v.illegalTransition n := by
  have made : (s.accepting n a b i).setUnit n { (s.accepting n a b i).units[n]'n.isLt with heldA := a, heldB := b } =
      s.setUnit n ((s.units[n]'n.isLt).holding a b i) := by
    rw [accepting_unit]
    exact setUnit_setUnit s n _ _
  refine ⟨s.setUnit n ((s.units[n]'n.isLt).holding a b i), stands_setUnit rfl rfl, ?_, rfl, rfl, fun m ne => ?_, ?_⟩
  · rw [setUnit_unit, if_pos rfl]
  · rw [setUnit_unit, if_neg ne]
  · unfold State.quadTransition
    dsimp only
    rewrite [made, accepting_unit, show ((s.units[n]'n.isLt).accepting a b i).heldA = (s.units[n]'n.isLt).heldA from rfl,
      show ((s.units[n]'n.isLt).accepting a b i).heldB = (s.units[n]'n.isLt).heldB from rfl]
    cases (quadStep k.mode (s.units[n]'n.isLt).heldA (s.units[n]'n.isLt).heldB a b).swapped k.swap <;> rfl

/-- A quadrature transition that steps, or does not count. -/
theorem quadTransition_sampled {a b i : Bool} {q : QuadStep} {c : Nat}
    (table : q = (quadStep k.mode (s.units[n]'n.isLt).heldA (s.units[n]'n.isLt).heldB a b).swapped k.swap)
    (steps : q = .up ∧ (s.units[n]'n.isLt).count < 65535 ∧ c = (s.units[n]'n.isLt).count + 1 ∨
      q = .down ∧ 0 < (s.units[n]'n.isLt).count ∧ c = (s.units[n]'n.isLt).count - 1 ∨ q = .none ∧ c = (s.units[n]'n.isLt).count) :
    s.Sampled ((s.accepting n a b i).quadTransition n k a b) n { (s.units[n]'n.isLt).holding a b i with count := c } := by
  obtain ⟨v, stands, -, -, -, -, made⟩ := quadTransition_cases (a := a) (b := b) (i := i) s n k
  rw [made, ← table]
  obtain ⟨rfl, below, rfl⟩ | ⟨rfl, above, rfl⟩ | ⟨rfl, rfl⟩ := steps
  · obtain ⟨w, stands', made'⟩ := stepCount_made stands (.inl ⟨rfl, below, rfl⟩)
    exact ⟨w, stands', .inr made'⟩
  · obtain ⟨w, stands', made'⟩ := stepCount_made stands (.inr ⟨rfl, above, rfl⟩)
    exact ⟨w, stands', .inr made'⟩
  · exact ⟨v, stands, .inl ⟨rfl, rfl⟩⟩

end

end Sys2Proof.Machine

namespace Sys2Proof.Machine
set_option Elab.async false

/-! ### Steps of the decoder at rest (R4 to R7) -/

section

variable {s t u v w : State} {n : Ch} {k : ChanCfg}

theorem indexEvent_off (off : k.indexMode = .off) : w.indexEvent n k = w := by
  unfold State.indexEvent
  rw [off]

/-- A sample without an index event, or in index mode OFF. -/
theorem encoderLevelAccepted_plain {a b i : LineRun} {a' b' i' : Bool} (chan : s.chan? n = some k)
    (ha : a' = debounce k.debounceUs (s.units[n]'n.isLt).accA a)
    (hb : b' = if k.mode = .single then false else debounce k.debounceUs (s.units[n]'n.isLt).accB b)
    (hi : i' = debounce k.debounceUs (s.units[n]'n.isLt).accI i)
    (plain : k.indexMode = .off ∨ k.indexMet (s.units[n]'n.isLt).accA (s.units[n]'n.isLt).accB (s.units[n]'n.isLt).accI = true ∨
      k.indexMet a' b' i' = false) :
    exec (.encoderLevelAccepted n a b i) s = .next ((s.accepting n a' b' i').decode n k (s.units[n]'n.isLt) a' b').finish := by
  rw [encoderLevelAccepted_of chan ha hb hi rfl]
  obtain off | met | missed := plain
  · rw [indexEvent_off off, ite_self]
  · rw [met, Bool.not_true, Bool.false_and, if_neg Bool.false_ne_true]
  · rw [missed, Bool.and_false, if_neg Bool.false_ne_true]

/-- An illegal transition that does not fault is counted while a travel exists, up to 4 (R6). -/
theorem illegalTransition_counted {x : ChanUnit} (stands : s.Stands v n x) (own : v.units[n]'n.isLt = x)
    (free : s.travel? n = none ∨ x.illegal ≠ 3) : s.Stands (v.illegalTransition n) n x ∧
      ((v.illegalTransition n).units[n]'n.isLt).illegal = if s.travel? n ≠ none ∧ x.illegal < 4 then x.illegal + 1 else x.illegal := by
  have travel : v.travel? n = s.travel? n := travel?_congr stands.state
  have counts : ((v.travel? n).isSome && decide ((v.units[n]'n.isLt).illegal < 4)) = true ↔ s.travel? n ≠ none ∧ x.illegal < 4 := by
    rw [travel, own]
    simp [Option.isSome_iff_ne_none]
  unfold State.illegalTransition
  by_cases counted : s.travel? n ≠ none ∧ x.illegal < 4
  · rw [if_pos counted, if_pos (counts.mpr counted)]
    dsimp only
    rw [own, if_neg (free.resolve_left counted.1)]
    refine ⟨⟨?_, stands.recs, stands.port, stands.review, stands.eval, ?_⟩, ?_⟩
    · have kept := setUnit_over (n := n) (x := { x with illegal := x.illegal + 1 }) (y := x) stands.kept rfl
      rwa [setUnit_setUnit] at kept
    · rw [setUnit_unit, if_pos rfl]
      exact (congrArg ChanUnit.indexRecord own).symm.trans stands.record
    · rw [setUnit_unit, if_pos rfl]
  · rw [if_neg counted, if_neg (fun h => counted (counts.mp h))]
    exact ⟨stands, congrArg ChanUnit.illegal own⟩

theorem quadStep_table {m : DecodeMode} (quad : m ≠ .single) :
    quadStep m false false true false = .up ∧ quadStep m true false false false = .down ∧
    quadStep m true false true true = (if m = .x4 then .up else .none) ∧
    quadStep m true true false true = (if m = .x1 then .none else .up) ∧
    quadStep m false true false false = (if m = .x4 then .up else .none) ∧
    quadStep m true true true false = (if m = .x4 then .down else .none) ∧
    quadStep m false true true true = (if m = .x1 then .none else .down) ∧
    quadStep m false false false true = (if m = .x4 then .down else .none) ∧
    quadStep m false false true true = .illegal ∧ quadStep m true true false false = .illegal ∧
    quadStep m true false false true = .illegal ∧ quadStep m false true true false = .illegal := by
  cases m with
  | single => exact absurd rfl quad
  | x1 | x2 | x4 => decide

theorem checkDraw_units (s : State) : s.checkDraw.units = s.units := by
  unfold State.checkDraw
  split
  · rfl
  · split
    · exact State.submit_units s _ _
    · rfl

/-- Settles O21: the table by evaluation, each transition by what the decoder makes of it. -/
theorem quadratureSteps : Obligations.QuadratureSteps := by
  unfold Obligations.QuadratureSteps
  refine ⟨fun m quad => quadStep_table quad, ⟨rfl, rfl, rfl, rfl, fun q => by cases q <;> rfl⟩, ?_⟩
  intro n a b i s k a' b' i' q chan quad ha hb hi changed plain table c cases_
  have ends := encoderLevelAccepted_plain chan ha (hb.trans (if_neg quad).symm) hi plain
  rw [decode_quad quad changed] at ends
  have rests (sampled : s.Sampled ((s.accepting n a' b' i').quadTransition n k a' b') n
      { (s.units[n]'n.isLt).holding a' b' i' with count := c }) (legal : q ≠ .illegal) :
      ∃ t, exec (.encoderLevelAccepted n a b i) s = .next t ∧
        t.kept = (s.setUnit n { s.units[n]'n.isLt with
          accA := a', accB := b', accI := i', heldA := a', heldB := b', count := c }).kept ∧
        (c ≠ (s.units[n]'n.isLt).count → s.Stepped t n c) ∧
        (q = .illegal → s.reviewDue = false → s.evalDue = false → t.stateOf n = s.stateOf n ∧
          (t.units[n]'n.isLt).illegal = if s.travel? n ≠ none ∧ (s.units[n]'n.isLt).illegal < 4 then (s.units[n]'n.isLt).illegal + 1
            else (s.units[n]'n.isLt).illegal) :=
    ⟨_, ends, (finish_kept _).trans sampled.kept, sampled.stepped, fun h => absurd h legal⟩
  obtain ⟨up, rest⟩ | ⟨down, rest⟩ | ⟨none, rest⟩ | ⟨illegal, free, same⟩ := cases_
  · exact rests (quadTransition_sampled table (.inl ⟨up, rest⟩)) (by rw [up]; decide)
  · exact rests (quadTransition_sampled table (.inr (.inl ⟨down, rest⟩))) (by rw [down]; decide)
  · exact rests (quadTransition_sampled table (.inr (.inr ⟨none, rest⟩))) (by rw [none]; decide)
  · obtain ⟨v, stands, own, -, -, -, made⟩ := quadTransition_cases (a := a') (b := b') (i := i') s n k
    rw [made, ← table, illegal] at ends
    obtain ⟨counted, value⟩ := illegalTransition_counted stands own free
    subst same
    refine ⟨_, ends, (finish_kept _).trans counted.kept, fun moved => absurd rfl moved, fun _ review eval => ?_⟩
    rw [finish_of_not_due (counted.review.trans review) (counted.eval.trans eval), checkDraw_stateOf]
    refine ⟨counted.state, ?_⟩
    rw [checkDraw_units]
    exact value

theorem accepting_singleDir (a b i : Bool) : ((s.accepting n a b i).units[n]'n.isLt).singleDir = (s.units[n]'n.isLt).singleDir := by
  rw [accepting_unit]
  rfl

/-- An edge in SINGLE mode that steps, or does not count (R7). -/
theorem singleEdge_sampled {a i : Bool} {c : Nat} (single : k.mode = .single)
    (steps : ((s.units[n]'n.isLt).accA = true ∨ a = false ∨ (s.units[n]'n.isLt).singleDir = none) ∧ c = (s.units[n]'n.isLt).count ∨
      (s.units[n]'n.isLt).accA = false ∧ a = true ∧
        ((s.units[n]'n.isLt).singleDir = some .opening ∧ (s.units[n]'n.isLt).count < 65535 ∧ c = (s.units[n]'n.isLt).count + 1 ∨
          (s.units[n]'n.isLt).singleDir = some .closing ∧ 0 < (s.units[n]'n.isLt).count ∧ c = (s.units[n]'n.isLt).count - 1)) :
    s.Sampled ((s.accepting n a false i).decode n k (s.units[n]'n.isLt) a false) n
      { (s.units[n]'n.isLt).accepting a false i with count := c } := by
  have stands : s.Stands (s.accepting n a false i) n _ := accepting_stands a false i
  have edge : (s.accepting n a false i).singleEdge n = match (s.units[n]'n.isLt).singleDir with
      | none => s.accepting n a false i
      | some d => (s.accepting n a false i).stepCount n (d = .opening) := by
    unfold State.singleEdge
    rewrite [accepting_singleDir]
    cases (s.units[n]'n.isLt).singleDir <;> rfl
  rw [decode_single single, edge]
  obtain ⟨none, rfl⟩ | ⟨low, rfl, steps⟩ := steps
  · refine ⟨_, stands, .inl ⟨?_, rfl⟩⟩
    obtain high | falling | undriven := none
    · rw [high]
      rfl
    · rw [falling, Bool.and_false]
      rfl
    · rw [undriven]
      exact ite_self _
  · rw [low]
    obtain ⟨opens, below, rfl⟩ | ⟨closes, above, rfl⟩ := steps
    · obtain ⟨w, stands', made⟩ := stepCount_made stands (.inl ⟨rfl, below, rfl⟩)
      rw [opens]
      exact ⟨w, stands', .inr made⟩
    · obtain ⟨w, stands', made⟩ := stepCount_made stands (.inr ⟨rfl, above, rfl⟩)
      rw [closes]
      exact ⟨w, stands', .inr made⟩

theorem singleDir_cases {x : ChanUnit} {d : Direction} (signed : x.drive.driven? = some d ∨
    x.drive.driven? = none ∧ x.coast ≠ none ∧ x.lastDir = some d) : x.singleDir = some d := by
  unfold ChanUnit.singleDir
  obtain driven | ⟨off, coasts, last⟩ := signed
  · rw [driven]
  · rw [off]
    dsimp only
    rw [if_pos (Option.isSome_iff_ne_none.mpr coasts), last]

theorem singleDir_none {x : ChanUnit} (off : x.drive.driven? = none) (still : x.coast = none ∨ x.lastDir = none) : x.singleDir = none := by
  unfold ChanUnit.singleDir
  rw [off]
  dsimp only
  obtain still | still := still
  · rw [still]
    rfl
  · rw [still, ite_self]

/-- Settles O22: the sign of the edge by the drive, the coast window and the last direction. -/
theorem singleModeSteps : Obligations.SingleModeSteps := by
  unfold Obligations.SingleModeSteps
  intro n a b i s k c chan single off level cases_
  have ends := encoderLevelAccepted_plain (a := a) (b := b) chan rfl (if_pos single).symm level.symm (.inl off)
  have sampled : s.Sampled ((s.accepting n (debounce k.debounceUs (s.units[n]'n.isLt).accA a) false (s.units[n]'n.isLt).accI).decode n k
      (s.units[n]'n.isLt) (debounce k.debounceUs (s.units[n]'n.isLt).accA a) false) n
      { (s.units[n]'n.isLt).accepting (debounce k.debounceUs (s.units[n]'n.isLt).accA a) false (s.units[n]'n.isLt).accI with count := c } := by
    refine singleEdge_sampled single ?_
    obtain ⟨none, same⟩ | ⟨⟨low, rising⟩, signed⟩ := cases_
    · exact .inl ⟨none.imp_right (Or.imp_right fun h => singleDir_none h.1 h.2), same⟩
    · exact .inr ⟨low, rising, signed.imp (And.imp_left singleDir_cases) (And.imp_left singleDir_cases)⟩
  exact ⟨_, ends, (finish_kept _).trans sampled.kept, sampled.stepped⟩

end

end Sys2Proof.Machine

namespace Sys2Proof.Machine
set_option Elab.async false

/-! ### Encoder faults at samples (R6 to R8, R14, R37) -/

section

variable {s t u v w : State} {n : Ch} {k : ChanCfg}

/-- What holds of a channel's state and unit is kept by reviews and evaluations, if it is by each change of the channel. -/
theorem Settles.pairs {r : Prop} {l : Option Ch} (h : Settles r l s t) {Q : ChState → ChanUnit → Prop}
    (start : Q (s.stateOf n) (s.units[n]'n.isLt))
    (turn : ∀ u new, Q (u.stateOf n) (u.units[n]'n.isLt) → Turn l u n new → Q new ((u.setState n new).units[n]'n.isLt))
    (create : ∀ u x, Q (u.stateOf n) (u.units[n]'n.isLt) → Created u n x → Q (.waiting x) ((u.createTravel n x).units[n]'n.isLt)) :
    Q (t.stateOf n) (t.units[n]'n.isLt) := by
  induction h with
  | refl => exact start
  | @turn u m new _ hn ih =>
    by_cases same : n = m
    · subst same
      rw [stateOf_setState]
      exact turn u new ih hn
    · rw [stateOf_setState_ne _ _ _ _ same, setState_unit_ne _ _ _ _ same]
      exact ih
  | @create u m x _ hn ih =>
    by_cases same : n = m
    · subst same
      rw [show (u.createTravel n x).stateOf n = .waiting x from (stateOf_askEval _ n).trans (stateOf_setState _ n _)]
      exact create u x ih hn
    · unfold State.createTravel
      rw [State.askEval_units, stateOf_askEval, stateOf_setState_ne _ _ _ _ same, setState_unit_ne _ _ _ _ same, setUnit_unit, if_neg same]
      exact ih
  | ended _ _ _ _ _ ih =>
    rw [State.judgeLamp_units, stateOf_of_recs (State.judgeLamp_recs _) n]
    exact ih
  | marks _ _ _ ih | review _ _ _ _ _ ih | aside _ _ _ ih => exact ih
  | draw _ _ _ ih =>
    rw [show State.units (State.submitDraw _ _ _) = _ from State.submit_units _ _ _,
      stateOf_of_recs (show State.recs (State.submitDraw _ _ _) = _ from State.submit_recs _ _ _) n]
    exact ih

/-- Reviews and evaluations leave the unit of a FAULTED channel. -/
theorem Settles.faulted_unit {r : Prop} {l : Option Ch} (h : Settles r l s t) (faulted : (s.stateOf n).isFaulted = true) :
    t.units[n]'n.isLt = s.units[n]'n.isLt := by
  refine (h.pairs (n := n) (Q := fun c x => c.isFaulted = true ∧ x = s.units[n]'n.isLt) ⟨faulted, rfl⟩
    (fun u new on turn => ?_) (fun u x on created => ?_)).2
  · rw [turn.not_faulted] at on
    cases on.1
  · rw [created.isFaulted] at on
    cases on.1

theorem abortLearn_faulted_unit (faulted : (s.stateOf n).isFaulted = true) : s.abortLearn.units[n]'n.isLt = s.units[n]'n.isLt := by
  unfold State.abortLearn
  split
  · rfl
  · rename_i p session
    split
    · rfl
    · have lamp := stateOf_of_recs (State.judgeLamp_recs
        { s with port := { s.port with session := none, store := none } }) n
      have chain := (endSession_settles session).faulted_unit (n := n) (by rw [lamp]; exact faulted)
      rw [State.judgeLamp_units] at chain
      exact chain

theorem encoderFaulted_rest (s : State) (n : Ch) : (s.encoderFaulted n).kept = { s.kept with flags := (s.encoderFaulted n).flags } ∧
    ((s.encoderFaulted n).stateOf n).isFaulted = true ∧ (s.encoderFaulted n).units[n]'n.isLt = (s.units[n]'n.isLt).driveOff := by
  have plain (o : Bool) : (s.setState n (.faulted o true)).kept = { s.kept with flags := (s.setState n (.faulted o true)).flags } ∧
      ((s.setState n (.faulted o true)).stateOf n).isFaulted = true ∧
      (s.setState n (.faulted o true)).units[n]'n.isLt = (s.units[n]'n.isLt).driveOff := by
    refine ⟨?_, by rw [stateOf_setState]; rfl, setState_unit_undriven s n rfl⟩
    rw [setState_kept, kept_flags (setState_kept s n (.faulted o true))]
    rfl
  have flagged (o : Bool) : ((s.setState n (.faulted o true)).beginCondition (.encoder n)).kept =
        { s.kept with flags := ((s.setState n (.faulted o true)).beginCondition (.encoder n)).flags } ∧
      (((s.setState n (.faulted o true)).beginCondition (.encoder n)).stateOf n).isFaulted = true ∧
      ((s.setState n (.faulted o true)).beginCondition (.encoder n)).units[n]'n.isLt = (s.units[n]'n.isLt).driveOff := by
    obtain ⟨-, state, unit⟩ := plain o
    have kept := setState_kept s n (.faulted o true)
    generalize s.setState n (.faulted o true) = v at *
    refine ⟨?_, ?_, by rw [beginCondition_units, unit]⟩
    · rw [beginCondition_kept, kept]
    · rw [stateOf_of_recs (beginCondition_recs v _) n, state]
  unfold State.encoderFaulted
  split
  · exact plain _
  · exact flagged _
  · exact flagged _

/-- Of what no review or evaluation changes, an encoder fault changes the reference and the flags. -/
theorem encoderFault_kept (s : State) (n : Ch) : (s.encoderFault n).finish.kept =
    { (s.setRec n { s.recs[n]'n.isLt with referenced := false }).kept with flags := (s.encoderFault n).finish.flags } := by
  obtain ⟨kept, -⟩ := encoderFaulted_rest (s.setReferenced n false) n
  have rests {x : State} (same : x.kept = ((s.setReferenced n false).encoderFaulted n).kept) : x.finish.kept =
      { (s.setRec n { s.recs[n]'n.isLt with referenced := false }).kept with flags := x.finish.flags } := by
    have rest := (finish_kept x).trans same
    rw [kept_flags rest, rest, kept, setReferenced_kept]
  rw [encoderFault_eq]
  split
  · exact rests (abortLearn_kept _)
  · exact rests rfl

/-- An encoder fault cuts the drive of the unit, and leaves the rest of it. -/
theorem encoderFault_unit (s : State) (n : Ch) : (s.encoderFault n).finish.units[n]'n.isLt = (s.units[n]'n.isLt).driveOff := by
  obtain ⟨-, faulted, unit⟩ := encoderFaulted_rest (s.setReferenced n false) n
  rw [setReferenced_units] at unit
  rw [encoderFault_eq]
  generalize (s.setReferenced n false).encoderFaulted n = v at faulted unit ⊢
  have rests {x : State} (state : x.stateOf n = v.stateOf n) (same : x.units[n]'n.isLt = v.units[n]'n.isLt) :
      x.finish.units[n]'n.isLt = (s.units[n]'n.isLt).driveOff :=
    ((finish_settles x).faulted_unit (by rw [state, faulted])).trans (same.trans unit)
  split
  · exact rests (abortLearn_faulted faulted) (abortLearn_faulted_unit faulted)
  · exact rests rfl rfl

theorem sensed_of_units (units : t.kept.units = s.kept.units) (m : Ch) : (t.units[m]'m.isLt).sensed = (s.units[m]'m.isLt).sensed := by
  have same := congrArg (fun x : Vector ChanUnit 4 => x[m]'m.isLt) units
  simpa [State.kept] using same

/-! #### Faults of the decoder -/

/-- What an encoder fault at a sample leaves at rest: of the sample, the levels, the held pair and the count, and no other channel
changed. -/
structure State.FaultedAt (s t : State) (n : Ch) (x : ChanUnit) : Prop where
  faulted : s.EncoderFaulted t n
  count : (t.units[n]'n.isLt).count = x.count
  heldA : (t.units[n]'n.isLt).heldA = x.heldA
  heldB : (t.units[n]'n.isLt).heldB = x.heldB
  others : ∀ m : Ch, m ≠ n → (t.units[m]'m.isLt).sensed = (s.units[m]'m.isLt).sensed ∧ (t.recs[m]'m.isLt).marks = (s.recs[m]'m.isLt).marks

theorem encoderFault_sampled {x : ChanUnit} (stands : s.Stands v n x) : s.FaultedAt (v.encoderFault n).finish n x := by
  have flags : v.flags = s.flags := congrArg (·.flags) stands.kept
  have faulted : s.EncoderFaulted (v.encoderFault n).finish n :=
    (encoderFault_faulted v n).from_same stands.state flags
  have kept := encoderFault_kept v n
  generalize (v.encoderFault n).finish = t at *
  have units : t.kept.units = (s.setUnit n x).kept.units := (congrArg (·.units) kept).trans (congrArg (·.units) stands.kept)
  have recs : t.kept.recs = (v.setRec n { v.recs[n]'n.isLt with referenced := false }).kept.recs := congrArg (·.recs) kept
  have own : (t.units[n]'n.isLt).sensed = x.sensed := by
    have same := sensed_of_units units n
    rwa [setUnit_unit, if_pos rfl] at same
  refine ⟨faulted, (congrArg ChanUnit.count own :), (congrArg ChanUnit.heldA own :), (congrArg ChanUnit.heldB own :), fun m ne => ⟨?_, ?_⟩⟩
  · have same := sensed_of_units units m
    rwa [setUnit_unit, if_neg ne] at same
  · have same := marks_of_recs recs m
    rwa [setRec_marks, if_neg ne, stands.recs] at same

/-- A step past an end of the range (R8). -/
theorem stepCount_refused {x : ChanUnit} {up : Bool} (stands : s.Stands v n x)
    (refused : up = true ∧ 65535 ≤ x.count ∨ up = false ∧ x.count = 0) :
    v.stepCount n up = if (s.recs[n]'n.isLt).referenced then v.encoderFault n else v := by
  have stops : stepRefused (v.units[n]'n.isLt).count up = true := by
    rw [stands.count]
    obtain ⟨rfl, high⟩ | ⟨rfl, low⟩ := refused
    · exact stepRefused_up.mpr high
    · exact stepRefused_down.mpr low
  unfold State.stepCount
  rw [if_pos stops, stands.recs]

/-- The fourth illegal transition of a travel (R6). -/
theorem illegalTransition_faults {x : ChanUnit} (stands : s.Stands v n x) (own : v.units[n]'n.isLt = x) (travel : s.travel? n ≠ none)
    (third : x.illegal = 3) : ∃ w, v.illegalTransition n = w.encoderFault n ∧ s.Stands w n x ∧ (w.units[n]'n.isLt).illegal = 4 := by
  have counts : ((v.travel? n).isSome && decide ((v.units[n]'n.isLt).illegal < 4)) = true := by
    rw [travel?_congr stands.state, own, third]
    simpa [Option.isSome_iff_ne_none] using travel
  unfold State.illegalTransition
  rw [if_pos counts]
  dsimp only
  rw [own, third, if_pos rfl]
  refine ⟨_, rfl, ⟨?_, stands.recs, stands.port, stands.review, stands.eval, ?_⟩, ?_⟩
  · have kept := setUnit_over (n := n) (x := { x with illegal := 3 + 1 }) (y := x) stands.kept rfl
    rwa [setUnit_setUnit] at kept
  · rw [setUnit_unit, if_pos rfl]
    exact (congrArg ChanUnit.indexRecord own).symm.trans stands.record
  · rw [setUnit_unit, if_pos rfl]

theorem indexMet_low (k : ChanCfg) (a b : Bool) : k.indexMet a b false = false := rfl

/-- Settles O23: refused steps and the fourth illegal transition. -/
theorem encoderFaults : Obligations.EncoderFaults := by
  unfold Obligations.EncoderFaults
  intro n a b i s k a' chan ha level low
  have plain (b' : Bool) : k.indexMode = .off ∨ k.indexMet (s.units[n]'n.isLt).accA (s.units[n]'n.isLt).accB (s.units[n]'n.isLt).accI = true ∨
      k.indexMet a' b' (s.units[n]'n.isLt).accI = false := .inr (.inr (by rw [low]; exact indexMet_low k a' b'))
  refine ⟨fun quad b' q hb changed table => ?_, fun single fallen rising signed => ?_⟩
  · have ends := encoderLevelAccepted_plain chan ha (hb.trans (if_neg quad).symm) level.symm (plain b')
    obtain ⟨v, stands, own, -, -, -, made⟩ := quadTransition_cases (a := a') (b := b') (i := (s.units[n]'n.isLt).accI) s n k
    rw [decode_quad quad changed, made, ← table] at ends
    have refuses (past : q = .up ∧ 65535 ≤ (s.units[n]'n.isLt).count ∨ q = .down ∧ (s.units[n]'n.isLt).count = 0) :
        exec (.encoderLevelAccepted n a b i) s =
          .next (if (s.recs[n]'n.isLt).referenced then v.encoderFault n else v).finish ∧ q ≠ .illegal := by
      obtain ⟨rfl, high⟩ | ⟨rfl, zero⟩ := past
      · exact ⟨ends.trans (congrArg (fun x : State => (.next x.finish : Result)) (stepCount_refused stands (.inl ⟨rfl, high⟩))), nofun⟩
      · exact ⟨ends.trans (congrArg (fun x : State => (.next x.finish : Result)) (stepCount_refused stands (.inr ⟨rfl, zero⟩))), nofun⟩
    refine ⟨fun past unref => ?_, fun faults => ?_⟩
    · have next := (refuses past).1
      rw [unref] at next
      exact ⟨_, next, (finish_kept v).trans stands.kept⟩
    · obtain ⟨past, ref⟩ | ⟨illegal, travel, third⟩ := faults
      · obtain ⟨next, legal⟩ := refuses past
        rw [ref] at next
        obtain ⟨faulted, count, heldA, heldB, others⟩ := encoderFault_sampled stands
        exact ⟨_, next, faulted, count, heldA, heldB, fun h => absurd h legal, others⟩
      · obtain ⟨w, made', stands', four⟩ := illegalTransition_faults stands own travel third
        rw [illegal] at ends
        obtain ⟨faulted, count, heldA, heldB, others⟩ := encoderFault_sampled stands'
        refine ⟨_, ends.trans (congrArg (fun x : State => (.next x.finish : Result)) made'), faulted, count, heldA, heldB, fun _ => ?_, others⟩
        rw [encoderFault_unit]
        have unchanged (x : ChanUnit) : x.driveOff.illegal = x.illegal := by
          unfold ChanUnit.driveOff
          split <;> rfl
        rw [unchanged, four]
  · subst rising
    have ends := encoderLevelAccepted_plain (b := b) chan ha (if_pos single).symm level.symm (plain false)
    have stands := accepting_stands (s := s) (n := n) true false (s.units[n]'n.isLt).accI
    have next : exec (.encoderLevelAccepted n a b i) s = .next (if (s.recs[n]'n.isLt).referenced
        then (s.accepting n true false (s.units[n]'n.isLt).accI).encoderFault n else s.accepting n true false (s.units[n]'n.isLt).accI).finish := by
      rw [ends, decode_single single, fallen]
      unfold State.singleEdge
      rw [accepting_singleDir]
      obtain ⟨opens, high⟩ | ⟨closes, zero⟩ := signed
      · rw [opens]
        exact congrArg (fun x : State => (.next x.finish : Result)) (stepCount_refused stands (.inl ⟨rfl, high⟩))
      · rw [closes]
        exact congrArg (fun x : State => (.next x.finish : Result)) (stepCount_refused stands (.inr ⟨rfl, zero⟩))
    refine ⟨fun unref => ?_, fun ref => ?_⟩
    · rw [unref] at next
      exact ⟨_, next, (finish_kept _).trans stands.kept⟩
    · rw [ref] at next
      obtain ⟨faulted, count, -⟩ := encoderFault_sampled stands
      exact ⟨_, next, faulted, count⟩

end

end Sys2Proof.Machine

namespace Sys2Proof.Machine
set_option Elab.async false

/-! ### Index events (R9 to R13) -/

section

variable {s t u v w : State} {n : Ch} {k : ChanCfg}

theorem indexMet_iff (k : ChanCfg) (a b i : Bool) :
    k.indexMet a b i = true ↔ i = true ∧ a = k.phaseA ∧ (k.mode = .single ∨ b = k.phaseB) := by
  unfold ChanCfg.indexMet
  simp [and_assoc]

/-! #### What a sample leaves of the channel's travel -/

/-- The state of a channel after a sample: as it was, unless its step has ended the travel or the backing. -/
theorem State.Sampled.cases {x : ChanUnit} (h : s.Sampled w n x) (targets : s.TargetsOk) :
    (∃ y, s.stateOf n = .running y ∧ (y.kind = .opn ∨ y.kind = .reduce) ∧ w.stateOf n = .still) ∨
      (∃ y e, s.stateOf n = .backing y e ∧ w.stateOf n = .paused y 50) ∨ s.Stands w n x := by
  obtain ⟨v, stands, ⟨rfl, -⟩ | rfl⟩ := h
  · exact .inr (.inr stands)
  · obtain ⟨y, running, reached, made⟩ | ⟨y, e, backing, -, made⟩ | ⟨made, -⟩ := compareStep_cases v n
    · have running : s.stateOf n = .running y := stands.state.symm.trans running
      obtain ⟨z, target, -⟩ := passed_of_reached reached
      have kind := (targets n y (congrArg ChState.travel? running)).mp (by rw [target]; rfl)
      rw [made]
      exact .inl ⟨y, running, kind, stateOf_complete v n⟩
    · rw [made]
      exact .inr (.inl ⟨y, e, stands.state.symm.trans backing, stateOf_setState v n _⟩)
    · rw [made]
      exact .inr (.inr stands)

theorem referencing_congr (travel : w.travel? n = s.travel? n) : w.referencing n = s.referencing n := by
  unfold State.referencing
  rw [travel]

theorem State.Sampled.referencing {x : ChanUnit} (h : s.Sampled w n x) (targets : s.TargetsOk) : w.referencing n = s.referencing n := by
  obtain ⟨y, running, kind, still⟩ | ⟨y, e, backing, paused⟩ | stands := h.cases targets
  · have none : w.travel? n = none := congrArg ChState.travel? still
    have travel : s.travel? n = some y := congrArg ChState.travel? running
    unfold State.referencing
    rw [none, travel]
    obtain kind | kind := kind <;> simp [kind]
  · refine referencing_congr ?_
    have travel : s.travel? n = some y := congrArg ChState.travel? backing
    exact (congrArg ChState.travel? paused).trans travel.symm
  · exact referencing_congr (travel?_congr stands.state)

theorem State.Sampled.faulted_iff {x : ChanUnit} (h : s.Sampled w n x) (targets : s.TargetsOk) (o e : Bool) :
    w.stateOf n = .faulted o e ↔ s.stateOf n = .faulted o e := by
  obtain ⟨y, running, -, still⟩ | ⟨y, r, backing, paused⟩ | stands := h.cases targets
  · rw [running, still]
    exact ⟨nofun, nofun⟩
  · rw [backing, paused]
    exact ⟨nofun, nofun⟩
  · rw [stands.state]

theorem State.EncoderFaulted.from_iff (h : u.EncoderFaulted t n) (state : ∀ o e, u.stateOf n = .faulted o e ↔ s.stateOf n = .faulted o e)
    (flags : u.flags = s.flags) : s.EncoderFaulted t n := by
  obtain ⟨ref, travel, sound, faulted, flag⟩ := h
  refine ⟨ref, travel, fun h => sound (fun o e is => h o e ((state o e).mp is)), fun o e is => ?_, fun h => ?_⟩
  · rw [← flags]
    exact faulted o e ((state o e).mpr is)
  · rw [← flag_of_flags flags]
    exact flag (fun o is => h o ((state o true).mp is))

/-! #### What an index event does -/

/-- The state in which an index event is delivered, its index-seen mark set (R13). -/
def State.indexSeenAt (s : State) (n : Ch) : State := s.setUnit n { s.units[n]'n.isLt with indexSeen := true }

theorem indexSeenAt_kept (s : State) (n : Ch) : (s.indexSeenAt n).kept = s.kept := setUnit_kept _ _ _ rfl

theorem indexSeenAt_count (s : State) (n : Ch) : ((s.indexSeenAt n).units[n]'n.isLt).count = (s.units[n]'n.isLt).count :=
  kept_count (indexSeenAt_kept s n) n

theorem deliverIndex_idle (other : ∀ y, s.stateOf n = .running y → y.kind ≠ .reference) : s.deliverIndex n = s := by
  unfold State.deliverIndex
  split
  · rename_i y running
    exact if_neg (other y running)
  · rfl

theorem deliverIndex_completes {y : Travel} (running : s.stateOf n = .running y) (kind : y.kind = .reference) :
    s.deliverIndex n = s.complete n := by
  unfold State.deliverIndex
  rw [running]
  exact (if_pos kind).trans (completeTravel_plain (by rw [kind]; rfl))

theorem deliverIndex_kept (s : State) (n : Ch) : (s.deliverIndex n).kept = s.kept := by
  by_cases other : ∀ y, s.stateOf n = .running y → y.kind ≠ .reference
  · rw [deliverIndex_idle other]
  · simp only [not_forall, not_not] at other
    obtain ⟨y, running, kind⟩ := other
    rw [deliverIndex_completes running kind, complete_kept]

/-- An index event that references the channel (R10, R11). -/
theorem indexEvent_references (mode : k.indexMode = .reload ∨
    k.indexMode = .check ∧ ((w.recs[n]'n.isLt).referenced = false ∨ w.referencing n = true)) :
    w.indexEvent n k = ((w.indexSeenAt n).reference n k.c).deliverIndex n := by
  unfold State.indexEvent
  obtain mode | ⟨mode, takes⟩ := mode
  · rw [mode]
    rfl
  · rw [mode]
    refine if_pos ?_
    obtain unref | referencing := takes
    · rw [unref]
      rfl
    · rw [referencing, Bool.or_true]

theorem indexEvent_checks (mode : k.indexMode = .check) (ref : (w.recs[n]'n.isLt).referenced = true) (plain : w.referencing n = false) :
    w.indexEvent n k = if absDiff (w.units[n]'n.isLt).count k.c ≤ k.indexTol then (w.indexSeenAt n).deliverIndex n
      else (w.indexSeenAt n).encoderFault n := by
  unfold State.indexEvent
  rw [mode]
  exact if_neg (by rw [ref, plain]; decide)

/-- The count set to C and the reference taken, at an index event. -/
theorem reference_over {x : ChanUnit} {c : Nat} (kept : w.kept = (s.setUnit n x).kept) : (w.reference n c).kept =
    ((s.setUnit n { x with count := c }).setRec n { s.recs[n]'n.isLt with referenced := true }).kept := by
  refine referenced_over ?_
  unfold State.setCount
  rw [judgeLamp_kept]
  have same : (w.units[n]'n.isLt).sensed = x.sensed := by
    have this := kept_sensed kept n
    rwa [setUnit_unit, if_pos rfl] at this
  have sensed : ({ w.units[n]'n.isLt with count := c } : ChanUnit).sensed = ({ x with count := c } : ChanUnit).sensed :=
    congrArg (fun y : ChanUnit => ({ y with count := c } : ChanUnit)) same
  have set := setUnit_over (n := n) kept sensed
  rwa [setUnit_setUnit] at set

theorem reference_stateOf (s : State) (n : Ch) (c : Nat) : (s.reference n c).stateOf n = s.stateOf n :=
  (setReferenced_stateOf _ n n true).trans (setCount_stateOf s n n c)

/-! #### A REFERENCE travel that its index ends (R31) -/

/-- Reviews and evaluations leave the kind of a travel. -/
theorem Turn.kind {l : Option Ch} {new : ChState} (turn : Turn l u n new) {y : Travel} (travel : new.travel? = some y) :
    ∃ x, u.travel? n = some x ∧ y.kind = x.kind := by
  have replaced {x z : Travel} (h : u.travel? n = some x) (travel : ((u.stateOf n).withTravel z).travel? = some y)
      (kind : z.kind = x.kind) : ∃ x, u.travel? n = some x ∧ y.kind = x.kind := by
    rw [travel?_withTravel h] at travel
    exact ⟨x, h, Option.some.inj travel ▸ kind⟩
  have moved {x z : Travel} (h : u.travel? n = some x) (kind : z.kind = x.kind) (same : some z = some y) :
      ∃ x, u.travel? n = some x ∧ y.kind = x.kind := ⟨x, h, Option.some.inj same ▸ kind⟩
  cases turn with
  | openBarred | openAbove | reduced | lost | dropLearn | maintHold | admitDone => cases travel
  | reclamp x _ _ _ h => exact replaced h travel rfl
  | bandClose x _ _ _ h => exact replaced h travel (reband_kind _ x _)
  | bandReference x _ h => exact replaced h travel (reband_kind _ x _)
  | retarget x _ _ _ h => exact replaced h travel rfl
  | yield x running =>
    have h : u.travel? n = some x := congrArg ChState.travel? running
    exact moved h rfl travel
  | upgrade x _ running =>
    have h : u.travel? n = some x := congrArg ChState.travel? running
    exact moved (z := { x with profile := .storm }) h rfl travel
  | admitted x _ h => exact moved (z := { x with admission := some u.now }) h rfl travel

/-- No REFERENCE travel is made of a referenced channel (R40). -/
theorem finish_no_reference (due : s.deciding = true → s.Judged ∨ s.reviewDue = true) (ref : (s.recs[n]'n.isLt).referenced = true)
    (still : s.stateOf n = .still) (y : Travel) (travel : s.finish.travel? n = some y) : y.kind ≠ .reference := by
  refine finish_channel (Q := fun c => ∀ y, c.travel? = some y → y.kind ≠ .reference) due ?_ (fun u new _ _ _ _ no turn z hz => ?_)
    (fun u x kept _ _ _ _ created z hz => ?_) y travel
  · rw [still]
    exact fun y h => (nomatch h)
  · obtain ⟨x, h, kind⟩ := turn.kind hz
    rw [kind]
    exact no x h
  · obtain rfl := Option.some.inj hz
    cases created with
    | reference _ unref =>
      rw [kept_referenced kept n, ref] at unref
      cases unref
    | _ => nofun

/-! #### The index-seen mark of a closing travel (R13) -/

/-- HELD, or a CLOSE travel in its pause. -/
def ChState.Parked (c : ChState) : Prop := c = .held ∨ ∃ y r, c = .paused y r ∧ y.kind = .close

theorem Turn.parked {l : Option Ch} {new : ChState} (turn : Turn l u n new) (parked : (u.stateOf n).Parked) : new.Parked := by
  have own {x : Travel} (h : u.travel? n = some x) : ∃ r, u.stateOf n = .paused x r ∧ x.kind = .close := by
    unfold State.travel? at h
    obtain held | ⟨y, r, paused, kind⟩ := parked
    · rw [held] at h
      cases h
    · rw [paused] at h
      obtain rfl := Option.some.inj h
      exact ⟨r, paused, kind⟩
  have apart {x : Travel} {k' : TravelKind} {p : Prop} (h : u.travel? n = some x) (hk : x.kind = k') (ne : k' ≠ .close) : p := by
    obtain ⟨-, -, kind⟩ := own h
    exact absurd (hk.symm.trans kind) ne
  have stands {c : ChState} {p : Prop} (h : u.stateOf n = c) (active : c ≠ .held) (ne : ∀ y r, c ≠ .paused y r) : p := by
    obtain held | ⟨y, r, paused, -⟩ := parked
    · exact absurd (h.symm.trans held) active
    · exact absurd (h.symm.trans paused) (ne y r)
  have idle {p : Prop} (candidate : (u.stateOf n).isCandidate = true) : p := by
    obtain held | ⟨y, r, paused, -⟩ := parked
    · rw [held] at candidate
      cases candidate
    · rw [paused] at candidate
      cases candidate
  cases turn with
  | openBarred x h hk | openAbove x _ _ h hk | reclamp x _ _ _ h hk => exact apart h hk nofun
  | bandReference x _ h _ hk => exact apart h hk nofun
  | retarget x _ _ _ h _ hk => exact apart h hk nofun
  | bandClose x b o _ h _ kind =>
    obtain ⟨r, paused, -⟩ := own h
    rw [paused]
    exact .inr ⟨_, r, rfl, (reband_kind _ x b).trans kind⟩
  | reduced y reaches _ _ others =>
    obtain held | ⟨z, r, paused, kind⟩ := parked
    · unfold State.needReaches at reaches
      rw [held, Bool.and_false] at reaches
      cases reaches
    · have h : u.travel? n = some z := congrArg ChState.travel? paused
      exact apart h (others z h) nofun
  | lost x _ state =>
    obtain state | state := state
    · exact stands state nofun (fun _ _ h => (nomatch h))
    · exact stands state nofun (fun _ _ h => (nomatch h))
  | dropLearn x _ _ h learn =>
    obtain ⟨r, -, kind⟩ := own h
    rw [kind] at learn
    cases learn
  | maintHold => exact .inl rfl
  | yield x running | upgrade x _ running => exact stands running nofun (fun _ _ h => (nomatch h))
  | admitted x _ _ candidate | admitDone x _ candidate => exact idle candidate

theorem driveOff_indexSeen (x : ChanUnit) : x.driveOff.indexSeen = x.indexSeen := (driveOff_rest x).1

/-- The index-seen mark of a CLOSE travel in its pause stands at rest. -/
theorem finish_parked_seen (parked : (s.stateOf n).Parked) (seen : (s.units[n]'n.isLt).indexSeen = true) :
    (s.finish.units[n]'n.isLt).indexSeen = true := by
  refine ((finish_settles s).pairs (n := n) (Q := fun c x => c.Parked ∧ x.indexSeen = true) ⟨parked, seen⟩ (fun u new on turn => ?_)
    (fun u x on created => ?_)).2
  · have parked := turn.parked on.1
    have undriven : new.driveDir? = none := by
      obtain held | ⟨y, r, paused, -⟩ := parked
      · rw [held]
        rfl
      · rw [paused]
        rfl
    rw [setState_unit_undriven u n undriven, driveOff_indexSeen]
    exact ⟨parked, on.2⟩
  · exfalso
    obtain held | ⟨y, r, paused, kind⟩ := on.1
    · have reaches : u.needReaches n = true := by
        cases created with
        | close _ _ reaches | reference reaches | reduce _ _ reaches => exact reaches
      unfold State.needReaches at reaches
      rw [held, Bool.and_false] at reaches
      cases reaches
    · exact created.none_of_closing (congrArg ChState.travel? paused) (.inl kind)

/-! #### The events of a sample -/

theorem absDiff_le {a b c : Nat} : absDiff a b ≤ c ↔ a ≤ b + c ∧ b ≤ a + c := by
  unfold absDiff
  constructor <;> omega

/-- What an index event that references the channel leaves at rest (R10, R11, R31). -/
theorem indexEvent_rests {x : ChanUnit} (h : s.Sampled w n x) (targets : s.TargetsOk)
    (mode : k.indexMode = .reload ∨ k.indexMode = .check ∧ ((s.recs[n]'n.isLt).referenced = false ∨ s.referencing n = true))
    {t : State} (ends : t = (w.indexEvent n k).finish) :
    t.kept = ((s.setUnit n { x with count := k.c }).setRec n { s.recs[n]'n.isLt with referenced := true }).kept ∧
      (∀ y, s.stateOf n = .running y → y.kind = .reference → s.isLearnChannel n = false →
        t.TravelEnded n ∧ ∀ z, t.travel? n = some z → z.kind ≠ .reference) := by
  have kept := reference_over (c := k.c) ((indexSeenAt_kept w n).trans h.kept)
  have state := reference_stateOf (w.indexSeenAt n) n k.c
  have port : ((w.indexSeenAt n).reference n k.c).port = w.port := (setReferenced_port _ n true).trans (setCount_port _ n k.c)
  have mode' : k.indexMode = .reload ∨ k.indexMode = .check ∧ ((w.recs[n]'n.isLt).referenced = false ∨ w.referencing n = true) := by
    rw [h.referencing targets, kept_referenced h.kept n]
    exact mode
  rw [ends, indexEvent_references mode']
  generalize (w.indexSeenAt n).reference n k.c = v at kept state port ⊢
  refine ⟨(finish_kept _).trans ((deliverIndex_kept v n).trans kept), fun y running kind plain => ?_⟩
  obtain ⟨z, other, kinds, -⟩ | ⟨z, e, backing, -⟩ | stands := h.cases targets
  · cases running.symm.trans other
    rw [kind] at kinds
    obtain kinds | kinds := kinds <;> cases kinds
  · cases running.symm.trans backing
  · have running : v.stateOf n = .running y := state.trans (stands.state.trans running)
    have learn : v.isLearnChannel n = false := (isLearnChannel_of_port port n).trans (stands.learn.trans plain)
    have ref : ((v.complete n).recs[n]'n.isLt).referenced = true := by
      rw [kept_referenced ((complete_kept v n).trans kept) n, setRec_rec, if_pos rfl]
    rw [deliverIndex_completes running kind]
    exact ⟨finish_still (complete_willReview v n).due ((complete_learn v n n).trans learn) (stateOf_complete v n),
      finish_no_reference (complete_willReview v n).due ref (stateOf_complete v n)⟩

/-- In RELOAD the index event of a closing travel of a referenced channel leaves its index-seen mark set (R13). -/
theorem indexEvent_seen {x : ChanUnit} (h : s.Sampled w n x) (targets : s.TargetsOk) (mode : k.indexMode = .reload)
    (ref : (s.recs[n]'n.isLt).referenced = true) (review : s.reviewDue = false) (eval : s.evalDue = false) {y : Travel}
    (travel : s.travel? n = some y) (kind : y.kind = .close ∨ (y.kind = .learnClose ∨ y.kind = .learnTimed) ∧ s.stateOf n = .running y) :
    ((w.indexEvent n k).finish.units[n]'n.isLt).indexSeen = true := by
  have ref' : (((w.indexSeenAt n).setCount n k.c).recs[n]'n.isLt).referenced = true := by
    rw [State.setCount, State.judgeLamp_recs]
    exact (kept_referenced h.kept n).trans ref
  have made : w.indexEvent n k = (((w.indexSeenAt n).setCount n k.c).deliverIndex n) := by
    rw [indexEvent_references (.inl mode)]
    exact congrArg (fun v : State => v.deliverIndex n) (if_pos ref')
  have seen : (((w.indexSeenAt n).setCount n k.c).units[n]'n.isLt).indexSeen = true := by
    unfold State.setCount
    rw [State.judgeLamp_units, setUnit_unit, if_pos rfl, State.indexSeenAt, setUnit_unit, if_pos rfl]
  have state : ((w.indexSeenAt n).setCount n k.c).stateOf n = w.stateOf n := setCount_stateOf _ n n k.c
  have due : ((w.indexSeenAt n).setCount n k.c).reviewDue = w.reviewDue ∧ ((w.indexSeenAt n).setCount n k.c).evalDue = w.evalDue := by
    unfold State.setCount
    exact ⟨State.judgeLamp_reviewDue _, State.judgeLamp_evalDue _⟩
  rw [made]
  generalize (w.indexSeenAt n).setCount n k.c = v at seen state due ⊢
  obtain ⟨z, running, kinds, -⟩ | ⟨z, e, backing, paused⟩ | stands := h.cases targets
  · have same : s.travel? n = some z := congrArg ChState.travel? running
    cases same.symm.trans travel
    obtain kind | ⟨kind | kind, -⟩ := kind <;> rw [kind] at kinds <;> obtain kinds | kinds := kinds <;> cases kinds
  · have same : s.travel? n = some z := congrArg ChState.travel? backing
    cases same.symm.trans travel
    have close : y.kind = .close := by
      obtain kind | ⟨-, running⟩ := kind
      · exact kind
      · cases running.symm.trans backing
    have parked : v.stateOf n = .paused y 50 := state.trans paused
    rw [deliverIndex_idle (fun y running => by cases parked.symm.trans running)]
    exact finish_parked_seen (.inr ⟨y, 50, parked, close⟩) seen
  · have other (z : Travel) (running : v.stateOf n = .running z) : z.kind ≠ .reference := by
      have same : s.travel? n = some z := congrArg ChState.travel? (stands.state.symm.trans (state.symm.trans running))
      cases same.symm.trans travel
      obtain kind | ⟨kind | kind, -⟩ := kind <;> rw [kind] <;> nofun
    rw [deliverIndex_idle other, finish_of_not_due (due.1.trans (stands.review.trans review)) (due.2.trans (stands.eval.trans eval)),
      checkDraw_units]
    exact seen

/-- An index event in CHECK on a referenced channel whose travel does not reference it (R10, R14). -/
theorem indexEvent_checked {x : ChanUnit} (h : s.Sampled w n x) (targets : s.TargetsOk) (mode : k.indexMode = .check)
    (ref : (s.recs[n]'n.isLt).referenced = true) (plain : s.referencing n = false) {t : State} (ends : t = (w.indexEvent n k).finish) :
    (x.count ≤ k.c + k.indexTol ∧ k.c ≤ x.count + k.indexTol → t.kept = (s.setUnit n x).kept) ∧
      (¬ (x.count ≤ k.c + k.indexTol ∧ k.c ≤ x.count + k.indexTol) → s.EncoderFaulted t n ∧ (t.units[n]'n.isLt).count = x.count) := by
  have count : (w.units[n]'n.isLt).count = x.count := by
    rw [kept_count h.kept n, setUnit_unit, if_pos rfl]
  have made := indexEvent_checks (w := w) mode ((kept_referenced h.kept n).trans ref) ((h.referencing targets).trans plain)
  rw [count, if_congr absDiff_le rfl rfl] at made
  rw [ends, made]
  refine ⟨fun near => ?_, fun far => ?_⟩
  · rw [if_pos near]
    exact (finish_kept _).trans ((deliverIndex_kept _ n).trans ((indexSeenAt_kept w n).trans h.kept))
  · rw [if_neg far]
    refine ⟨(encoderFault_faulted (w.indexSeenAt n) n).from_iff (h.faulted_iff targets) (congrArg (·.flags) h.kept :), ?_⟩
    rw [encoderFault_count, indexSeenAt_count, count]

/-- Settles O24: the sample's step first, then the index event by its mode. -/
theorem indexEvents : Obligations.IndexEvents := by
  unfold Obligations.IndexEvents
  refine ⟨indexMet_iff, ?_⟩
  intro n a b i s k a' b' hA hB c chan targets ha hb missed met cases_
  have high : debounce k.debounceUs (s.units[n]'n.isLt).accI i = true := ((indexMet_iff k _ _ _).mp met).1
  have ends := encoderLevelAccepted_of chan ha hb high.symm rfl
  rw [high] at met
  rw [missed, met, Bool.not_false, Bool.and_true, if_pos rfl] at ends
  have sampled : s.Sampled ((s.accepting n a' b' true).decode n k (s.units[n]'n.isLt) a' b') n
      { s.units[n]'n.isLt with accA := a', accB := b', accI := true, heldA := hA, heldB := hB, count := c } := by
    obtain ⟨quad, sameA, sameB, rfl, rfl, rfl⟩ | ⟨quad, changed, rfl, rfl, q, table, steps⟩ | ⟨single, rfl, rfl, steps⟩ := cases_
    · rw [decode_same quad sameA.symm sameB.symm]
      exact ⟨_, accepting_stands a' b' true, .inl ⟨rfl, rfl⟩⟩
    · rw [decode_quad quad changed]
      exact quadTransition_sampled table steps
    · rw [if_pos single] at hb
      subst hb
      exact singleEdge_sampled single steps
  refine ⟨fun off => ?_, fun mode => ?_, fun mode ref plain => ?_⟩
  · rw [indexEvent_off off] at ends
    exact ⟨_, ends, (finish_kept _).trans sampled.kept⟩
  · obtain ⟨kept, completes⟩ := indexEvent_rests sampled targets mode rfl
    exact ⟨_, ends, kept, completes, fun reload ref _ review eval ⟨x, travel, _, kind⟩ =>
      indexEvent_seen sampled targets reload ref review eval travel kind⟩
  · obtain ⟨near, far⟩ := indexEvent_checked sampled targets mode ref plain rfl
    exact ⟨fun within => ⟨_, ends, near within⟩, fun beyond => ⟨_, ends, far beyond⟩⟩

end

end Sys2Proof.Machine

namespace Sys2Proof.Machine
set_option Elab.async false

/-! ### A low supply and its recovery (R28, R107) -/

section

variable {s t u : State} {n : Ch}

theorem Turned.stopLearn (h : Turned n s t) : Turned n s (t.stopLearn n) := by
  have dropped : Turned n s (t.dropLearn n) := by
    unfold State.dropLearn
    split
    · exact h
    · split
      · exact h.toStill
      · exact h
  unfold State.stopLearn
  dsimp only
  split
  · exact dropped
  · split
    · exact dropped.set _
    · exact dropped.applyNeed

/-- The end of a session changes no other channel than the learn channel. -/
theorem abortLearn_other (other : s.isLearnChannel n = false) : s.abortLearn.recs[n]'n.isLt = s.recs[n]'n.isLt := by
  unfold State.abortLearn State.endSession
  split
  · rfl
  · rename_i p session
    split
    · rfl
    · have ne : n ≠ p.channel := by
        rintro rfl
        simp [State.isLearnChannel, State.learnChannel?, session] at other
      have turned := Turned.stopLearn (n := p.channel)
        (.refl (s := ({ s with port := { s.port with session := none, store := none } } : State).judgeLamp))
      exact (turned.other ne).trans (by rw [State.judgeLamp_recs])

theorem abortLearn_learn (own : s.abortLearn.learnChannel? = some n) : s.learnChannel? = some n := by
  unfold State.abortLearn at own
  split at own
  · exact own
  · rename_i p session
    split at own
    · exact own
    · rw [State.learnChannel?, (endSession_port session).1] at own
      cases own

/-- What holds of a channel's state is kept by the end of a session, if it is by each change this makes. -/
theorem abortLearn_keeps {Q : ChState → Prop} (start : Q (s.stateOf n))
    (turn : ∀ l (u : State) new, u.kept = s.kept → Q (u.stateOf n) → Turn l u n new → Q new)
    (create : ∀ x, Q (.waiting x)) : Q (s.abortLearn.stateOf n) := by
  unfold State.abortLearn
  split
  · exact start
  · rename_i p session
    split
    · exact start
    · have lamp := stateOf_of_recs (State.judgeLamp_recs
        { s with port := { s.port with session := none, store := none } }) n
      refine (endSession_settles session).keeps (Q := Q) (lamp ▸ start) (fun u new kept => turn _ u new (kept.trans ?_))
        (fun _ x _ _ _ => create x)
      rw [judgeLamp_kept]
      rfl

/-! #### What a poor supply leaves at rest -/

/-- With a supply that is not GOOD no evaluation sets a channel moving. -/
theorem Turn.unmoved {l : Option Ch} {new : ChState} (turn : Turn l u n new) (poor : u.arb.supply ≠ .good)
    (rests : (u.stateOf n).moving = false) : new.moving = false := by
  have same (y : Travel) : ((u.stateOf n).withTravel y).moving = (u.stateOf n).moving := by
    cases u.stateOf n <;> rfl
  cases turn with
  | upgrade _ good | admitted _ good => exact absurd good poor
  | reclamp | bandClose | bandReference | retarget => exact (same _).trans rests
  | _ => rfl

/-- What a low supply leaves of a channel's state: RUNNING and BACKING end in YIELDED (R28). -/
def ChState.setAside : ChState → ChState
  | .running x => .yielded x
  | .backing x _ => .yielded { x with retries := x.retries + 1 }
  | c => c

theorem ChState.setAside_moving (c : ChState) : c.setAside.moving = false := by cases c <;> rfl

theorem supplyYield_stateOf (s : State) (n : Ch) : (s.supplyYield n).stateOf n = (s.stateOf n).setAside := by
  unfold State.supplyYield
  split
  · rename_i x running
    rw [stateOf_setState, running]
    rfl
  · rename_i x e backing
    rw [stateOf_setState, backing]
    rfl
  · rename_i running backing
    cases state : s.stateOf n with
    | running x => exact absurd state (running x)
    | backing x e => exact absurd state (backing x e)
    | _ => rfl

/-! #### The command -/

/-- The supply is LOW, its flag raised with its condition (R107, R184). -/
def State.supplyLost (s : State) : State := ((s.setSupply .low).setCondition .supplyLow true).raise .supplyLow

/-- All that a low supply does before the reviews and evaluations it starts. -/
def State.supplySet (s : State) : State := (s.supplyLost.eachChannel State.supplyYield).abortLearn

theorem execMsgoodLow_of (supply : s.arb.supply ≠ .low) : exec .msgoodLow s = .next s.supplySet.finish :=
  (rfl : exec .msgoodLow s = execMsgoodLow s).trans (if_neg supply)

theorem supplyLost_kept (s : State) : s.supplyLost.kept = { (s.setSupply .low).kept with flags := s.supplyLost.flags } := raiseAt_kept _ _

theorem supplySet_kept (s : State) : s.supplySet.kept = s.supplyLost.kept :=
  (abortLearn_kept _).trans (eachChannel_keeps State.kept State.supplyYield supplyYield_kept _)

theorem supplySet_supply (s : State) : s.supplySet.arb.supply = .low :=
  (kept_supply (supplySet_kept s)).trans (congrArg (·.arb.supply) (supplyLost_kept s))

theorem supplyLost_flag (s : State) : s.supplyLost.flag .supplyLow = { raised := true, condition := true } := by
  unfold State.supplyLost
  rw [raise_flag, if_pos rfl, setCondition_flag, if_pos rfl]

theorem supplyLost_stateOf (s : State) (n : Ch) : s.supplyLost.stateOf n = s.stateOf n := stateOf_of_recs (raise_recs _ _) n

theorem supplyYields_stateOf (s : State) (n : Ch) : (s.eachChannel State.supplyYield).stateOf n = (s.stateOf n).setAside := by
  refine eachChannel_at (fun u => u.stateOf n) State.supplyYield n ChState.setAside (fun u => supplyYield_stateOf u n) (fun m u ne => ?_) s
  unfold State.supplyYield
  split
  · exact stateOf_setState_ne _ _ _ _ ne.symm
  · exact stateOf_setState_ne _ _ _ _ ne.symm
  · rfl

theorem supplyYields_learn (s : State) (n : Ch) : (s.eachChannel State.supplyYield).isLearnChannel n = s.isLearnChannel n := by
  refine eachChannel_keeps (fun u => u.isLearnChannel n) State.supplyYield (fun m u => ?_) s
  unfold State.supplyYield
  split
  · exact setState_isLearnChannel ..
  · exact setState_isLearnChannel ..
  · rfl

theorem supplyLost_learn (s : State) (n : Ch) : s.supplyLost.isLearnChannel n = s.isLearnChannel n :=
  congrArg (fun p : Port => decide (p.session.map (·.channel) = some n)) (raise_port _ _)

/-- A channel that is not the learn channel is set aside, and no more. -/
theorem supplySet_stateOf (other : s.isLearnChannel n = false) : s.supplySet.stateOf n = (s.stateOf n).setAside := by
  have kept := abortLearn_other (s := s.supplyLost.eachChannel State.supplyYield) (n := n)
    (by rw [supplyYields_learn, supplyLost_learn, other])
  refine (congrArg ChanRec.state kept).trans ?_
  exact (supplyYields_stateOf _ n).trans (congrArg ChState.setAside (supplyLost_stateOf s n))

theorem supplySet_unmoved (s : State) (n : Ch) : (s.supplySet.stateOf n).moving = false := by
  refine abortLearn_keeps (Q := fun c => c.moving = false) ?_ (fun l u new kept rests turn => turn.unmoved ?_ rests) (fun _ => rfl)
  · rw [supplyYields_stateOf]
    exact ChState.setAside_moving _
  · have supply := (kept_supply kept).trans
      (kept_supply (eachChannel_keeps State.kept State.supplyYield supplyYield_kept s.supplyLost))
    rw [supply.trans (congrArg (·.arb.supply) (supplyLost_kept s))]
    exact fun h => nomatch h

theorem supplySet_finish_unmoved (s : State) (n : Ch) : (s.supplySet.finish.stateOf n).moving = false := by
  refine (finish_settles s.supplySet).keeps (Q := fun c => c.moving = false) (supplySet_unmoved s n)
    (fun u new kept rests turn => turn.unmoved ?_ rests) (fun _ _ _ _ _ => rfl)
  rw [kept_supply kept, supplySet_supply]
  exact fun h => nomatch h

theorem supplySet_session {p : Session} (session : s.supplySet.finish.port.session = some p) : p.phase = .storing := by
  obtain ⟨q, began, stem⟩ := (finish_settles s.supplySet).session_stem session
  exact (Session.stem_phase stem).trans (abortLearn_session began)

theorem supplySet_eval (s : State) : s.supplySet.eval = s.eval := by
  unfold State.supplySet
  rw [abortLearn_eval, eachChannel_keeps State.eval State.supplyYield (fun m u => ?_)]
  · exact raiseAt_eval _ _
  · unfold State.supplyYield
    split
    · exact setState_eval ..
    · exact setState_eval ..
    · rfl

theorem supplySet_judged (judged : s.Judged) : s.supplySet.Judged := by
  refine judged_of_kept (s := { s.setSupply .low with flags := s.supplyLost.flags }) ((supplySet_kept s).trans (supplyLost_kept s))
    (supplySet_eval s) ?_
  exact fun c config reread => judged c config reread

/-! #### What the review leaves of a travel set aside -/

/-- A closing travel that its request asks for with no need published, or that has the band and origin of the CLOSE need. -/
def Travel.Asked (x : Travel) (need : Need) (ref : Bool) : Prop :=
  need = .none ∧ x.origin.isRequest = true ∧ (x.kind = .close ∨ x.kind = .reference) ∨
    need = .close x.band x.origin ∧ x.kind = .close ∧ ref = true

theorem Turn.stands_aside {l : Option Ch} {new : ChState} {x : Travel} (turn : Turn l u n new) (poor : u.arb.supply ≠ .good)
    (learn : l ≠ some n) (aside : u.stateOf n = .yielded x) (asked : x.Asked (u.needOf n) (u.recs[n]'n.isLt).referenced) :
    new = .yielded x := by
  have travel : u.travel? n = some x := congrArg ChState.travel? aside
  have kind : x.kind ≠ .opn ∧ x.kind ≠ .reduce := by
    obtain ⟨-, -, kind | kind⟩ | ⟨-, kind, -⟩ := asked <;> rw [kind] <;> exact ⟨fun h => (nomatch h), fun h => (nomatch h)⟩
  cases turn with
  | upgrade _ good | admitted _ good | admitDone _ _ _ _ good => exact absurd good poor
  | yield _ running => cases aside.symm.trans running
  | dropLearn _ own | maintHold own => exact absurd own learn
  | openBarred y own opn | openAbove y _ _ own opn | reclamp y _ _ _ own opn =>
    cases travel.symm.trans own
    exact absurd opn kind.1
  | retarget y _ _ _ own _ reduce =>
    cases travel.symm.trans own
    exact absurd reduce kind.2
  | reduced y _ _ _ reduce => exact absurd (reduce x travel) kind.2
  | bandReference y _ own unref _ need =>
    obtain ⟨none, -⟩ | ⟨-, -, ref⟩ := asked
    · exact absurd none need
    · cases unref.symm.trans ref
  | bandClose y b o _ own _ _ need =>
    cases travel.symm.trans own
    obtain ⟨none, -⟩ | ⟨same, -, -⟩ := asked
    · cases none.symm.trans need
    · cases same.symm.trans need
      rw [aside]
      unfold ChState.reband
      rw [if_pos rfl]
      rfl
  | lost y _ waits need unasked =>
    have own : u.travel? n = some y := by
      unfold State.travel?
      obtain waiting | yielded := waits
      · rw [waiting]; rfl
      · rw [yielded]; rfl
    cases travel.symm.trans own
    obtain ⟨-, request, -⟩ | ⟨same, kind, ref⟩ := asked
    · rw [isNeed_of_isRequest request] at need
      cases need
    · rw [same, kind, ref] at unasked
      cases unasked

/-- A travel set aside stays so, with band, origin and profile, where its need or its request still asks for it. -/
theorem supplySet_stands {x : Travel} (other : s.isLearnChannel n = false) (judged : s.Judged)
    (asked : x.Asked (s.needOf n) (s.recs[n]'n.isLt).referenced) (aside : (s.stateOf n).setAside = .yielded x) :
    s.supplySet.finish.stateOf n = .yielded x := by
  have eval : s.supplySet.eval = s.eval := supplySet_eval s
  have start := (supplySet_stateOf other).trans aside
  have learn : s.supplySet.learnChannel? ≠ some n := fun own => by
    have same := abortLearn_learn (s := s.supplyLost.eachChannel State.supplyYield) own
    have no : (s.supplyLost.eachChannel State.supplyYield).isLearnChannel n = false := by
      rw [supplyYields_learn, supplyLost_learn, other]
    simp [State.isLearnChannel, same] at no
  have ref (u : State) (kept : u.kept = s.supplySet.kept) : (u.recs[n]'n.isLt).referenced = (s.recs[n]'n.isLt).referenced :=
    (kept_referenced (kept.trans (supplySet_kept s)) n).trans (congrArg (fun r : Vector ChanRec 4 => (r[n]'n.isLt).referenced) (raise_recs _ _))
  refine (finish_settles s.supplySet).channel (supplySet_judged judged) (Q := fun c => c = .yielded x) start
    (fun u new kept same state turn => ?_) (fun u y kept same state created => ?_)
  · refine turn.stands_aside ?_ learn state ?_
    · rw [kept_supply kept, supplySet_supply]
      exact fun h => nomatch h
    · have need : u.needOf n = s.needOf n := congrArg (fun e : Evaluator => (e.chans[n]'n.isLt).need) (same.trans eval)
      rw [need, ref u kept]
      exact asked
  · have travel : u.travel? n = some x := congrArg ChState.travel? state
    refine (created.none_of_closing travel ?_).elim
    obtain ⟨-, -, kind⟩ | ⟨-, kind, -⟩ := asked
    · exact kind
    · exact .inl kind

/-- Settles O31: with a low supply no evaluation admits, and the need in force leaves a travel it asks for as it is. -/
theorem supplyFollowsMsgood : Obligations.SupplyFollowsMsgood := by
  refine ⟨fun s supply => ?_, fun s supply => ?_, fun s low => ?_, fun s unset => ?_, fun s recovered => ?_⟩
  · have kept : s.supplySet.finish.kept = s.supplyLost.kept := (finish_kept _).trans (supplySet_kept s)
    refine ⟨_, execMsgoodLow_of supply, (kept_supply (finish_kept _)).trans (supplySet_supply s), supplySet_finish_unmoved s,
      (flag_of_flags (kept_flags kept) _).trans (supplyLost_flag s), fun p => supplySet_session, kept,
      fun n x other _ judged asked => ?_⟩
    have asked (y : Travel) (band : y.band = x.band) (origin : y.origin = x.origin) (kind : y.kind = x.kind) :
        y.Asked (s.needOf n) (s.recs[n]'n.isLt).referenced := by
      obtain request | ⟨need, close, ref, -⟩ := asked
      · exact .inl (by rw [origin, kind]; exact request)
      · exact .inr (by rw [band, origin, kind]; exact ⟨need, close, ref⟩)
    refine ⟨fun running => ?_, fun e backing => ?_⟩
    · exact supplySet_stands other judged (asked x rfl rfl rfl) (congrArg ChState.setAside running)
    · exact supplySet_stands other judged (asked _ rfl rfl rfl) (congrArg ChState.setAside backing)
  · refine ⟨s.supplySet, execMsgoodLow_of supply, rfl, fun n other => ?_⟩
    rewrite [supplySet_stateOf other]
    cases s.stateOf n <;> rfl
  · refine ⟨(rfl : exec .msgoodLow s = execMsgoodLow s).trans (if_pos low), ?_⟩
    have ends : exec .msgoodHigh s = execMsgoodHigh s := rfl
    rewrite [ends]
    unfold execMsgoodHigh
    rewrite [low]
    rfl
  · refine ⟨(s.setSupply (.recovering 20)).setCondition .supplyLow true, ?_, rfl, ?_, fun i => ?_⟩
    · have ends : exec .msgoodHigh s = execMsgoodHigh s := rfl
      rewrite [ends]
      unfold execMsgoodHigh
      rewrite [unset]
      rfl
    · rw [setCondition_flag, if_pos rfl]
    · unfold State.setCondition
      rw [setFlag_raised]
      split
      · rename_i same
        rw [same]
        rfl
      · rfl
  · refine ⟨_, (rfl : exec .supplyRecoveryExpiry s = execSupplyRecoveryExpiry s).trans (if_pos recovered), ?_⟩
    exact (finish_kept _).trans (askEval_kept _)

end

end Sys2Proof.Machine

namespace Sys2Proof.Machine
set_option Elab.async false

/-! ### What a review's needs do to the travels (R39 to R42, R93) -/

section

variable {s t u v : State} {n : Ch}

/-! #### A travel as the need in force gives it -/

/-- The travel is what the need asks for: nothing but an evaluation's admission or upgrade changes it. -/
def Travel.Given (y : Travel) (need : Need) (ref : Bool) (count : Nat) : Prop :=
  y.kind = .close ∧ y.target = none ∧ ref = true ∧
      (need = .close y.band y.origin ∨ y.origin.isRequest = true ∧ ∃ x, need = .reduce x) ∨
    y.kind = .reference ∧ y.target = none ∧ ref = false ∧ need ≠ .none ∧ referenceBand need = (y.band, y.origin) ∨
    y.kind = .reduce ∧ ref = true ∧ y.direction = .closing ∧ ∃ x, y.target = some x ∧ need = .reduce x ∧ x < count

/-- `z` is `y` but for an admission, and for an upgrade where the profile was not that of the band. -/
structure Travel.Lasts (y z : Travel) : Prop where
  core : { z with admission := y.admission, profile := y.profile } = y
  profile : y.profile = bandProfile y.band → z.profile = y.profile

theorem Travel.Lasts.refl (y : Travel) : y.Lasts y := ⟨rfl, fun _ => rfl⟩

theorem Travel.Given.not_opn {y : Travel} {need : Need} {ref : Bool} {count : Nat} (given : y.Given need ref count) : y.kind ≠ .opn := by
  obtain ⟨kind, -⟩ | ⟨kind, -⟩ | ⟨kind, -⟩ := given <;> rw [kind] <;> exact fun h => nomatch h

theorem Travel.Given.asked {y : Travel} {need : Need} {ref : Bool} {count : Nat} (given : y.Given need ref count) :
    y.origin.isNeed = false ∨ need.asks y.kind ref = true := by
  obtain ⟨kind, -, rfl, asked | ⟨request, -⟩⟩ | ⟨kind, -, rfl, asked, -⟩ | ⟨kind, rfl, -, x, -, asked, -⟩ := given
  · rw [kind, asked]
    exact .inr rfl
  · exact .inl (isNeed_of_isRequest request)
  · rw [kind]
    cases need with
    | none => exact absurd rfl asked
    | _ => exact .inr rfl
  · rw [kind, asked]
    exact .inr rfl

theorem Turn.lasts {l : Option Ch} {new : ChState} {y : Travel} (turn : Turn l u n new) (travel : u.travel? n = some y)
    (given : y.Given (u.needOf n) (u.recs[n]'n.isLt).referenced (u.units[n]'n.isLt).count) (learn : l ≠ some n) :
    ∃ z, new.travel? = some z ∧ y.Lasts z := by
  have same {x : Travel} (h : u.travel? n = some x) : x = y := Option.some.inj (h.symm.trans travel)
  have reband : (u.stateOf n).reband y y.band = y := if_pos rfl
  cases turn with
  | openBarred x h kind | openAbove x _ _ h kind | reclamp x _ _ _ h kind => exact absurd (same h ▸ kind) given.not_opn
  | dropLearn _ own | maintHold own => exact absurd own learn
  | yield x running =>
    obtain rfl := same (congrArg ChState.travel? running)
    exact ⟨x, rfl, .refl x⟩
  | upgrade x _ running lacks =>
    obtain rfl := same (congrArg ChState.travel? running)
    refine ⟨_, rfl, rfl, fun profile => ?_⟩
    rw [running] at lacks
    simp only [ChState.upgradable, Bool.and_eq_true, decide_eq_true_eq] at lacks
    rw [profile, bandProfile, if_pos lacks.1.1]
  | admitted x _ h =>
    obtain rfl := same h
    exact ⟨_, rfl, rfl, fun _ => rfl⟩
  | lost x _ waits need unasked =>
    obtain rfl : x = y := same (by unfold State.travel?; obtain h | h := waits <;> rw [h] <;> rfl)
    obtain request | asked := given.asked
    · rw [request] at need; cases need
    · rw [asked] at unasked; cases unasked
  | bandClose x b o _ h ref kind need =>
    obtain rfl := same h
    obtain ⟨-, -, -, same | ⟨-, x, same⟩⟩ | ⟨other, -⟩ | ⟨other, -⟩ := given
    · cases need.symm.trans same
      rw [reband]
      exact ⟨_, travel?_withTravel travel, .refl _⟩
    · cases need.symm.trans same
    · cases kind.symm.trans other
    · cases kind.symm.trans other
  | bandReference x _ h _ kind =>
    obtain rfl := same h
    obtain ⟨other, -⟩ | ⟨-, -, -, -, bands⟩ | ⟨other, -⟩ := given
    · cases kind.symm.trans other
    · rw [bands, reband]
      exact ⟨_, travel?_withTravel travel, .refl _⟩
    · cases kind.symm.trans other
  | retarget x c d _ h _ kind need there =>
    obtain rfl := same h
    obtain ⟨other, -⟩ | ⟨other, -⟩ | ⟨-, -, direction, c', target, need', below⟩ := given
    · cases kind.symm.trans other
    · cases kind.symm.trans other
    · cases need.symm.trans need'
      rw [towards_eq_some (Nat.ne_of_gt below), if_neg (Nat.lt_asymm below)] at there
      cases there
      rw [← target, ← direction]
      exact ⟨_, travel?_withTravel travel, .refl _⟩
  | reduced c _ _ need others there =>
    obtain ⟨other, -⟩ | ⟨other, -⟩ | ⟨-, -, -, c', -, need', below⟩ := given
    · cases (others y travel).symm.trans other
    · cases (others y travel).symm.trans other
    · cases need.symm.trans need'
      rw [towards_eq_some (Nat.ne_of_gt below)] at there
      cases there
  | admitDone x h _ reached =>
    obtain rfl := same h
    exfalso
    unfold Travel.reached at reached
    obtain ⟨-, target, -⟩ | ⟨-, target, -⟩ | ⟨-, -, direction, c, target, -, below⟩ := given
    · rw [target] at reached; cases reached
    · rw [target] at reached; cases reached
    · rw [target, direction] at reached
      exact Nat.not_le.mpr below (of_decide_eq_true reached)

theorem Created.not_given {x y : Travel} (created : Created u n x) (travel : u.travel? n = some y)
    (given : y.Given (u.needOf n) (u.recs[n]'n.isLt).referenced (u.units[n]'n.isLt).count) : False := by
  cases created with
  | close b o _ _ need others =>
    obtain kind | reduce := others y travel
    · exact given.not_opn kind
    · obtain ⟨other, -⟩ | ⟨other, -⟩ | ⟨-, -, -, c, -, need', -⟩ := given
      · cases reduce.symm.trans other
      · cases reduce.symm.trans other
      · cases need.symm.trans need'
  | reference _ _ _ none | reduce _ _ _ _ _ none => cases none.symm.trans travel

/-! #### What a need makes of a channel's state -/

/-- The need in force makes a travel for a channel in this state. -/
def Need.makes (need : Need) (ref : Bool) (c : ChState) : Prop :=
  c.travel? = .none ∧ (ref = true ∧ ((∃ b o, need = .close b o) ∨ ∃ x, need = .reduce x) ∨ ref = false ∧ need ≠ .none) ∨
    (∃ z, c.travel? = some z ∧ (z.kind = .opn ∨ z.kind = .reduce)) ∧ ref = true ∧ ∃ b o, need = .close b o

/-- The need in force takes this travel on. -/
def Need.takes (need : Need) (ref : Bool) (z : Travel) : Prop :=
  z.kind = .close ∧ z.target = .none ∧ ref = true ∧ ((∃ b o, need = .close b o) ∨ z.origin.isRequest = true ∧ ∃ x, need = .reduce x) ∨
    z.kind = .reference ∧ z.target = .none ∧ ref = false ∧ need ≠ .none ∨
    z.kind = .reduce ∧ ref = true ∧ ∃ x, need = .reduce x ∧ z.target ≠ some x

/-- A travel that the need in force has just made. -/
structure Travel.New (y : Travel) (need : Need) : Prop where
  direction : y.direction = .closing
  retries : y.retries = 0
  profile : y.profile = bandProfile y.band
  reduce : y.kind ≠ .reference → (∃ x, need = .reduce x) → y.kind = .reduce ∧ y.band = 3 ∧ y.origin = .wind

/-- A travel that the need in force has taken on. -/
structure Travel.Taken (z y : Travel) (need : Need) : Prop where
  kind : y.kind = z.kind
  retries : y.retries = z.retries
  origin : z.kind = .close → (∃ x, need = .reduce x) → y.origin = z.origin

/-- What the need in force has made of the channel: from `c` to `d`. -/
structure Need.Acted (need : Need) (ref : Bool) (count : Nat) (c d : ChState) : Prop where
  makes : need.makes ref c → ∃ y, d.travel? = some y ∧ y.Given need ref count ∧ y.New need
  takes : ∀ z, c.travel? = some z → need.takes ref z → ∃ y, d.travel? = some y ∧ y.Given need ref count ∧ z.Taken y need
  loses : need = .none → (c = .still ∨ ∃ z, (c = .waiting z ∨ c = .yielded z) ∧ z.origin.isNeed = true ∧ z.kind ≠ .opn) → d = .still

theorem Travel.Lasts.same {y z : Travel} (lasts : y.Lasts z) : z.kind = y.kind ∧ z.target = y.target ∧ z.direction = y.direction ∧
    z.band = y.band ∧ z.origin = y.origin ∧ z.retries = y.retries := by
  have core := lasts.core
  generalize z = x at *
  exact ⟨congrArg (·.kind) core, congrArg (·.target) core, congrArg (·.direction) core, congrArg (·.band) core,
    congrArg (·.origin) core, congrArg (·.retries) core⟩

theorem Travel.Lasts.given {y z : Travel} (lasts : y.Lasts z) {need : Need} {ref : Bool} {count : Nat} (given : y.Given need ref count) :
    z.Given need ref count := by
  obtain ⟨kind, target, direction, band, origin, -⟩ := lasts.same
  unfold Travel.Given
  rw [kind, target, direction, band, origin]
  exact given

theorem Travel.Lasts.new {y z : Travel} {need : Need} (lasts : y.Lasts z) (new : y.New need) : z.New need := by
  obtain ⟨kind, -, direction, band, origin, retries⟩ := lasts.same
  refine ⟨direction.trans new.direction, retries.trans new.retries, ?_, fun kept h => ?_⟩
  · rw [lasts.profile new.profile, band, new.profile]
  · rw [kind] at kept ⊢
    rw [band, origin]
    exact new.reduce kept h

theorem Travel.Lasts.taken {x y z : Travel} {need : Need} (lasts : y.Lasts z) (taken : x.Taken y need) : x.Taken z need := by
  obtain ⟨kind, -, -, -, origin, retries⟩ := lasts.same
  exact ⟨kind.trans taken.kind, retries.trans taken.retries, fun h h' => origin.trans (taken.origin h h')⟩

/-- What a need has made of a channel stays so through a change that keeps a given travel and keeps STILL without a need. -/
theorem Need.Acted.through {need : Need} {ref : Bool} {count : Nat} {c d e : ChState} (acted : need.Acted ref count c d)
    (travel : ∀ y, d.travel? = some y → y.Given need ref count → ∃ z, e.travel? = some z ∧ y.Lasts z)
    (still : need = .none → d = .still → e = .still) : need.Acted ref count c e where
  makes h := by
    obtain ⟨y, own, given, new⟩ := acted.makes h
    obtain ⟨z, own', lasts⟩ := travel y own given
    exact ⟨z, own', lasts.given given, lasts.new new⟩
  takes x hx h := by
    obtain ⟨y, own, given, taken⟩ := acted.takes x hx h
    obtain ⟨z, own', lasts⟩ := travel y own given
    exact ⟨z, own', lasts.given given, lasts.taken taken⟩
  loses none h := still none (acted.loses none h)

theorem Turn.acted {l : Option Ch} {new c : ChState} (turn : Turn l u n new) (learn : l ≠ some n)
    (acted : (u.needOf n).Acted (u.recs[n]'n.isLt).referenced (u.units[n]'n.isLt).count c (u.stateOf n)) :
    (u.needOf n).Acted (u.recs[n]'n.isLt).referenced (u.units[n]'n.isLt).count c new := by
  refine acted.through (fun y travel given => turn.lasts travel given learn) (fun none still => ?_)
  have bare {x : Travel} (travel : u.travel? n = some x) : False := by
    unfold State.travel? at travel
    rw [still] at travel
    cases travel
  cases turn with
  | dropLearn _ own | maintHold own => exact absurd own learn
  | reclamp x _ _ _ h | bandClose x _ _ _ h | bandReference x _ h | retarget x _ _ _ h | admitted x _ h => exact (bare h).elim
  | yield x h | upgrade x _ h => cases still.symm.trans h
  | _ => rfl

theorem Created.acted {x : Travel} {c : ChState} (created : Created u n x)
    (acted : (u.needOf n).Acted (u.recs[n]'n.isLt).referenced (u.units[n]'n.isLt).count c (u.stateOf n)) :
    (u.needOf n).Acted (u.recs[n]'n.isLt).referenced (u.units[n]'n.isLt).count c (.waiting x) := by
  refine acted.through (fun y travel given => (created.not_given travel given).elim) (fun none _ => ?_)
  cases created with
  | close _ _ _ _ need | reduce _ _ _ _ need => cases none.symm.trans need
  | reference _ _ need => exact absurd none need

/-! #### The need acts -/

/-- A REDUCE need is published only above its target (R41, R91). -/
theorem State.Judged.need_below (judged : u.Judged) (reaches : u.needReaches n = true) {x : Nat} (need : u.needOf n = .reduce x) :
    x < (u.units[n]'n.isLt).count := by
  obtain ⟨deciding, fitted, -⟩ := needReaches_parts reaches
  obtain ⟨k, chan⟩ := chan?_of_fitted fitted
  rw [(judged.need deciding chan).1] at need
  obtain ⟨-, no⟩ | ⟨_, _, -, no⟩ | ⟨-, no⟩ | ⟨-, no⟩ | ⟨-, no⟩ | ⟨-, below, same⟩ | ⟨-, no⟩ := needFor_cases (u := u) (n := n) k
    (u.slackOf n k u.eval.v u.eval.arrival) (u.eval.chans[n]'n.isLt).ceiling
  case inr.inr.inr.inr.inr.inl =>
    rw [same] at need
    cases need
    exact below
  all_goals
    rw [no] at need
    cases need

theorem applyNeed_of_reaches (reaches : u.needReaches n = true) : u.applyNeed n =
    if (u.recs[n]'n.isLt).referenced then
      match u.needOf n with
      | .close b o => u.needClose n b o
      | .reduce x => u.needReduce n x
      | _ =>
        match u.travel? n with
        | none => u
        | some t => u.loseNeed n t
    else u.needUnreferenced n := if_pos reaches

theorem applyNeed_makes (judged : u.Judged) (reaches : u.needReaches n = true)
    (makes : (u.needOf n).makes (u.recs[n]'n.isLt).referenced (u.stateOf n)) :
    ∃ y, (u.applyNeed n).travel? n = some y ∧ y.Given (u.needOf n) (u.recs[n]'n.isLt).referenced (u.units[n]'n.isLt).count ∧ y.New (u.needOf n) := by
  have made (y : Travel) : (u.createTravel n y).travel? n = some y := congrArg ChState.travel? (stateOf_createTravel u n y)
  rw [applyNeed_of_reaches reaches]
  have closes {b : Band} {o : Origin} (ref : (u.recs[n]'n.isLt).referenced = true) (need : u.needOf n = .close b o)
      (ends : u.needClose n b o = u.createClose n b o) : ∃ y, (u.needClose n b o).travel? n = some y ∧
        y.Given (.close b o) true (u.units[n]'n.isLt).count ∧ y.New (.close b o) := by
    rw [ends]
    exact ⟨_, made _, .inl ⟨rfl, rfl, rfl, .inl rfl⟩, rfl, rfl, rfl, fun _ ⟨_, h⟩ => nomatch h⟩
  obtain ⟨idle, ⟨ref, ⟨b, o, need⟩ | ⟨x, need⟩⟩ | ⟨unref, need⟩⟩ | ⟨⟨z, travel, kind⟩, ref, b, o, need⟩ := makes
  · rw [ref, need]
    refine closes ref need ?_
    unfold State.needClose State.travel?
    rw [idle]
  · have below := judged.need_below reaches need
    rw [ref, need]
    have ends : u.needReduce n x = u.createTravel n (newTravel .reduce (some x) .closing .wind 3 .normal) := by
      unfold State.needReduce State.travel? State.createTargeted
      rw [idle, towards_eq_some (Nat.ne_of_gt below), if_neg (Nat.lt_asymm below)]
    rw [if_pos rfl]
    dsimp only
    rw [ends]
    exact ⟨_, made _, .inr (.inr ⟨rfl, rfl, rfl, x, rfl, rfl, below⟩), rfl, rfl, rfl, fun _ _ => ⟨rfl, rfl, rfl⟩⟩
  · rw [unref]
    have ends : u.needUnreferenced n = u.createReference n := by
      unfold State.needUnreferenced State.travel?
      rw [idle]
      cases asked : u.needOf n with
      | none => exact absurd asked need
      | _ => rfl
    rw [if_neg Bool.false_ne_true, ends]
    exact ⟨_, made _, .inr (.inl ⟨rfl, rfl, rfl, need, rfl⟩), rfl, rfl, rfl, fun no => absurd rfl no⟩
  · rw [ref, need]
    refine closes ref need ?_
    unfold State.needClose State.travel?
    rw [travel]
    obtain kind | kind := kind
    · simp only [kind]
    · simp only [kind]

theorem setBand_travel {z : Travel} (travel : u.travel? n = some z) (b : Band) (o : Origin) :
    (u.setBand n z b o).travel? n = some { (u.stateOf n).reband z b with origin := o } := by
  have set : (u.setTravel n { (u.stateOf n).reband z b with origin := o }).travel? n = some { (u.stateOf n).reband z b with origin := o } :=
    (congrArg ChState.travel? (stateOf_setState u n _)).trans (travel?_withTravel travel)
  unfold State.setBand
  dsimp only
  split
  · exact set
  · unfold State.travel?
    rw [stateOf_askEval]
    exact set

theorem applyNeed_takes (judged : u.Judged) (reaches : u.needReaches n = true) {z : Travel} (travel : u.travel? n = some z)
    (takes : (u.needOf n).takes (u.recs[n]'n.isLt).referenced z) :
    ∃ y, (u.applyNeed n).travel? n = some y ∧ y.Given (u.needOf n) (u.recs[n]'n.isLt).referenced (u.units[n]'n.isLt).count ∧
      z.Taken y (u.needOf n) := by
  rw [applyNeed_of_reaches reaches]
  obtain ⟨kind, target, ref, ⟨b, o, need⟩ | ⟨request, x, need⟩⟩ | ⟨kind, target, unref, need⟩ | ⟨kind, ref, x, need, other⟩ := takes
  · obtain ⟨-, retries, band⟩ := reband_same (u.stateOf n) z b
    have ends : u.needClose n b o = u.setBand n z b o := by
      unfold State.needClose
      rw [travel]
      simp only [kind]
    rw [ref, need, if_pos rfl]
    dsimp only
    rw [ends]
    refine ⟨_, setBand_travel travel b o, .inl ⟨?_, ?_, rfl, .inl ?_⟩, ?_, retries, fun _ ⟨_, no⟩ => nomatch no⟩
    · exact (reband_kind _ _ _).trans kind
    · exact (reband_target _ _ _).trans target
    · exact congrArg (Need.close · o) band.symm
    · exact reband_kind _ _ _
  · have ends : u.needReduce n x = u := by
      unfold State.needReduce
      rw [travel]
      simp only [kind]
      exact if_neg (by rw [isNeed_of_isRequest request]; decide)
    rw [ref, need, if_pos rfl]
    dsimp only
    rw [ends]
    exact ⟨z, travel, .inl ⟨kind, target, rfl, .inr ⟨request, x, rfl⟩⟩, rfl, rfl, fun _ _ => rfl⟩
  · obtain ⟨-, retries, band⟩ := reband_same (u.stateOf n) z (referenceBand (u.needOf n)).1
    have ends : u.needUnreferenced n = u.setBand n z (referenceBand (u.needOf n)).1 (referenceBand (u.needOf n)).2 := by
      unfold State.needUnreferenced
      rw [travel]
      cases asked : u.needOf n with
      | none => exact absurd asked need
      | _ => exact if_pos kind
    rw [unref, if_neg Bool.false_ne_true, ends]
    refine ⟨_, setBand_travel travel _ _, .inr (.inl ⟨?_, ?_, rfl, need, ?_⟩), ?_, retries, fun close => ?_⟩
    · exact (reband_kind _ _ _).trans kind
    · exact (reband_target _ _ _).trans target
    · exact Prod.ext band.symm rfl
    · exact reband_kind _ _ _
    · cases kind.symm.trans close
  · have below := judged.need_below reaches need
    have ends : u.needReduce n x = u.setTravel n { z with target := some x, direction := .closing } := by
      unfold State.needReduce
      rw [travel]
      simp only [kind]
      rw [if_neg other]
      unfold State.retarget
      rewrite [towards_eq_some (Nat.ne_of_gt below), if_neg (Nat.lt_asymm below), ← kind]
      rfl
    rw [ref, need, if_pos rfl]
    dsimp only
    rw [ends]
    refine ⟨_, (congrArg ChState.travel? (stateOf_setState u n _)).trans (travel?_withTravel travel),
      .inr (.inr ⟨kind, rfl, rfl, x, rfl, rfl, below⟩), rfl, rfl, fun close => ?_⟩
    cases kind.symm.trans close

theorem applyNeed_loses (reaches : u.needReaches n = true) (need : u.needOf n = .none)
    (loses : u.stateOf n = .still ∨ ∃ z, (u.stateOf n = .waiting z ∨ u.stateOf n = .yielded z) ∧ z.origin.isNeed = true ∧ z.kind ≠ .opn) :
    (u.applyNeed n).stateOf n = .still := by
  have ends : u.applyNeed n = match u.travel? n with
      | none => u
      | some t => u.loseNeed n t := by
    rewrite [applyNeed_of_reaches reaches, need]
    unfold State.needUnreferenced
    rewrite [need]
    cases (u.recs[n]'n.isLt).referenced <;> cases u.travel? n <;> rfl
  rw [ends]
  obtain still | ⟨z, waits, own, -⟩ := loses
  · rw [show u.travel? n = none from congrArg ChState.travel? still]
    exact still
  · have travel : u.travel? n = some z := by
      unfold State.travel?
      obtain h | h := waits <;> rw [h] <;> rfl
    rw [travel]
    dsimp only
    unfold State.loseNeed
    rw [if_pos own]
    obtain h | h := waits
    · rw [h]
      exact stateOf_toStill u n
    · rw [h]
      exact stateOf_toStill u n

theorem applyNeed_acted (judged : u.Judged) (reaches : u.needReaches n = true) :
    (u.needOf n).Acted (u.recs[n]'n.isLt).referenced (u.units[n]'n.isLt).count (u.stateOf n) ((u.applyNeed n).stateOf n) where
  makes := applyNeed_makes judged reaches
  takes _ := applyNeed_takes judged reaches
  loses := applyNeed_loses reaches

/-! #### A channel is handed its need -/

theorem needReaches_iff (s : State) (n : Ch) : s.needReaches n = true ↔ s.deciding = true ∧ s.fitted n = true ∧
    s.isLearnChannel n = false ∧ s.stateOf n ≠ .held ∧ ∀ o e, s.stateOf n ≠ .faulted o e := by
  unfold State.needReaches
  simp only [Bool.and_eq_true, Bool.not_eq_true', and_assoc]
  cases s.stateOf n with
  | held => exact ⟨fun ⟨_, _, _, no⟩ => absurd no Bool.false_ne_true, fun ⟨_, _, _, no, _⟩ => absurd rfl no⟩
  | faulted o e => exact ⟨fun ⟨_, _, _, no⟩ => absurd no Bool.false_ne_true, fun ⟨_, _, _, _, no⟩ => absurd rfl (no o e)⟩
  | _ => exact ⟨fun ⟨a, b, c, _⟩ => ⟨a, b, c, fun h => (nomatch h), fun _ _ h => (nomatch h)⟩, fun ⟨a, b, c, _⟩ => ⟨a, b, c, rfl⟩⟩

/-- What a review may do to a channel's OPEN travel, or to the learn travel of a session it ends, before the need acts. -/
def ChState.Cleared (c d : ChState) : Prop :=
  d = c ∨ ∃ z, c.travel? = some z ∧
    (z.kind = .opn ∧ (d = .still ∨ ∃ y, d.travel? = some y ∧ y.kind = .opn) ∨ z.kind.isLearn = true ∧ d = .still)

theorem ChState.Cleared.trans {c d e : ChState} (h : c.Cleared d) (h' : d.Cleared e) : c.Cleared e := by
  obtain rfl | ⟨z, travel, ⟨kind, rfl | ⟨y, travel', kind'⟩⟩ | ⟨learn, rfl⟩⟩ := h
  · exact h'
  · obtain rfl | ⟨_, no, -⟩ := h'
    · exact .inr ⟨z, travel, .inl ⟨kind, .inl rfl⟩⟩
    · cases no
  · obtain rfl | ⟨x, own, ⟨-, ends⟩ | ⟨learn, -⟩⟩ := h'
    · exact .inr ⟨z, travel, .inl ⟨kind, .inr ⟨y, travel', kind'⟩⟩⟩
    · exact .inr ⟨z, travel, .inl ⟨kind, ends⟩⟩
    · cases own.symm.trans travel'
      rw [kind'] at learn
      cases learn
  · obtain rfl | ⟨_, no, -⟩ := h'
    · exact .inr ⟨z, travel, .inr ⟨learn, rfl⟩⟩
    · cases no

theorem Need.Acted.cleared {need : Need} {ref : Bool} {count : Nat} {c d e : ChState} (acted : need.Acted ref count d e)
    (cleared : c.Cleared d) : need.Acted ref count c e := by
  obtain rfl | ⟨z, travel, ends⟩ := cleared
  · exact acted
  · refine ⟨fun makes => acted.makes ?_, fun x own takes => ?_, fun need loses => acted.loses need ?_⟩
    · obtain ⟨idle, -⟩ | ⟨⟨x, own, kind⟩, asked⟩ := makes
      · cases idle.symm.trans travel
      · cases own.symm.trans travel
        obtain ⟨-, rfl | ⟨y, travel', kind'⟩⟩ | ⟨learn, -⟩ := ends
        · exact .inl ⟨rfl, .inl ⟨asked.1, .inl asked.2⟩⟩
        · exact .inr ⟨⟨y, travel', .inl kind'⟩, asked⟩
        · obtain kind | kind := kind <;> rw [kind] at learn <;> cases learn
    · cases own.symm.trans travel
      have kind : z.kind ≠ .opn ∧ z.kind.isLearn = false := by
        obtain ⟨kind, -⟩ | ⟨kind, -⟩ | ⟨kind, -⟩ := takes <;> rw [kind] <;> exact ⟨fun h => (nomatch h), rfl⟩
      obtain ⟨opn, -⟩ | ⟨learn, -⟩ := ends
      · exact absurd opn kind.1
      · cases kind.2.symm.trans learn
    · obtain rfl | ⟨x, waits, -, kind⟩ := loses
      · cases travel
      · obtain rfl : z = x := by
          obtain rfl | rfl := waits <;> exact (Option.some.inj travel).symm
        obtain ⟨opn, -⟩ | ⟨-, rfl⟩ := ends
        · exact absurd opn kind
        · exact .inl rfl

theorem endOpen_cleared (u : State) (n : Ch) : (u.stateOf n).Cleared ((u.endOpen n).stateOf n) := by
  unfold State.endOpen
  split
  · exact .inl rfl
  · rename_i z travel
    split
    · rename_i kind
      exact .inr ⟨z, travel, .inl ⟨kind, .inl (stateOf_toStill u n)⟩⟩
    · exact .inl rfl

theorem clampOpen_cleared (u : State) (n : Ch) : (u.stateOf n).Cleared ((u.clampOpen n).stateOf n) := by
  unfold State.clampOpen
  split
  · rename_i k z _ travel
    have done (kind : z.kind = .opn) : (u.stateOf n).Cleared ((u.complete n).stateOf n) :=
      .inr ⟨z, travel, .inl ⟨kind, .inl (stateOf_complete u n)⟩⟩
    split
    · rename_i x kind target
      dsimp only
      split
      · exact .inl rfl
      · split
        · exact done kind
        · unfold State.retarget
          split
          · exact done kind
          · exact .inr ⟨z, travel, .inl ⟨kind, .inr ⟨_, (congrArg ChState.travel? (stateOf_setState u n _)).trans (travel?_withTravel travel), kind⟩⟩⟩
    · exact .inl rfl
  · exact .inl rfl

theorem ChState.Cleared.reached {c d : ChState} (cleared : c.Cleared d) (reached : c ≠ .held ∧ ∀ o e, c ≠ .faulted o e) :
    d ≠ .held ∧ ∀ o e, d ≠ .faulted o e := by
  obtain rfl | ⟨-, -, ⟨-, rfl | ⟨y, travel, -⟩⟩ | ⟨-, rfl⟩⟩ := cleared
  · exact reached
  · exact ⟨fun h => (nomatch h), fun _ _ h => (nomatch h)⟩
  · constructor
    · rintro rfl
      cases travel
    · rintro _ _ rfl
      cases travel
  · exact ⟨fun h => (nomatch h), fun _ _ h => (nomatch h)⟩

theorem Turned.endOpen (h : Turned n s t) : Turned n s (t.endOpen n) := by
  unfold State.endOpen
  split
  · exact h
  · split
    · exact h.toStill
    · exact h

theorem Turned.clampOpen (h : Turned n s t) : Turned n s (t.clampOpen n) := by
  unfold State.clampOpen
  split
  · split
    · dsimp only
      split
      · exact h
      · split
        · exact h.complete
        · exact h.retarget _ _
    · exact h
  · exact h

/-- The state in which the need acts, as a channel is handed the results of a review. -/
def State.opened (u : State) (n : Ch) : State := (if u.openBarred && !u.closeReplaces n then u.endOpen n else u).clampOpen n

theorem handChannel_eq (u : State) (n : Ch) : u.handChannel n = (u.opened n).applyNeed n := rfl

theorem opened_turned (u : State) (n : Ch) : Turned n u (u.opened n) := by
  unfold State.opened
  split
  · exact Turned.refl.endOpen.clampOpen
  · exact Turned.refl.clampOpen

theorem opened_cleared (u : State) (n : Ch) : (u.stateOf n).Cleared ((u.opened n).stateOf n) := by
  unfold State.opened
  split
  · exact (endOpen_cleared u n).trans (clampOpen_cleared _ n)
  · exact clampOpen_cleared u n

theorem handChannel_turned (u : State) (n : Ch) : Turned n u (u.handChannel n) := (opened_turned u n).applyNeed

/-- What a need has made of a channel, of which another state with the same needs, flags and counts tells. -/
theorem Need.Acted.at {c d : ChState} (kept : t.kept = s.kept) (eval : t.eval = s.eval) :
    (t.needOf n).Acted (t.recs[n]'n.isLt).referenced (t.units[n]'n.isLt).count c d ↔
      (s.needOf n).Acted (s.recs[n]'n.isLt).referenced (s.units[n]'n.isLt).count c d := by
  rw [show t.needOf n = s.needOf n from congrArg (fun e : Evaluator => (e.chans[n]'n.isLt).need) eval, kept_referenced kept, kept_count kept]

theorem handChannel_acted (judged : u.Judged) (reaches : u.needReaches n = true) :
    (u.needOf n).Acted (u.recs[n]'n.isLt).referenced (u.units[n]'n.isLt).count (u.stateOf n) ((u.handChannel n).stateOf n) := by
  have turned := opened_turned u n
  obtain ⟨deciding, fitted, learn, reached⟩ := (needReaches_iff u n).mp reaches
  have reaches' : (u.opened n).needReaches n = true := (needReaches_iff _ n).mpr
    ⟨(kept_deciding turned.kept).trans deciding, (fitted_of_kept turned.kept n).trans fitted,
      (congrArg (fun c : Option Ch => decide (c = some n)) turned.learnChannel).trans learn, (opened_cleared u n).reached reached⟩
  have acted := applyNeed_acted (judged_of_kept turned.kept turned.eval judged) reaches'
  exact ((Need.Acted.at turned.kept turned.eval).mp acted).cleared (opened_cleared u n)

end

end Sys2Proof.Machine

namespace Sys2Proof.Machine
set_option Elab.async false

/-! ### A review from its beginning to the end of its command (R86, R93, R96) -/

section

variable {s t u v w a : State} {n : Ch} {c : ChState}

/-! #### The learn session at a review -/

/-- A chain that has no learn channel to end leaves the session, but for what R197 records in it. -/
theorem Settles.session_none {r : Prop} (h : Settles r none s t) : t.port.session.map Session.stem = s.port.session.map Session.stem := by
  induction h with
  | refl => rfl
  | turn _ _ ih =>
    obtain ⟨x, same, stem⟩ := setState_port _ _ _
    rw [same]
    exact stem.trans ih
  | @create u n x _ _ ih =>
    rw [createTravel_port_same]
    exact ih
  | ended _ _ _ _ own _ => cases own
  | marks _ _ _ ih => exact ih
  | review _ _ _ _ _ ih => exact ih
  | aside _ _ _ ih => exact ih
  | draw _ _ _ ih =>
    rw [submitDraw_port]
    exact ih

/-- No review ends this session: it is storing, or V is below its channel's Wc. -/
def State.Firm (a : State) (p : Session) : Prop := p.phase = .storing ∨ ∀ k, a.chan? p.channel = some k → a.eval.v < k.wc

theorem review_session (judged : a.Judged) (kept : v.kept = a.kept) (eval : v.eval = a.eval) {p : Session} (firm : a.Firm p)
    (session : v.port.session.map Session.stem = some p.stem) : v.review.port.session.map Session.stem = some p.stem := by
  unfold State.review
  split
  · exact session
  · rename_i cfg config
    split
    · exact session
    · rename_i reread
      have stays : ({ v with eval := v.reviewed cfg } : State) = v := by
        rw [reviewed_eq (judged_of_kept kept eval judged) config (by simpa using reread)]
      dsimp only
      rw [stays]
      have same : (if v.reviewAborts v.eval.threat = true then v.abortLearn else v) = v := by
        split
        · rename_i aborts
          obtain ⟨q, own, stem⟩ := Option.map_eq_some_iff.mp session
          obtain storing | below := firm
          · unfold State.abortLearn
            rw [own]
            exact if_pos ((Session.stem_phase stem).trans storing)
          · unfold State.reviewAborts State.learnChannel? at aborts
            rw [own, Bool.and_not_self, Bool.false_or] at aborts
            simp only [Option.map_some, Session.stem_channel stem, kept_chan kept, eval] at aborts
            split at aborts
            · cases aborts
            · rename_i k chan
              exact absurd (of_decide_eq_true aborts) (Nat.not_le.mpr (below k chan))
        · rfl
      rw [same]
      exact ((Settles.refl (r := False)).eachChannel fun m _ h => h.handChannel m).session_none.trans session

theorem settle_session (judged : a.Judged) {p : Session} (firm : a.Firm p) (k : Nat) (kept : v.kept = a.kept) (eval : v.eval = a.eval)
    (session : v.port.session.map Session.stem = some p.stem) : (State.settle k v).port.session.map Session.stem = some p.stem := by
  induction k generalizing v with
  | zero => exact session
  | succ k ih =>
    have vjudged := judged_of_kept kept eval judged
    unfold State.settle
    split
    · refine ih ((review_kept _).trans kept) ?_ (review_session judged (v := { v with reviewDue := false }) kept eval firm session)
      exact ((Settles.refl.marks false v.evalDue).reviews (r := True) (l := v.learnChannel?) trivial (fun p hp => by
        rw [State.learnChannel?, show v.port.session = some p from hp, Option.map_some])).eval_of_judged vjudged |>.trans eval
    · split
      · have chain := (Settles.refl (r := False) (l := none) (s := v)).evaluate
        exact ih (chain.kept.trans kept) ((chain.eval_of_judged vjudged).trans eval) (chain.session_none.trans session)
      · exact session

/-! #### One channel through a review -/

/-- A channel that no need reaches: HELD or FAULTED (2.8). -/
def ChState.Stuck (c : ChState) : Prop := c = .held ∨ c.isFaulted = true

theorem Turn.not_stuck {l : Option Ch} {new : ChState} (turn : Turn l u n new) (learn : l ≠ some n) : ¬ (u.stateOf n).Stuck := by
  rintro (held | faulted)
  · have bare {x : Travel} (travel : u.travel? n = some x) : False := by
      unfold State.travel? at travel
      rw [held] at travel
      cases travel
    cases turn with
    | dropLearn _ own | maintHold own => exact learn own
    | openBarred _ h | openAbove _ _ _ h | reclamp _ _ _ _ h | bandClose _ _ _ _ h | bandReference _ _ h | retarget _ _ _ _ h
    | admitted _ _ h | admitDone _ h => exact bare h
    | reduced _ reaches => exact ((needReaches_iff u n).mp reaches).2.2.2.1 held
    | lost _ reaches => exact ((needReaches_iff u n).mp reaches).2.2.2.1 held
    | yield _ h | upgrade _ _ h => cases held.symm.trans h
  · cases faulted.symm.trans turn.not_faulted

theorem Created.not_stuck {x : Travel} (created : Created u n x) : ¬ (u.stateOf n).Stuck := by
  have reaches : u.needReaches n = true := by
    cases created with
    | close _ _ h | reference h | reduce _ _ h => exact h
  obtain ⟨-, -, -, held, faulted⟩ := (needReaches_iff u n).mp reaches
  rintro (h | h)
  · exact held h
  · cases h.symm.trans (isFaulted_eq_false_iff.mpr faulted)

/-- From the first review's results in `a`, the channel has been handed its need, where it stood in `c`. -/
structure State.HandedOn (a : State) (n : Ch) (c : ChState) (v : State) : Prop where
  kept : v.kept = a.kept
  eval : v.eval = a.eval
  learn : v.learnChannel? ≠ some n
  acted : (v.stateOf n).Stuck ∨ (a.needOf n).Acted (a.recs[n]'n.isLt).referenced (a.units[n]'n.isLt).count c (v.stateOf n)

/-- What the need has made of the channel stays through all that the command still does. -/
theorem State.HandedOn.settles (judged : a.Judged) (h : a.HandedOn n c v) {r : Prop} {l : Option Ch} (own : l ≠ some n)
    (chain : Settles r l v w) : a.HandedOn n c w where
  kept := chain.kept.trans h.kept
  eval := (chain.eval_of_judged (judged_of_kept h.kept h.eval judged)).trans h.eval
  learn := by
    obtain same | none := chain.learnChannel
    · rw [same]
      exact h.learn
    · rw [State.learnChannel?, none]
      exact fun h => nomatch h
  acted := by
    have vjudged := judged_of_kept h.kept h.eval judged
    refine chain.channel vjudged
      (Q := fun d => d.Stuck ∨ (a.needOf n).Acted (a.recs[n]'n.isLt).referenced (a.units[n]'n.isLt).count c d) h.acted
      (fun u new kept eval h' turn => ?_) (fun u x kept eval h' created => ?_)
    · have at_a := Need.Acted.at (n := n) (c := c) (d := new) (kept.trans h.kept) (eval.trans h.eval)
      have acted := h'.resolve_left (turn.not_stuck own)
      exact .inr (at_a.mp (turn.acted own ((Need.Acted.at (kept.trans h.kept) (eval.trans h.eval)).mpr acted)))
    · have at_a := Need.Acted.at (n := n) (c := c) (d := .waiting x) (kept.trans h.kept) (eval.trans h.eval)
      have acted := h'.resolve_left created.not_stuck
      exact .inr (at_a.mp (created.acted ((Need.Acted.at (kept.trans h.kept) (eval.trans h.eval)).mpr acted)))

/-- The channel has not been handed its need yet: it stands in `c`. -/
structure State.Awaits (a : State) (n : Ch) (c : ChState) (v : State) : Prop where
  kept : v.kept = a.kept
  eval : v.eval = a.eval
  learn : v.learnChannel? ≠ some n
  state : v.stateOf n = c

theorem State.Awaits.turned (h : a.Awaits n c v) {m : Ch} (ne : n ≠ m) (turned : Turned m v w) : a.Awaits n c w where
  kept := turned.kept.trans h.kept
  eval := turned.eval.trans h.eval
  learn := by
    rw [turned.learnChannel]
    exact h.learn
  state := (congrArg ChanRec.state (turned.other ne)).trans h.state

theorem isLearnChannel_eq_false (learn : s.learnChannel? ≠ some n) : s.isLearnChannel n = false := decide_eq_false learn

/-- A channel that its need may reach is reached by it, or stuck. -/
theorem needReaches_or_stuck (deciding : v.deciding = true) (fitted : v.fitted n = true) (learn : v.learnChannel? ≠ some n) :
    (v.stateOf n).Stuck ∨ v.needReaches n = true := by
  by_cases stuck : (v.stateOf n).Stuck
  · exact .inl stuck
  · exact .inr ((needReaches_iff v n).mpr ⟨deciding, fitted, isLearnChannel_eq_false learn, fun h => stuck (.inl h),
      isFaulted_eq_false_iff.mp (by simpa using fun h => stuck (.inr h))⟩)

theorem State.Awaits.handed (judged : a.Judged) (deciding : a.deciding = true) (fitted : a.fitted n = true) (h : a.Awaits n c v) :
    a.HandedOn n c (v.handChannel n) := by
  have turned := handChannel_turned v n
  refine ⟨turned.kept.trans h.kept, turned.eval.trans h.eval, by rw [turned.learnChannel]; exact h.learn, ?_⟩
  obtain stuck | reaches := needReaches_or_stuck ((kept_deciding h.kept).trans deciding) ((fitted_of_kept h.kept n).trans fitted) h.learn
  · refine .inl ?_
    have same : (v.handChannel n).stateOf n = v.stateOf n := by
      refine ((Settles.refl (r := False) (l := none)).handChannel n).keeps (Q := fun d => d = v.stateOf n) rfl (fun u new _ same turn => ?_)
        (fun u x _ same created => ?_)
      · exact absurd (same ▸ stuck) (turn.not_stuck fun h => nomatch h)
      · exact absurd (same ▸ stuck) created.not_stuck
    rw [same]
    exact stuck
  · have acted := (Need.Acted.at h.kept h.eval).mp (handChannel_acted (judged_of_kept h.kept h.eval judged) reaches)
    rw [h.state] at acted
    exact .inr acted

/-- What a fold over the channels does to one of them: the others' steps before its own, its own, and the rest. -/
theorem eachChannel_through {P Q : State → Prop} {f : Ch → State → State} (n : Ch) (before : ∀ m u, n ≠ m → P u → P (f m u))
    (own : ∀ u, P u → Q (f n u)) (after : ∀ m u, Q u → Q (f m u)) (start : P s) : Q (s.eachChannel f) := by
  have first := fun m (ne : n ≠ m) u (h : P u) => before m u ne h
  show Q (f 3 (f 2 (f 1 (f 0 s))))
  match n with
  | 0 => exact after 3 _ (after 2 _ (after 1 _ (own s start)))
  | 1 => exact after 3 _ (after 2 _ (own _ (first 0 (by decide) _ start)))
  | 2 => exact after 3 _ (own _ (first 1 (by decide) _ (first 0 (by decide) _ start)))
  | 3 => exact own _ (first 2 (by decide) _ (first 1 (by decide) _ (first 0 (by decide) _ start)))

theorem dropLearn_cleared (u : State) (n : Ch) : (u.stateOf n).Cleared ((u.dropLearn n).stateOf n) := by
  unfold State.dropLearn
  split
  · exact .inl rfl
  · rename_i z travel
    split
    · rename_i learn
      exact .inr ⟨z, travel, .inr ⟨learn, stateOf_toStill u n⟩⟩
    · exact .inl rfl

theorem dropLearn_turned (u : State) (n : Ch) : Turned n u (u.dropLearn n) := by
  unfold State.dropLearn
  split
  · exact .refl
  · split
    · exact Turned.refl.toStill
    · exact .refl

/-- A channel that stops being the learn channel is held by MAINT, or handed the need in force (R52). -/
theorem State.Awaits.stopLearn (judged : a.Judged) (deciding : a.deciding = true) (fitted : a.fitted n = true) (h : a.Awaits n c v) :
    a.HandedOn n c (v.stopLearn n) := by
  have turned : Turned n v (v.stopLearn n) := Turned.refl.stopLearn
  have dropped := dropLearn_turned v n
  refine ⟨turned.kept.trans h.kept, turned.eval.trans h.eval, by rw [turned.learnChannel]; exact h.learn, ?_⟩
  unfold State.stopLearn
  dsimp only
  split
  · rename_i o e faulted
    exact .inl (.inr (by rw [faulted]; rfl))
  · split
    · exact .inl (.inl (stateOf_setState _ n _))
    · obtain stuck | reaches := needReaches_or_stuck ((kept_deciding dropped.kept).trans ((kept_deciding h.kept).trans deciding))
        ((fitted_of_kept dropped.kept n).trans ((fitted_of_kept h.kept n).trans fitted)) (by rw [dropped.learnChannel]; exact h.learn)
      · refine .inl ?_
        have same : ((v.dropLearn n).applyNeed n).stateOf n = (v.dropLearn n).stateOf n := by
          refine ((Settles.refl (r := False) (l := none)).applyNeed n).keeps (Q := fun d => d = (v.dropLearn n).stateOf n) rfl
            (fun u new _ same turn => ?_) (fun u x _ same created => ?_)
          · exact absurd (same ▸ stuck) (turn.not_stuck fun h => nomatch h)
          · exact absurd (same ▸ stuck) created.not_stuck
        rw [same]
        exact stuck
      · have acted := applyNeed_acted (judged_of_kept (dropped.kept.trans h.kept) (dropped.eval.trans h.eval) judged) reaches
        have acted := ((Need.Acted.at (dropped.kept.trans h.kept) (dropped.eval.trans h.eval)).mp acted).cleared (dropLearn_cleared v n)
        rw [h.state] at acted
        exact .inr acted

/-- What a review begins with once it has aborted the session, where it does (R85, R202). -/
def State.abortedNow (s : State) (c : RunCfg) : State :=
  if (s.judgedNow c).reviewAborts s.eval.threat then (s.judgedNow c).abortLearn else s.judgedNow c

theorem review_of_due {cfg : RunCfg} (config : s.port.config = some cfg) (reread : s.rereading = false) :
    ({ s with reviewDue := false } : State).review = (s.abortedNow cfg).eachChannel State.handChannel := by
  unfold State.review
  rw [show ({ s with reviewDue := false } : State).port.config = some cfg from config]
  dsimp only
  rw [if_neg (by rw [show ({ s with reviewDue := false } : State).rereading = false from reread]; decide)]
  rfl

theorem finish_of_due (due : s.reviewDue = true) : s.finish = (State.settle 63 ({ s with reviewDue := false } : State).review).checkDraw := by
  unfold State.finish
  rw [show Config.settleBound = 63 + 1 from rfl, State.settle, if_pos due]

/-- The session that the first review leaves is left by all that follows. -/
theorem abortedNow_learn {cfg : RunCfg} (config : s.port.config = some cfg) (reread : s.rereading = false) (due : s.reviewDue = true)
    (own : (s.abortedNow cfg).learnChannel? = some n) : s.finish.learnChannel? = some n := by
  have judged := judgedNow_judged config reread
  obtain ⟨p, session, rfl⟩ := Option.map_eq_some_iff.mp own
  have unchanged : (s.abortedNow cfg = s.judgedNow cfg) ∧ (s.judgedNow cfg).Firm p := by
    unfold State.abortedNow at session ⊢
    split
    · rename_i aborts
      rw [if_pos aborts] at session
      have storing := abortLearn_session session
      refine ⟨?_, .inl storing⟩
      unfold State.abortLearn at session ⊢
      split
      · rfl
      · rename_i q began
        split
        · rfl
        · rename_i phase
          rw [began] at session
          dsimp only at session
          rw [if_neg phase, (endSession_port began).1] at session
          cases session
    · rename_i aborts
      rw [if_neg aborts] at session
      refine ⟨rfl, .inr fun k chan => Nat.lt_of_not_le fun above => aborts ?_⟩
      unfold State.reviewAborts State.learnChannel?
      rw [session, Option.map_some]
      dsimp only
      rw [chan]
      simp only [above, decide_true, Bool.or_true]
  obtain ⟨same, firm⟩ := unchanged
  rw [same] at session
  have hands := (Settles.refl (r := False) (l := none) (s := s.judgedNow cfg)).eachChannel fun m _ h => h.handChannel m
  have rest := settle_session judged firm 63 (v := (s.judgedNow cfg).eachChannel State.handChannel) hands.kept (hands.eval_of_judged judged)
    (hands.session_none.trans (congrArg (Option.map Session.stem) session))
  rw [finish_of_due due, review_of_due config reread, same]
  unfold State.learnChannel?
  rw [checkDraw_port]
  obtain ⟨q, own, stem⟩ := Option.map_eq_some_iff.mp rest
  rw [own, Option.map_some, Session.stem_channel stem]

/-- A review that is due hands its need to a fitted channel that is not the learn channel after it, and what this has made of the
channel stays to the end of the command. -/
theorem finish_handedOn {cfg : RunCfg} (config : s.port.config = some cfg) (reread : s.rereading = false) (due : s.reviewDue = true)
    (fitted : s.fitted n = true) (learn : s.finish.learnChannel? ≠ some n) : (s.judgedNow cfg).HandedOn n (s.stateOf n) s.finish := by
  have judged := judgedNow_judged config reread
  have deciding : (s.judgedNow cfg).deciding = true := deciding_iff.mpr ⟨cfg, config, reread⟩
  have free : (s.abortedNow cfg).learnChannel? ≠ some n := fun own => learn (abortedNow_learn config reread due own)
  have reviewed : (s.judgedNow cfg).HandedOn n (s.stateOf n) ((s.abortedNow cfg).eachChannel State.handChannel) := by
    have after (m : Ch) (u : State) (h : (s.judgedNow cfg).HandedOn n (s.stateOf n) u) :
        (s.judgedNow cfg).HandedOn n (s.stateOf n) (u.handChannel m) :=
      h.settles judged (r := False) (l := none) (fun h => nomatch h) (Settles.refl.handChannel m)
    by_cases own : (s.judgedNow cfg).learnChannel? = some n
    · refine eachChannel_invariant after ?_
      obtain ⟨p, session, rfl⟩ := Option.map_eq_some_iff.mp own
      unfold State.abortedNow at free ⊢
      split
      · rename_i aborts
        rw [if_pos aborts] at free
        unfold State.abortLearn at free ⊢
        rw [session] at free ⊢
        dsimp only at free ⊢
        split
        · rename_i storing
          rw [if_pos storing] at free
          exact absurd own free
        · unfold State.endSession
          rw [session]
          refine State.Awaits.stopLearn judged deciding fitted ⟨?_, ?_, ?_, ?_⟩
          · rw [judgeLamp_kept]
            rfl
          · rw [State.judgeLamp_eval]
          · rw [State.learnChannel?, State.judgeLamp_port]
            exact fun h => nomatch h
          · exact stateOf_of_recs (State.judgeLamp_recs _) _
      · rename_i stays
        rw [if_neg stays] at free
        exact absurd own free
    · have start : (s.judgedNow cfg).Awaits n (s.stateOf n) (s.abortedNow cfg) := by
        unfold State.abortedNow at free ⊢
        split
        · rename_i aborts
          rw [if_pos aborts] at free
          exact ⟨abortLearn_kept _, abortLearn_eval _, free, congrArg ChanRec.state (abortLearn_other (isLearnChannel_eq_false own))⟩
        · exact ⟨rfl, rfl, own, rfl⟩
      exact eachChannel_through n (fun m u ne h => h.turned ne (handChannel_turned u m)) (fun u h => h.handed judged deciding fitted) after start
  rw [finish_of_due due, review_of_due config reread]
  exact reviewed.settles judged reviewed.learn ((Settles.refl.settle 63).checkDraw)

/-! #### The obligation -/

theorem Travel.Given.of_close {y : Travel} {b : Band} {o : Origin} {count : Nat} (given : y.Given (.close b o) true count) :
    y.kind = .close ∧ y.target = none ∧ y.band = b ∧ y.origin = o := by
  obtain ⟨kind, target, -, same | ⟨-, x, no⟩⟩ | ⟨-, -, no, -⟩ | ⟨-, -, -, x, -, no, -⟩ := given
  · cases same
    exact ⟨kind, target, rfl, rfl⟩
  · cases no
  · cases no
  · cases no

theorem Travel.Given.of_reduce {y : Travel} {x count : Nat} (given : y.Given (.reduce x) true count) :
    y.kind = .close ∨ y.kind = .reduce ∧ y.direction = .closing ∧ y.target = some x := by
  obtain ⟨kind, -⟩ | ⟨-, -, no, -⟩ | ⟨kind, -, direction, z, target, same, -⟩ := given
  · exact .inl kind
  · cases no
  · cases same
    exact .inr ⟨kind, direction, target⟩

theorem Travel.Given.of_unreferenced {y : Travel} {need : Need} {count : Nat} (given : y.Given need false count) :
    y.kind = .reference ∧ y.target = none ∧ referenceBand need = (y.band, y.origin) := by
  obtain ⟨-, -, no, -⟩ | ⟨kind, target, -, -, bands⟩ | ⟨-, no, -⟩ := given
  · cases no
  · exact ⟨kind, target, bands⟩
  · cases no

theorem needActed_close (acted : (t.needOf n).Acted (t.recs[n]'n.isLt).referenced (t.units[n]'n.isLt).count (s.stateOf n) (t.stateOf n))
    (ref : (t.recs[n]'n.isLt).referenced = true) {b : Band} {o : Origin} (need : t.needOf n = .close b o) :
    (s.travel? n = none ∨ (∃ z, s.travel? n = some z ∧ (z.kind = .opn ∨ z.kind = .reduce)) →
      ∃ y, t.travel? n = some y ∧ y.kind = .close ∧ y.target = none ∧ y.direction = .closing ∧ y.band = b ∧ y.origin = o ∧
        y.profile = (if b.val ≤ 2 then .storm else .normal) ∧ y.retries = 0) ∧
    ∀ z, s.travel? n = some z → z.kind = .close → z.target = none →
      ∃ y, t.travel? n = some y ∧ y.kind = .close ∧ y.band = b ∧ y.origin = o ∧ y.retries = z.retries := by
  rw [ref, need] at acted
  refine ⟨fun idle => ?_, fun z travel kind target => ?_⟩
  · obtain ⟨y, own, given, new⟩ := acted.makes (idle.imp (fun idle => ⟨idle, .inl ⟨rfl, .inl ⟨b, o, rfl⟩⟩⟩) fun other => ⟨other, rfl, b, o, rfl⟩)
    obtain ⟨kind, target, rfl, rfl⟩ := given.of_close
    exact ⟨y, own, kind, target, new.direction, rfl, rfl, new.profile, new.retries⟩
  · obtain ⟨y, own, given, taken⟩ := acted.takes z travel (.inl ⟨kind, target, rfl, .inl ⟨b, o, rfl⟩⟩)
    obtain ⟨kind, -, band, origin⟩ := given.of_close
    exact ⟨y, own, kind, band, origin, taken.retries⟩

theorem needActed_reduce (acted : (t.needOf n).Acted (t.recs[n]'n.isLt).referenced (t.units[n]'n.isLt).count (s.stateOf n) (t.stateOf n))
    (ref : (t.recs[n]'n.isLt).referenced = true) {x : Nat} (need : t.needOf n = .reduce x) :
    (s.travel? n = none →
      ∃ y, t.travel? n = some y ∧ y.kind = .reduce ∧ y.target = some x ∧ y.direction = .closing ∧ y.band = 3 ∧
        y.origin = .wind ∧ y.profile = .normal ∧ y.retries = 0) ∧
    (∀ z, s.travel? n = some z → z.kind = .reduce → z.target ≠ some x →
      ∃ y, t.travel? n = some y ∧ y.kind = .reduce ∧ y.target = some x ∧ y.direction = .closing ∧ y.retries = z.retries) ∧
    ∀ z, s.travel? n = some z → z.kind = .close → z.target = none → z.origin.isRequest = true →
      ∃ y, t.travel? n = some y ∧ y.kind = .close ∧ y.origin = z.origin ∧ y.retries = z.retries := by
  rw [ref, need] at acted
  refine ⟨fun idle => ?_, fun z travel kind other => ?_, fun z travel kind target request => ?_⟩
  · obtain ⟨y, own, given, new⟩ := acted.makes (.inl ⟨idle, .inl ⟨rfl, .inr ⟨x, rfl⟩⟩⟩)
    have asked := given.of_reduce
    obtain ⟨reduce, band, origin⟩ := new.reduce (fun no => by obtain h | ⟨h, -⟩ := asked <;> cases no.symm.trans h) ⟨x, rfl⟩
    obtain close | ⟨-, direction, target⟩ := asked
    · cases close.symm.trans reduce
    · exact ⟨y, own, reduce, target, direction, band, origin, by rw [new.profile, band]; rfl, new.retries⟩
  · obtain ⟨y, own, given, taken⟩ := acted.takes z travel (.inr (.inr ⟨kind, rfl, x, rfl, other⟩))
    obtain close | ⟨kind', direction, target⟩ := given.of_reduce
    · cases close.symm.trans (taken.kind.trans kind)
    · exact ⟨y, own, kind', target, direction, taken.retries⟩
  · obtain ⟨y, own, -, taken⟩ := acted.takes z travel (.inl ⟨kind, target, rfl, .inr ⟨request, x, rfl⟩⟩)
    exact ⟨y, own, taken.kind.trans kind, taken.origin kind ⟨x, rfl⟩, taken.retries⟩

theorem needActed_unreferenced
    (acted : (t.needOf n).Acted (t.recs[n]'n.isLt).referenced (t.units[n]'n.isLt).count (s.stateOf n) (t.stateOf n))
    (unref : (t.recs[n]'n.isLt).referenced = false) (need : t.needOf n ≠ .none) {b : Band} {o : Origin}
    (bands : referenceBand (t.needOf n) = (b, o)) :
    (s.travel? n = none →
      ∃ y, t.travel? n = some y ∧ y.kind = .reference ∧ y.target = none ∧ y.direction = .closing ∧ y.band = b ∧
        y.origin = o ∧ y.retries = 0) ∧
    ∀ z, s.travel? n = some z → z.kind = .reference → z.target = none →
      ∃ y, t.travel? n = some y ∧ y.kind = .reference ∧ y.band = b ∧ y.origin = o ∧ y.retries = z.retries := by
  rw [unref] at acted
  refine ⟨fun idle => ?_, fun z travel kind target => ?_⟩
  · obtain ⟨y, own, given, new⟩ := acted.makes (.inl ⟨idle, .inr ⟨rfl, need⟩⟩)
    obtain ⟨kind, target, same⟩ := given.of_unreferenced
    cases bands.symm.trans same
    exact ⟨y, own, kind, target, new.direction, rfl, rfl, new.retries⟩
  · obtain ⟨y, own, given, taken⟩ := acted.takes z travel (.inr (.inl ⟨kind, target, rfl, need⟩))
    obtain ⟨kind, -, same⟩ := given.of_unreferenced
    cases bands.symm.trans same
    exact ⟨y, own, kind, rfl, rfl, taken.retries⟩

theorem referenceBand_eq {need : Need} {b : Band} {o : Origin}
    (bands : need = .close b o ∨ (∀ b' o', need ≠ .close b' o') ∧ b = 4 ∧ o = .start) : referenceBand need = (b, o) := by
  obtain rfl | ⟨other, rfl, rfl⟩ := bands
  · rfl
  · cases need with
    | close b' o' => exact absurd rfl (other b' o')
    | _ => rfl

theorem finish_needActed {cfg : RunCfg} (config : s.port.config = some cfg) (reread : s.rereading = false) (due : s.reviewDue = true)
    (reaches : s.finish.needReaches n = true) : s.NeedActed s.finish n := by
  obtain ⟨-, fitted, learn, held, sound⟩ := (needReaches_iff _ n).mp reaches
  have handed := finish_handedOn config reread due (n := n) ((fitted_of_kept (finish_kept s) n).symm.trans fitted)
    (fun own => of_decide_eq_false learn own)
  have acted := (Need.Acted.at handed.kept handed.eval).mpr (handed.acted.resolve_left (by
    rintro (h | h)
    · exact held h
    · cases h.symm.trans (isFaulted_eq_false_iff.mpr sound)))
  exact ⟨fun ref b o need => needActed_close acted ref need, fun ref x need => needActed_reduce acted ref need,
    fun unref need b o bands => needActed_unreferenced acted unref need (referenceBand_eq bands),
    fun none z waits own kind => acted.loses none (.inr ⟨z, waits, own, kind⟩)⟩

/-- What the evaluator holds at the end of a command that a review has begun. -/
theorem finish_eval_of_due {cfg : RunCfg} (config : s.port.config = some cfg) (reread : s.rereading = false) (due : s.reviewDue = true) :
    s.finish.eval = s.reviewed cfg ∧ s.finish.Judged :=
  have chain := finish_settles_of_due config reread due
  have judged := judgedNow_judged config reread
  ⟨chain.eval_of_judged judged, chain.judged judged⟩

theorem NeedActed_congr (same : u.recs = s.recs) (acted : u.NeedActed t n) : s.NeedActed t n := by
  have state : u.stateOf n = s.stateOf n := stateOf_of_recs same n
  have travel : u.travel? n = s.travel? n := congrArg ChState.travel? state
  unfold State.NeedActed at acted ⊢
  rw [state, travel] at acted
  exact acted

/-- Settles O32: the first review hands each channel its need, and nothing that follows in the command undoes what this makes. -/
theorem reviewsRecomputeAndAct : Obligations.ReviewsRecomputeAndAct := by
  refine ⟨fun s deciding timer => ?_, needReaches_iff, fun s deciding held => ?_, fun s idle held => ?_⟩
  · obtain ⟨cfg, config, reread⟩ := deciding_iff.mp deciding
    have runs : due s.eval.timer = true := by rw [timer]; rfl
    have asked : ({ s with eval := { s.eval with timer := some 10 } } : State).askReview.reviewDue = true := askReview_due deciding
    have kept := askReview_kept ({ s with eval := { s.eval with timer := some 10 } } : State)
    refine ⟨_, (rfl : exec .timedReview s = execTimedReview s).trans (if_pos runs), ?_, (finish_kept _).trans kept, fun n reaches => ?_⟩
    · exact (finish_eval_of_due ((kept_config kept).trans config) ((kept_rereading kept).trans reread) asked).2
    · exact NeedActed_congr (u := ({ s with eval := { s.eval with timer := some 10 } } : State).askReview)
        (State.askReview_recs ({ s with eval := { s.eval with timer := some 10 } } : State))
        (finish_needActed ((kept_config kept).trans config) ((kept_rereading kept).trans reread) asked reaches)
  · obtain ⟨cfg, config, reread⟩ := deciding_iff.mp deciding
    have runs : due s.eval.reopen = true := by rw [held]; rfl
    have asked : ({ s with eval := { s.eval with reopen := none } } : State).askReview.reviewDue = true := askReview_due deciding
    have kept := askReview_kept ({ s with eval := { s.eval with reopen := none } } : State)
    obtain ⟨eval, judged⟩ := finish_eval_of_due ((kept_config kept).trans config) ((kept_rereading kept).trans reread) asked
    refine ⟨_, (rfl : exec .reopenHoldExpiry s = execReopenHoldExpiry s).trans (if_pos runs), judged, (finish_kept _).trans kept,
      fun threat => ?_⟩
    rw [eval]
    show nextReopen cfg _ _ _ = none
    rw [State.askReview_eval, threat]
    unfold nextReopen
    split
    · rfl
    · rw [Bool.and_false, if_neg Bool.false_ne_true]
  · have runs : due s.eval.reopen = true := by rw [held]; rfl
    have still : ({ s with eval := { s.eval with reopen := none } } : State).askReview = { s with eval := { s.eval with reopen := none } } :=
      if_neg (by rw [show ({ s with eval := { s.eval with reopen := none } } : State).deciding = false from idle]; decide)
    refine ⟨_, (rfl : exec .reopenHoldExpiry s = execReopenHoldExpiry s).trans (if_pos runs), ?_, ?_⟩
    · rw [still]
      exact finish_kept _
    · rw [still]
      obtain ⟨r, e, ends⟩ := finish_of_not_deciding (s := { s with eval := { s.eval with reopen := none } }) idle
      rw [ends]

end

end Sys2Proof.Machine
